-- ==== Sys2Proof/Word.lean ====
section
/-! DEFINITION. The words of the model: a byte, and a block of 4,096 bytes (00_scope.md 4.2). -/

namespace Sys2Proof

/-- One byte. -/
abbrev Byte := BitVec 8

/-- One block of 4,096 bytes, written from its first byte on. Bytes past the end of the list are zero,
so that the zero block is the empty list. -/
abbrev Block := List Byte

/-- Bytes in a block (00_scope.md 4.2). -/
def blockBytes : Nat := 4096

end Sys2Proof
end

