-- ==== Sys2Proof/Config.lean ====
section
/-! DEFINITION. What an SB240 fixes: the capacities of its tables, the defaults of its settings, and the
two values the manual leaves open (free values: constants with no body). -/

namespace Sys2Proof.Config

/-- The part's revision number (R143, R207). The manual names the field and gives no number: a free
value (notes/assumptions/5.md). -/
opaque partRevision : BitVec 16

/-- A SET_RANGE of a fixed entry whose mode byte names no mode is answered PROTECTED, and not INVALID. R154 puts the
fixed flag (test 2, "whatever values it carries") before the mode (test 3), R201 puts the mode byte before every test of
R154, and nothing in the manual says which rule yields: a free value (notes/assumptions/35.md). -/
opaque fixedBeforeMode : Bool

/-- LOG_BASE: the absolute block of log block 0 (R3). -/
def logBase : Nat := 8
/-- Command frames of the buffer memory (R133). -/
def commandFrames : Nat := 16384
/-- Merge frames of one context (R84). -/
def mergeFrames : Nat := 1024
/-- Entries of the extent index (R67). -/
def indexCapacity : Nat := 65536
/-- `used + reserved` at which the index is under pressure (R77). -/
def pressureAt : Nat := 61440
/-- Extents at which a band is at its extent limit (R73). -/
def extentLimit : Nat := 3840
/-- The most `extents + reserved` a band may have for a further reservation (R16). -/
def bandIndexRoom : Nat := 4094
/-- Entries of the record table (R45). -/
def recordCapacity : Nat := 32768
/-- Entries of the event queue (R170). -/
def eventCapacity : Nat := 64
/-- Events an EVENTS block carries (R171). -/
def eventsPerBlock : Nat := 32
/-- Entries of the response list (R175). -/
def responseCapacity : Nat := 8
/-- Entries of the Referral Queue (R157). -/
def referralCapacity : Nat := 4
/-- Ids of the expired-id list (R162). -/
def expiredCapacity : Nat := 4
/-- Entries of the merge request list (R86). -/
def requestCapacity : Nat := 64
/-- Abandoned merges at which a band is FAULTED (R21, R23). -/
def mergeFailures : Nat := 3
/-- Records the tail trigger examines (R90). -/
def tailWalk : Nat := 64
/-- Reads of one context in flight (R96, R62). -/
def readsInFlight : Nat := 8
/-- Blocks of a target unit and of an old-band read (R96, R97). -/
def unitBlocks : Nat := 256
/-- Data blocks of a record (R12). -/
def recordData : Nat := 128
/-- Blocks of a drive command, and bands of a BAND_QUERY (R112). -/
def driveMax : Nat := 8192
/-- Free bands of the merge reserve (R28). -/
def mergeReserve : Nat := 2
/-- The largest pacing credit (R18). -/
def creditMax : Nat := 65535
/-- Ticks of the link-down timer (R125). -/
def linkDownTicks : Nat := 300
/-- Pages of the control window (R167). -/
def windowPages : Nat := 256
/-- Blocks of a READ, WRITE or OTHER (R6, R127). -/
def maxTransfer : Nat := 1024
/-- Reply bytes of ANSWER (R164). -/
def maxReply : Nat := 3840
/-- The default LOG_LEN (R3). -/
def defaultLogLen : Nat := 262144
/-- The default R (R4). -/
def defaultSpares : Nat := 8

end Sys2Proof.Config
end

