-- ==== Sys2Proof/Syntax.lean ====
section
/-! DEFINITION. The commands of the part: one constructor per row of spec/opcode_table.json.
The table gives the rows no operand fields. The operands are what the rule of the row says arrives with
the step: see notes/assumptions/6.md (DESIGN CHOICE). -/

namespace Sys2Proof

/-- The completion code of a drive command (R117). A completion with a code outside the five named ones
is `unnamed`, and R117 takes it as OTHER_ERROR. -/
inductive DriveCode where
  | good
  | mediumError
  | alignError
  | aborted
  | otherError
  | unnamed (c : Byte)
  deriving DecidableEq, Repr

/-- The commands. `tag` is the initiator's tag (R127), `slot` the drive tag a completion names (R112),
`ctx` a merge context (R84), `num` a directive number (R200). -/
inductive Instr where
  /-- RESET_N_ASSERT (R182). -/
  | resetNAssert
  /-- RESET_N_RELEASE (R182): the level of the WINDOW_EN strap is sampled (R5). -/
  | resetNRelease (windowEn : Bool)
  /-- TICK (R209). -/
  | tick
  /-- LINK_DOWN_TIMER_EXPIRY (R125). -/
  | linkDownTimerExpiry
  /-- REFERRAL_EXPIRY_FIRST (R160) of the referral `id`. -/
  | referralExpiryFirst (id : BitVec 16)
  /-- REFERRAL_EXPIRY_LATE (R161) of the referral `id`. -/
  | referralExpiryLate (id : BitVec 16)
  /-- DRIVE_PORT_LINK_RESET (R120). -/
  | drivePortLinkReset
  /-- DRIVE_LINK_UP (R121). -/
  | driveLinkUp
  /-- UPSTREAM_LINK_RESET (R146). -/
  | upstreamLinkReset
  /-- READ (R130). -/
  | read (tag : Fin 32) (lba : BitVec 64) (count : BitVec 32)
  /-- WRITE (R135). -/
  | write (tag : Fin 32) (lba : BitVec 64) (count : BitVec 32)
  /-- DISCARD (R141). -/
  | discard (tag : Fin 32) (lba : BitVec 64) (count : BitVec 32)
  /-- FLUSH (R140). -/
  | flush (tag : Fin 32)
  /-- IDENTIFY (R143). -/
  | identify (tag : Fin 32)
  /-- OTHER (R144): opcode byte, parameter bytes, data direction code, transfer length (R127, R199). -/
  | other (tag : Fin 32) (opcode : Byte) (params : List Byte) (dir : Byte) (count : BitVec 32)
  /-- FRAME_UNKNOWN_CLASS (R127): a frame whose class code is not one of the six. -/
  | frameUnknownClass (tag : Fin 32) (cls : Byte)
  /-- EVENTS_PAGE_READ (R171): a one-block READ frame of window page 1. -/
  | eventsPageRead (tag : Fin 32)
  /-- WRITE_DATA_BLOCK (R135): the next solicited block of the command on `tag`. -/
  | writeDataBlock (tag : Fin 32) (block : Block)
  /-- WINDOW_WRITE_IGNORED (R168): the next block of a window WRITE, to a page other than DIRECTIVE. -/
  | windowWriteIgnored (tag : Fin 32) (block : Block)
  /-- DIRECTIVE_UNKNOWN_CODE (R174). -/
  | directiveUnknownCode (tag : Fin 32) (num : BitVec 32) (code : Byte)
  /-- SET_POLICY (R176, R200). -/
  | setPolicy (tag : Fin 32) (num : BitVec 32) (lowQ highQ hardQ : Byte) (gap : BitVec 16)
      (paceQ : Byte) (burst : BitVec 16) (contexts timeout : Byte)
  /-- SET_DISPOSITION (R176, R200). -/
  | setDisposition (tag : Fin 32) (num : BitVec 32) (cls disp : Byte)
  /-- SET_RANGE (R154, R200). -/
  | setRange (tag : Fin 32) (num : BitVec 32) (index mode fixed : Byte) (start length : BitVec 64)
  /-- SET_ALERTS (R176, R200). -/
  | setAlerts (tag : Fin 32) (num : BitVec 32) (mask : Byte)
  /-- ACK_ALERTS (R177, R200). -/
  | ackAlerts (tag : Fin 32) (num : BitVec 32) (mask : Byte)
  /-- CLEAR_FLAGS (R177). -/
  | clearFlags (tag : Fin 32) (num : BitVec 32)
  /-- QUERY (R177, R200). -/
  | query (tag : Fin 32) (num : BitVec 32) (lba : BitVec 64)
  /-- ANSWER with action COMPLETE (R164, R200). -/
  | answerComplete (tag : Fin 32) (num : BitVec 32) (id : BitVec 16) (code : Byte) (len : BitVec 16)
      (reply : List Byte)
  /-- ANSWER with action RELEASE (R165, R200). -/
  | answerRelease (tag : Fin 32) (num : BitVec 32) (id : BitVec 16)
  /-- STOP (R111). -/
  | stop (tag : Fin 32) (num : BitVec 32)
  /-- CLEAN (R109, R200). -/
  | clean (tag : Fin 32) (num : BitVec 32) (band : BitVec 32)
  /-- DRAIN (R110). -/
  | drain (tag : Fin 32) (num : BitVec 32)
  /-- FORMAT (R193, R200). -/
  | format (tag : Fin 32) (num : BitVec 32) (bandBlocks : BitVec 32) (spares : BitVec 16)
      (logLen : BitVec 32)
  /-- RESTART (R194). -/
  | restart (tag : Fin 32) (num : BitVec 32)
  /-- ACCEPT_QUEUE_TAKE (R134). -/
  | acceptQueueTake
  /-- ADMISSION (R16). -/
  | admission
  /-- INTERNAL_RECORD_POSITION (R17). -/
  | internalRecordPosition
  /-- DRIVE_GRANT (R115). -/
  | driveGrant
  /-- DRIVE_STALE_COMPLETION (R117). -/
  | driveStaleCompletion (slot : Fin 32) (code : DriveCode)
  /-- FOREGROUND_READ_COMPLETE (R118), with the blocks the drive returned. -/
  | foregroundReadComplete (slot : Fin 32) (code : DriveCode) (blocks : List Block)
  /-- FORWARDED_DATA_IN (R118). -/
  | forwardedDataIn (slot : Fin 32) (blocks : List Block)
  /-- FORWARDED_COMMAND_COMPLETE (R118). -/
  | forwardedCommandComplete (slot : Fin 32) (code : DriveCode)
  /-- RECORD_WRITE_COMPLETE (R49). -/
  | recordWriteComplete (slot : Fin 32) (code : DriveCode)
  /-- VOID_REWRITE_COMPLETE (R53). -/
  | voidRewriteComplete (slot : Fin 32) (code : DriveCode)
  /-- SETTLEMENT (R50). -/
  | settlement
  /-- RECLAIM_ADVANCE (R56). -/
  | reclaimAdvance
  /-- ANCHOR_WRITE_COMPLETE (R60). -/
  | anchorWriteComplete (slot : Fin 32) (code : DriveCode)
  /-- APPEND_ISSUE (R32) of the append queue of logical band `band`. -/
  | appendIssue (band : BitVec 32)
  /-- APPEND_WRITE_COMPLETE (R33). -/
  | appendWriteComplete (slot : Fin 32) (code : DriveCode)
  /-- BAND_QUERY_COMPLETE (R119), with the write pointers reported, in band order. -/
  | bandQueryComplete (slot : Fin 32) (code : DriveCode) (wps : List Nat)
  /-- BAND_RESET_OFFER (R40). -/
  | bandResetOffer
  /-- BAND_RESET_COMPLETE (R41). -/
  | bandResetComplete (slot : Fin 32) (code : DriveCode)
  /-- TARGET_BAND_HANDED (R29). -/
  | targetBandHanded
  /-- MERGE_START (R88). -/
  | mergeStart
  /-- MERGE_SNAPSHOT (R93). -/
  | mergeSnapshot (ctx : Fin 2)
  /-- MERGE_READ_ISSUE (R96). -/
  | mergeReadIssue (ctx : Fin 2)
  /-- MERGE_READ_COMPLETE (R96). -/
  | mergeReadComplete (slot : Fin 32) (code : DriveCode) (blocks : List Block)
  /-- TARGET_UNIT_OFFER (R97). -/
  | targetUnitOffer (ctx : Fin 2)
  /-- TARGET_UNIT_COMPLETE (R97). -/
  | targetUnitComplete (slot : Fin 32) (code : DriveCode)
  /-- CONTEXT_IDLE (R100). -/
  | contextIdle (ctx : Fin 2)
  /-- CARRY_FORWARD_READ_COMPLETE (R62). -/
  | carryForwardReadComplete (slot : Fin 32) (code : DriveCode) (blocks : List Block)
  /-- COMMAND_STATUS (R137) of the command on `tag`. -/
  | commandStatus (tag : Fin 32)
  /-- FLUSH_DONE (R140) of the FLUSH on `tag`. -/
  | flushDone (tag : Fin 32)
  /-- MOUNT_START (R183). -/
  | mountStart
  /-- DRIVE_IDENTIFY_COMPLETE (R183): P, S, CR, model text and serial text (R112). -/
  | driveIdentifyComplete (slot : Fin 32) (code : DriveCode) (bands bandBlocks conv : Nat)
      (model serial : List Byte)
  /-- MOUNT_ANCHOR_READ_COMPLETE (R184). -/
  | mountAnchorReadComplete (slot : Fin 32) (code : DriveCode) (block : Block)
  /-- MOUNT_HEADER_READ_COMPLETE (R185). -/
  | mountHeaderReadComplete (slot : Fin 32) (code : DriveCode) (block : Block)
  /-- REPLAY_READ_COMPLETE (R186): a header block, or the data blocks of a DATA record. -/
  | replayReadComplete (slot : Fin 32) (code : DriveCode) (blocks : List Block)
  /-- CLAIM_RESOLUTION (R188). -/
  | claimResolution
  /-- FORMAT_QUIESCE_DONE (R193). -/
  | formatQuiesceDone
  /-- FORMAT_LOG_CLEAR_COMPLETE (R193). -/
  | formatLogClearComplete (slot : Fin 32) (code : DriveCode)
  /-- FORMAT_BAND_RESET_COMPLETE (R193). -/
  | formatBandResetComplete (slot : Fin 32) (code : DriveCode)
  /-- FORMAT_ANCHOR_WRITE_COMPLETE (R193). -/
  | formatAnchorWriteComplete (slot : Fin 32) (code : DriveCode)
  /-- ANSWER_UNKNOWN_ACTION (R201). -/
  | answerUnknownAction (tag : Fin 32) (num : BitVec 32) (id : BitVec 16) (action : Byte)
  deriving DecidableEq, Repr

end Sys2Proof
end

