-- ==== Sys2Proof/Machine/State.lean ====
section
/-! DEFINITION. The state of the part as plain data, block by block (00_scope.md 2.2), the reasons a step
can stop, and the machine right after reset. -/

namespace Sys2Proof.Machine

/-! ### Enumerations (R208) -/

/-- The global modes (R181). -/
inductive Mode where
  | offline | mounting | active | degraded | halted | formatting
  deriving DecidableEq, Repr

/-- The halt reasons (R169, R181). -/
inductive HaltReason where
  | none | blank | anchorBad | geometryMismatch | driveLost
  deriving DecidableEq, Repr

/-- The log levels (R15). -/
inductive Level where
  | normal | reclaim | pressure | full
  deriving DecidableEq, Repr

/-- The ten completion codes (R129). `prot` is PROTECTED. -/
inductive Code where
  | good | notReady | mediumError | prot | readOnly | outOfRange | invalidField | tagConflict
  | unsupported | aborted
  deriving DecidableEq, Repr

/-- The ten result codes of directives (10.4). `prot` is PROTECTED. -/
inductive Result where
  | done | pending | busy | invalid | notReady | prot | unknownId | tooLate | failed | cancelled
  deriving DecidableEq, Repr

/-- The command classes (R127). -/
inductive Cls where
  | read | write | discard | flush | identify | other
  deriving DecidableEq, Repr

/-- The data direction of an OTHER command (R127). -/
inductive Dir where
  | noData | dataIn | dataOut
  deriving DecidableEq, Repr

/-- The dispositions (R132). -/
inductive Disp where
  | translate | pass | refer | reject
  deriving DecidableEq, Repr

/-- The kinds of a log record (R43). -/
inductive RecKind where
  | data | pad | discard | commit | void
  deriving DecidableEq, Repr

/-- The states of a record (R46). -/
inductive RecState where
  | issued | completed | settled | reclaimed
  deriving DecidableEq, Repr

/-- The states of a logical band (R22). -/
inductive LState where
  | empty | filling | full | suspect | merging | faulted
  deriving DecidableEq, Repr

/-- The states of a physical band (R26). `unjudged` is the pool "still without states" during mount
(R184). -/
inductive PState where
  | free | mapped | target | resetPending | retired | unjudged
  deriving DecidableEq, Repr

/-- The kinds of an extent (R68). -/
inductive ExtKind where
  | data | zero
  deriving DecidableEq, Repr

/-- The states of a merge context (R84). -/
inductive CtxState where
  | idle | waitAppend | waitBand | copy | commit | release
  deriving DecidableEq, Repr

/-- The sources of a context's work (R84, R88). -/
inductive MergeOrigin where
  | tail | urgent | index | directive | drain
  deriving DecidableEq, Repr

/-- The modes of a retention range (R149). -/
inductive RangeMode where
  | off | observe | hold
  deriving DecidableEq, Repr

/-- The stages of a referral (R157). -/
inductive Stage where
  | first | late
  deriving DecidableEq, Repr

/-- The alert classes in their fixed order (R173). -/
inductive Alert where
  | drive | mode | log | referral | protection | capacity | events | directive
  deriving DecidableEq, Repr

/-- The event kinds, in the order of the table of R172. -/
inductive EventKind where
  | mountDone | modeChange | levelChange | mergeDone | mergeAbandoned | bandSuspect | bandFaulted
  | bandRetired | logVoid | anchorFail | driveLink | refused | referralNew | referralLate
  | referralTimeout | directiveDone
  deriving DecidableEq, Repr

/-- The arbiter classes (R113). -/
inductive ArbClass where
  | a | b | c | d | e | f
  deriving DecidableEq, Repr

/-! ### The part as a whole -/

/-- What DRIVE_IDENTIFY returns of the geometry (R1, R112): P, S and CR. -/
structure DriveGeo where
  bands : Nat
  bandBlocks : Nat
  conv : Nat
  deriving DecidableEq, Repr

/-- The geometry in force (R1, R3, R4): S, P, R, CR, LOG_LEN. All zero while the part holds none. -/
structure Layout where
  bandBlocks : Nat := 0
  bands : Nat := 0
  spares : Nat := 0
  conv : Nat := 0
  logLen : Nat := 0
  deriving DecidableEq, Repr

/-- D = S - 1 (R4). -/
abbrev Layout.dataBlocks (g : Layout) : Nat := g.bandBlocks - 1
/-- E = P - R (R4). -/
abbrev Layout.logBands (g : Layout) : Nat := g.bands - g.spares

/-- Pins, the global mode and the drive's identity. -/
structure Sys where
  /-- RESET_N is asserted (R182). -/
  inReset : Bool := false
  /-- WINDOW_EN as sampled at the release of RESET_N (R5). -/
  windowEn : Bool := true
  mode : Mode := .offline
  halt : HaltReason := .none
  /-- P, S, CR of the last DRIVE_IDENTIFY since RESET_N (R179, R191). -/
  drive : Option DriveGeo := none
  /-- The drive's serial text, 20 characters (R143). -/
  serial : List Byte := List.replicate 20 0x20
  layout : Layout := {}
  deriving DecidableEq, Repr

/-! ### Settings -/

/-- The policy fields (R176). -/
structure Policy where
  lowQ : Nat := 128
  highQ : Nat := 192
  hardQ : Nat := 240
  gap : Nat := 256
  paceQ : Nat := 4
  burst : Nat := 2048
  contexts : Nat := 2
  timeout : Nat := 50
  deriving DecidableEq, Repr

/-- The Disposition Table (R132). -/
structure DispTable where
  read : Disp := .translate
  write : Disp := .translate
  discard : Disp := .translate
  flush : Disp := .translate
  identify : Disp := .translate
  other : Disp := .reject
  deriving DecidableEq, Repr

/-- The control window's working copy of the settings, but for the retention ranges. -/
structure Settings where
  policy : Policy := {}
  disp : DispTable := {}
  /-- One enable per alert class, at its bit number (R173, R208). -/
  enables : BitVec 8 := 0xFF
  /-- Mount or FORMAT has set the settings since the last RESET_N or RESTART (R132, R160). -/
  loaded : Bool := false
  deriving DecidableEq, Repr

/-! ### Retention ranges -/

/-- An entry of the Retention Range Table (R149). -/
structure RangeEntry where
  start : Nat := 0
  length : Nat := 0
  mode : RangeMode := .off
  fixed : Bool := false
  activity : Bool := false
  count : Nat := 0
  deriving DecidableEq, Repr

/-- The content of a valid refused-command latch (R152). -/
structure Latch where
  tag : Nat
  cls : Cls
  lba : Nat
  count : Nat
  index : Nat
  deriving DecidableEq, Repr

/-- The Retention Range Table and the refused-command latch (chapter 8). -/
structure Retention where
  entries : List RangeEntry := List.replicate 8 {}
  latch : Option Latch := none
  more : Bool := false
  deriving DecidableEq, Repr

/-! ### Control window -/

/-- An event record (R172). An absent field is `none`. -/
structure Event where
  num : BitVec 16
  kind : EventKind
  band : Option Nat := none
  phys : Option Nat := none
  count : Option Nat := none
  code : Option Nat := none
  deriving DecidableEq, Repr

/-- An entry of the response list (R175). -/
structure Response where
  num : BitVec 32
  code : Byte
  result : Result
  data : List Byte := []
  deriving DecidableEq, Repr

/-- The directive that is pending (R174). -/
structure PendingDir where
  num : BitVec 32
  code : Byte
  deriving DecidableEq, Repr

/-- Events, responses and alerts (chapter 10). -/
structure Window where
  events : List Event := []
  nextEvent : BitVec 16 := 0
  overflow : Bool := false
  responses : List Response := []
  /-- The last directive block taken (page 2, R168). -/
  echo : Block := []
  dirPending : Option PendingDir := none
  /-- One pending flag per alert class, at its bit number (R173, R208). -/
  pending : BitVec 8 := 0
  deriving DecidableEq, Repr

/-! ### Referral Queue -/

/-- An entry of the Referral Queue (R157). -/
structure ReferralEntry where
  id : Nat
  tag : Nat
  cls : Cls
  lba : Nat
  count : Nat
  opcode : Byte
  params : List Byte
  dir : Dir
  stage : Stage
  ticks : Nat
  deriving DecidableEq, Repr

/-- The Referral Queue (chapter 9). -/
structure Referral where
  queue : List ReferralEntry := []
  nextId : Nat := 1
  expired : List Nat := []
  deriving DecidableEq, Repr

/-! ### Initiator port -/

/-- What a drive read pins (R20, R38, R45): a record, by its seq, or a physical band. -/
inductive Pin where
  | record (seq : Nat)
  | band (p : Nat)
  deriving DecidableEq, Repr

/-- The kinds of a read segment (R19). -/
inductive SegKind where
  | log | band | zero | beyondFill
  deriving DecidableEq, Repr

/-- A segment of a READ (R19): `outcome` is absent until the segment is final, then says whether it was
GOOD (R138). -/
structure Seg where
  kind : SegKind
  /-- First absolute block of the source; 0 for a zero segment. -/
  abs : Nat
  n : Nat
  pin : Option Pin
  outcome : Option Bool := none
  data : List Block := []
  deriving DecidableEq, Repr

/-- The outcome of a part of a command (R137). `replaced` is a re-placed append entry, or a held record
dropped by an upstream link reset: it has no outcome of its own. -/
inductive PartState where
  | pending
  | done
  | failed (c : Code)
  | replaced
  deriving DecidableEq, Repr

/-- The states of a command context that is not FREE (R128). -/
inductive CmdState where
  | waiting | receiving | working | referred
  deriving DecidableEq, Repr

/-- A command from its acceptance to its status (R128). -/
structure Cmd where
  /-- The model's identity of the command (R140: a set "kept by command, not by tag"). -/
  cid : Nat
  tag : Nat
  cls : Cls
  lba : Nat := 0
  count : Nat := 0
  opcode : Byte := 0
  params : List Byte := []
  dir : Dir := .noData
  st : CmdState := .working
  /-- While WAITING: it waits for a referral entry, not for frames (R134). -/
  refer : Bool := false
  /-- A window command (R167) and its first page. -/
  window : Bool := false
  page : Nat := 0
  /-- Command frames reserved (R133). -/
  frames : Nat := 0
  /-- The blocks received so far, in order (R135); of a forwarded command with data-in, those its present
  attempt has passed to the initiator (R118). -/
  data : List Block := []
  /-- Window blocks taken so far (R167). -/
  taken : Nat := 0
  parts : List PartState := []
  /-- The first failure code (R137). -/
  fail : Option Code := none
  segs : List Seg := []
  /-- The return cursor (R139): segments sent. -/
  cursor : Nat := 0
  /-- The set of a FLUSH (R140): the commands it waits for. -/
  waits : List Nat := []
  deriving DecidableEq, Repr

/-- An entry of the hold queue (R136). -/
structure HoldEntry where
  /-- DATA, or DISCARD. -/
  kind : RecKind
  full : Bool := false
  band : Nat
  off : Nat
  n : Nat
  cid : Nat
  /-- The part of the command it is (R135). -/
  part : Nat
  /-- The first of the command's frames that hold its blocks. -/
  first : Nat := 0
  deriving DecidableEq, Repr

/-- What the part sends on the initiator link. -/
inductive InitOut where
  /-- A status: tag and completion code (R129). -/
  | status (tag : Nat) (code : Code)
  /-- Data blocks of a command, in order. -/
  | data (tag : Nat) (blocks : List Block)
  /-- The solicitation of `n` blocks of write data (R135). -/
  | solicit (tag : Nat) (n : Nat)
  /-- The data passed for a forwarded command so far is discarded: its drive command is reissued, and the data
  that follows takes its place (R118; notes/assumptions/46.md). -/
  | retract (tag : Nat)
  deriving DecidableEq, Repr

/-- The initiator port, the classifier's commands and the hold queue (chapter 7). -/
structure Initiator where
  /-- One context per tag; `none` is FREE. -/
  tags : List (Option Cmd) := List.replicate 32 none
  /-- The accept queue, by tag (R134). -/
  accept : List Nat := []
  detached : List Cmd := []
  hold : List HoldEntry := []
  /-- The model's counter of commands. -/
  nextCid : Nat := 0
  /-- What the part has sent to the initiator, oldest first: the model's record of the link. -/
  sent : List InitOut := []
  deriving DecidableEq, Repr

/-! ### Placement unit -/

/-- The log level and the pacing credit (R15, R18). -/
structure Pace where
  level : Level := .normal
  credit : Nat := 0
  rem : Nat := 0
  deriving DecidableEq, Repr

/-! ### Band map -/

/-- An append entry (R31). -/
structure AppendEntry where
  /-- ALLOCATE, or DIRECT. -/
  allocate : Bool
  band : Nat
  start : Nat
  gap : Nat
  off : Nat
  n : Nat
  cid : Nat
  part : Nat
  /-- The first of the command's frames that hold its blocks. -/
  first : Nat
  /-- The base seq of the header an ALLOCATE write carries (R30). -/
  base : Nat
  /-- Its drive write has been offered and has not completed. -/
  issued : Bool := false
  deriving DecidableEq, Repr

/-- Length of the drive write of an append entry (R31). -/
def AppendEntry.len (e : AppendEntry) : Nat := (if e.allocate then 1 else 0) + e.gap + e.n

/-- An entry of the Logical Band Table (R21), with the index's reserved count of the band (R69). -/
structure LBand where
  st : LState := .empty
  phys : Option Nat := none
  f : Nat := 0
  pf : Nat := 0
  floor : Nat := 0
  resume : Option LState := none
  unsettled : Nat := 0
  queue : List AppendEntry := []
  failures : Nat := 0
  reserved : Nat := 0
  deriving DecidableEq, Repr

/-- An entry of the Physical Band Pool (R26). -/
structure PBand where
  st : PState := .unjudged
  owner : Option Nat := none
  wp : Nat := 0
  writeOut : Bool := false
  readers : Nat := 0
  resetIssued : Bool := false
  refresh : Bool := false
  deriving DecidableEq, Repr

/-- The band map (chapter 2). -/
structure Bands where
  lbt : List LBand := []
  pool : List PBand := []
  free : List Nat := []
  resetPend : List Nat := []
  deriving DecidableEq, Repr

/-! ### Staging log controller -/

/-- Who is told of a record's settlement (R45). -/
inductive Origin where
  | none
  /-- A part of a command, which admitted the record from the hold queue. -/
  | cmd (cid part : Nat)
  /-- The merge of a context. -/
  | merge (ctx : Nat)
  /-- The carry-forward pass of a context. -/
  | carry (ctx : Nat)
  deriving DecidableEq, Repr

/-- What holds back settlement at a record (R54, R55). -/
inductive Barrier where
  | r54 | r55
  deriving DecidableEq, Repr

/-- An entry of the record table (R45), with the header fields of its kind (R43). -/
structure Rec where
  seq : Nat
  pos : Nat
  len : Nat
  kind : RecKind
  band : Option Nat := none
  live : Nat := 0
  readers : Nat := 0
  st : RecState := .issued
  void : Bool := false
  awaited : List Nat := []
  origin : Origin := .none
  /-- DATA and DISCARD: first offset and count or length. -/
  off : Nat := 0
  n : Nat := 0
  full : Bool := false
  /-- DATA: the first of the frames that hold its blocks. -/
  first : Nat := 0
  /-- COMMIT: old band, new band, snapshot seq, new fill. -/
  oldBand : Option Nat := none
  newBand : Option Nat := none
  snapSeq : Nat := 0
  newFill : Nat := 0
  /-- It carries a reservation of 2 + 2 index entries (R70). -/
  reserve : Bool := false
  /-- Carry-forward: the seq of the record and the start of the extent it carries (R63). -/
  carries : Option (Nat × Nat) := none
  barrier : Option Barrier := none
  /-- The completion code of the failed write (R53). -/
  failCode : DriveCode := .good
  deriving DecidableEq, Repr

/-- The content of an anchor write (R59). -/
structure AnchorWrite where
  tail : Nat
  tailSeq : Nat
  block : Block
  /-- The settings directive it carries. -/
  dir : Option (BitVec 32) := none
  deriving DecidableEq, Repr

/-- The anchor writer (R59). The in-flight flag is set when `flight` holds a write. -/
structure AnchorWriter where
  flight : Option AnchorWrite := none
  dirty : Bool := false
  failures : Nat := 0
  deriving DecidableEq, Repr

/-- Internal records that wait for a position (R17): a context's COMMIT record, or the records of a
context's carry-forward pass as one group. -/
inductive Waiting where
  | commit (ctx : Nat)
  | carry (ctx : Nat)
  deriving DecidableEq, Repr

/-- The staging log controller (chapter 3). -/
structure Log where
  head : Nat := 0
  reclaim : Nat := 0
  tail : Nat := 0
  /-- The occupancy O. -/
  occ : Nat := 0
  nextSeq : Nat := 0
  settled : Nat := 0
  table : List Rec := []
  anchor : AnchorWriter := {}
  /-- The record whose last carry-forward pass failed (R64). -/
  carryFail : Option Nat := none
  /-- Target holds: band and hold seq (R58). -/
  holds : List (Nat × Nat) := []
  waiting : List Waiting := []
  deriving DecidableEq, Repr

/-! ### Extent index -/

/-- An extent (R68). Its record is the record-table entry with the same seq. -/
structure Extent where
  start : Nat
  len : Nat
  kind : ExtKind
  seq : Nat
  /-- Log position of its first block; meaningless for ZERO. -/
  lp : Nat
  deriving DecidableEq, Repr

/-- The extent index (chapter 4). -/
structure Index where
  extents : List Extent := []
  reserved : Nat := 0
  pressure : Bool := false
  deriving DecidableEq, Repr

/-! ### Merge engine -/

/-- The sources of a move step (R95). -/
inductive StepSrc where
  | log (lp seq : Nat)
  | oldBand
  | zero
  deriving DecidableEq, Repr

/-- A move step (R95): `n` offsets from `off`. -/
structure MoveStep where
  src : StepSrc
  off : Nat
  n : Nat
  deriving DecidableEq, Repr

/-- A read of a chain (R96). -/
structure ChainRead where
  off : Nat
  n : Nat
  abs : Nat
  pin : Pin
  deriving DecidableEq, Repr

/-- A carry-forward pass (R62 to R64). -/
structure CarryPass where
  /-- The record carried forward. -/
  seq : Nat
  list : List Extent
  /-- DATA extents whose read has been issued. -/
  issued : Nat := 0
  /-- Reads in flight: index among the list's DATA extents. -/
  flight : List Nat := []
  /-- Blocks read, per DATA extent. -/
  got : List (Nat × List Block) := []
  blocksRead : Nat := 0
  /-- Records of the pass not yet settled, once positioned. -/
  left : Nat := 0
  /-- The completion code of a record of the pass that settled void. -/
  voided : Option DriveCode := none
  /-- Blocks carried by the records settled so far. -/
  carried : Nat := 0
  deriving DecidableEq, Repr

/-- A merge context (R84). The write front of the chain is `copied`. -/
structure MergeCtx where
  st : CtxState := .idle
  band : Option Nat := none
  origin : Option MergeOrigin := none
  resume : Option LState := none
  old : Option Nat := none
  target : Option Nat := none
  snapSeq : Option Nat := none
  snap : List Extent := []
  /-- L's fill at the snapshot (R95). -/
  fill : Nat := 0
  newFill : Nat := 0
  chain : List MoveStep := []
  /-- Read front: reads of the chain issued so far. -/
  front : Nat := 0
  copied : Nat := 0
  /-- Reads in flight: first offset and count. -/
  reads : List (Nat × Nat) := []
  /-- The target write outstanding. -/
  unitOut : Bool := false
  /-- The blocks read and not yet written, by offset: the merge frames in use. -/
  ready : List (Nat × Block) := []
  clean : Bool := false
  /-- The records pinned at the snapshot (R93). -/
  pins : List Nat := []
  /-- The COMMIT record has been positioned. -/
  positioned : Bool := false
  carry : Option CarryPass := none
  deriving DecidableEq, Repr

/-- An entry of the merge request list (R86). -/
structure MergeReq where
  band : Nat
  urgent : Bool
  clean : Bool := false
  deriving DecidableEq, Repr

/-- A drain in progress (R110). -/
structure Drain where
  cursor : Nat := 0
  merged : Nat := 0
  failed : Nat := 0
  stopped : Bool := false
  deriving DecidableEq, Repr

/-- The merge engine (chapter 5). -/
structure Merge where
  ctxs : List MergeCtx := List.replicate 2 {}
  reqs : List MergeReq := []
  rescan : Bool := false
  drain : Option Drain := none
  /-- The contexts in WAIT_BAND, the one that began waiting first at the head (R29). -/
  waitBand : List Nat := []
  deriving DecidableEq, Repr

/-! ### Drive port -/

/-- The drive commands (R112). Write data is not held here (chapter 6): `writeContent` gives it. -/
inductive DriveCmd where
  | read (abs n : Nat)
  | write (abs n : Nat)
  | bandReset (p : Nat)
  | bandQuery (p n : Nat)
  | identify
  | forwarded (opcode : Byte) (params : List Byte) (dir : Dir) (count : Nat)
  deriving DecidableEq, Repr

/-- The work a drive command does, and its owner (R113, R117). -/
inductive Work where
  /-- Segment `i` of the READ `cid`. -/
  | fgRead (cid i : Nat)
  | forwarded (cid : Nat)
  | record (seq : Nat)
  | voidRewrite (seq : Nat)
  | anchor
  /-- The append entry of logical band `l` that writes band `p` at `start`. -/
  | append (l p start : Nat)
  /-- The read of `n` offsets from `off` of a context's chain. -/
  | mergeRead (ctx off n : Nat)
  /-- Unit `i` of a context's target. -/
  | targetUnit (ctx i : Nat)
  /-- The read of the `i`-th DATA extent of a context's carry-forward pass. -/
  | carryRead (ctx i : Nat)
  | bandReset (p : Nat)
  | refreshQuery (p : Nat)
  | recoveryQuery (p : Nat)
  | mountQuery (p n : Nat)
  | mountIdentify
  | mountAnchor
  | mountHeader (p : Nat)
  /-- The header block at the replay position, or the data blocks behind it. -/
  | replayHeader
  | replayData
  | formatIdentify
  /-- The log-clearing write that begins at log block `k`. -/
  | formatClear (k n : Nat)
  | formatReset (p : Nat)
  | formatAnchor
  deriving DecidableEq, Repr

/-- An offer (R113). `band` is the physical band and the block within it of a band write; `attempt` is
1 until a link reset makes the port offer it again (R121); `order` is the order of its first grant. -/
structure Offer where
  cls : ArbClass
  work : Work
  cmd : DriveCmd
  band : Option (Nat × Nat) := none
  pin : Option Pin := none
  attempt : Nat := 1
  order : Nat := 0
  /-- The query stands in the place of a band write that a link reset aborted (R121, R122). -/
  standsIn : Bool := false
  deriving DecidableEq, Repr

/-- A busy drive slot (R114). `discard` marks a command whose completion is discarded (R126). -/
structure Slot where
  offer : Offer
  discard : Bool := false
  deriving DecidableEq, Repr

/-- A band write behind its recovery query (R122), and the errors the query has had. -/
structure Recovering where
  offer : Offer
  errors : Nat := 0
  deriving DecidableEq, Repr

/-- A command the part has sent to the drive: its drive tag, and the blocks of a write or of a forwarded command
with data-out. -/
structure DriveOut where
  slot : Nat
  cmd : DriveCmd
  blocks : List Block
  deriving DecidableEq, Repr

/-- The drive port (chapter 6). -/
structure Port where
  linkUp : Bool := false
  /-- The link-down timer, when it runs (R125). -/
  timer : Option Nat := none
  slots : List (Option Slot) := List.replicate 32 none
  /-- The offers that wait, the earliest first; those of one class are that class's list (R113). -/
  offers : List Offer := []
  awaiting : List Offer := []
  recovering : List Recovering := []
  /-- The model's counter of first grants (R121). -/
  nextOrder : Nat := 1
  /-- What the part has sent to the drive, oldest first: the model's record of the link. -/
  sent : List DriveOut := []
  deriving DecidableEq, Repr

/-! ### Mount unit -/

/-- The phases of mount (R183). `wait` is MOUNTING before the mount begins (R194). -/
inductive Phase where
  | none | wait | identify | queries | anchor | headers | replay | resolve
  deriving DecidableEq, Repr

/-- A candidate for a logical band (R185). -/
structure Candidate where
  p : Nat
  band : Nat
  base : Nat
  mark : Bool
  deriving DecidableEq, Repr

/-- A note of a replayed COMMIT (R187). -/
structure CommitNote where
  band : Nat
  newBand : Option Nat
  snapSeq : Nat
  deriving DecidableEq, Repr

/-- Mount progress (11.3). -/
structure Mount where
  phase : Phase := .none
  /-- The write pointers reported so far. -/
  wps : List (Option Nat) := []
  anchorErrors : Nat := 0
  /-- Bands whose header read has not completed finally, and those whose first read failed. -/
  headersOpen : List Nat := []
  headersRetried : List Nat := []
  candidates : List Candidate := []
  /-- Bands whose header is not valid. -/
  invalid : List Nat := []
  tailSeq : Nat := 0
  /-- Replay: position and seq expected, blocks and records accepted, the header that waits for its
  data. -/
  pos : Nat := 0
  seq : Nat := 0
  blocks : Nat := 0
  records : Nat := 0
  header : Option Block := none
  /-- Discard floors (R187). -/
  floors : List (Nat × Nat) := []
  notes : List CommitNote := []
  degraded : Bool := false
  deriving DecidableEq, Repr

/-- The steps of FORMAT (R193). -/
inductive FormatStep where
  | quiesce | identify | clear | resets | anchor
  deriving DecidableEq, Repr

/-- FORMAT progress (R193). -/
structure Format where
  step : FormatStep := .quiesce
  /-- The layout FORMAT lays down, with the P, S and CR its take was tested against. -/
  layout : Layout
  /-- It was taken in HALTED: its quiesce step ends at once. -/
  fromHalted : Bool := false
  /-- Log-clearing writes not yet GOOD, by first log block, and those that have failed once. -/
  clearsOpen : List Nat := []
  clearsRetried : List Nat := []
  /-- Bands whose reset has not completed. -/
  resetsOpen : List Nat := []
  retired : List Nat := []
  anchorErrors : Nat := 0
  deriving DecidableEq, Repr

/-! ### The whole -/

/-- The part: everything the manual gives it. -/
structure Part where
  sys : Sys := {}
  cfg : Settings := {}
  ret : Retention := {}
  win : Window := {}
  ref : Referral := {}
  ini : Initiator := {}
  pace : Pace := {}
  bands : Bands := {}
  log : Log := {}
  idx : Index := {}
  mrg : Merge := {}
  port : Port := {}
  mnt : Mount := {}
  fmt : Option Format := none
  deriving DecidableEq, Repr

/-- The machine: the part, and the commands that wait, first in first out. -/
structure State where
  part : Part := {}
  pending : List Instr := []
  deriving DecidableEq, Repr

/-- The reasons a step stops with a fault. There is none: the manual gives every command an effect, and
a step whose condition does not hold changes nothing (notes/assumptions/7.md). So the type has no
constructor; that no step faults is safe in that no claim rests on a stop. -/
inductive Fault where
  deriving DecidableEq, Repr

/-- The reasons a step is refused. -/
inductive Refusal where
  /-- Raised by exec's arm of a command that has no meaning yet; no arm does. Safe: the machine stops. -/
  | notModelled (mnemonic : String)
  deriving DecidableEq, Repr

/-- The machine right after the release of RESET_N (R182 and the tables R66, R126, R148, R149, R157, R180):
mode OFFLINE, every table empty, the settings at their defaults, the drive link DOWN. The strap's sampled
level is a DESIGN CHOICE (notes/assumptions/2.md). -/
def State.reset : State := {}

end Sys2Proof.Machine
end

