-- ==== Sys2Proof/Machine/Bytes.lean ====
section
/-! DEFINITION. Bytes and blocks: little-endian fields (R195), padding, and the check value (R65). -/

namespace Sys2Proof.Machine

/-- The `w` low bytes of `x`, little-endian (R195). -/
def le : Nat → Nat → List Byte
  | 0, _ => []
  | w + 1, x => BitVec.ofNat 8 x :: le w (x / 256)

/-- The number a little-endian list of bytes spells (R195). -/
def leNat : List Byte → Nat
  | [] => 0
  | b :: bs => b.toNat + 256 * leNat bs

/-- Byte `i` of a block. -/
def byteAt (b : Block) (i : Nat) : Byte := b.getD i 0

/-- The `w` bytes of a block from offset `off`. -/
def bytesAt (b : Block) (off w : Nat) : List Byte := (List.range w).map fun k => byteAt b (off + k)

/-- The little-endian field of `w` bytes at offset `off` (R195). -/
def field (b : Block) (off w : Nat) : Nat := leNat (bytesAt b off w)

/-- A field the owning rule calls absent: all ones across its width (R195). -/
def absent (w : Nat) : List Byte := List.replicate w 0xFF

/-- A field of `w` bytes that may be absent (R195). -/
def leOpt (w : Nat) : Option Nat → List Byte
  | none => absent w
  | some x => le w x

/-- The reading of a field of `w` bytes that may be absent (R195). -/
def optField (b : Block) (off w : Nat) : Option Nat :=
  if field b off w = 256 ^ w - 1 then none else some (field b off w)

/-- `n` zero bytes. -/
def zeros (n : Nat) : List Byte := List.replicate n 0

/-- A list of bytes as exactly `n` bytes: cut, or filled with `fill`. -/
def fit (n : Nat) (fill : Byte) (bs : List Byte) : List Byte :=
  bs.take n ++ List.replicate (n - bs.length) fill

/-- A block as its 4,096 bytes. -/
def fullBlock (b : Block) : List Byte := fit blockBytes 0 b

/-- A list of bytes as a block: at most 4,096 bytes, no trailing zero (so equal blocks are equal lists). -/
def toBlock (bs : List Byte) : Block := ((bs.take blockBytes).reverse.dropWhile (· == 0)).reverse

/-- A list of blocks as exactly `n` blocks, each in its one form. -/
def fitBlocks (n : Nat) (bs : List Block) : List Block :=
  (bs.take n).map toBlock ++ List.replicate (n - bs.length) []

/-- The ASCII bytes of a text. -/
def ascii (s : List Char) : List Byte := s.map fun c => BitVec.ofNat 8 c.toNat

/-- A flag as a byte. The manual gives 1 and 0 for the target mark and the full flag (R196, R197); 1 for a set flag of the
anchor (R198) and of the STATUS, EVENTS and RANGES pages (R202, R203, R206) is the model's choice
(notes/assumptions/22.md). -/
def flagByte (b : Bool) : Byte := if b then 1 else 0

/-- One bit of the check value: step 2 of R65. -/
def crcBit (reg : BitVec 32) (bit : Bool) : BitVec 32 :=
  if bit = reg.getLsbD 0 then reg >>> 1 else (reg >>> 1) ^^^ 0xEDB88320#32

/-- The bits of a byte, least significant first (R65). -/
def crcByte (reg : BitVec 32) (b : Byte) : BitVec 32 :=
  (List.range 8).foldl (fun r k => crcBit r (b.getLsbD k)) reg

/-- The check value of a list of bytes (R65). -/
def checkValue (bs : List Byte) : BitVec 32 := ~~~(bs.foldl crcByte 0xFFFFFFFF#32)

/-- A header's bytes up to its check value, the check value over them and the data blocks, as a block
(R65, R195). -/
def sealed (hdr : List Byte) (data : List Block) : Block :=
  toBlock (hdr ++ le 4 (checkValue (hdr ++ data.flatMap fullBlock)).toNat)

/-- Whether the check value at offset `off` matches the bytes before it and the data blocks (R65). -/
def checkMatches (b : Block) (off : Nat) (data : List Block) : Bool :=
  field b off 4 == (checkValue (bytesAt b 0 off ++ data.flatMap fullBlock)).toNat

end Sys2Proof.Machine
end

