-- ==== Sys2Proof/Machine/Operands.lean ====
section
/-! DEFINITION. The forms in which operands arrive and leave: the encoded values of R208, the directive
block of R200, and the structures on the drive (R196 to R198). -/

namespace Sys2Proof.Machine

/-! ### Encoded values (R208) -/

/-- Mode (R208). -/
def modeNum : Mode → Nat
  | .offline => 0 | .mounting => 1 | .active => 2 | .degraded => 3 | .halted => 4 | .formatting => 5

/-- Halt reason (R208). -/
def haltNum : HaltReason → Nat
  | .none => 0 | .blank => 1 | .anchorBad => 2 | .geometryMismatch => 3 | .driveLost => 4

/-- Level (R208). -/
def levelNum : Level → Nat
  | .normal => 0 | .reclaim => 1 | .pressure => 2 | .full => 3

/-- Completion code (R208). -/
def codeNum : Code → Nat
  | .good => 0 | .notReady => 1 | .mediumError => 2 | .prot => 3 | .readOnly => 4 | .outOfRange => 5
  | .invalidField => 6 | .tagConflict => 7 | .unsupported => 8 | .aborted => 9

/-- The completion code a byte names (R208). -/
def codeOf (b : Byte) : Option Code :=
  match b.toNat with
  | 0 => some .good | 1 => some .notReady | 2 => some .mediumError | 3 => some .prot
  | 4 => some .readOnly | 5 => some .outOfRange | 6 => some .invalidField | 7 => some .tagConflict
  | 8 => some .unsupported | 9 => some .aborted | _ => none

/-- Drive code in an event (R208). A final completion is one of the five named codes (R117). -/
def driveNum : DriveCode → Nat
  | .good => 0 | .mediumError => 1 | .alignError => 2 | .aborted => 3 | .otherError => 4
  | .unnamed _ => 4

/-- The code CANCELLED of a MERGE_ABANDONED event (R208). -/
def cancelledNum : Nat := 5

/-- Result code (R208). -/
def resultNum : Result → Nat
  | .done => 0 | .pending => 1 | .busy => 2 | .invalid => 3 | .notReady => 4 | .prot => 5
  | .unknownId => 6 | .tooLate => 7 | .failed => 8 | .cancelled => 9

/-- Command class (R208). -/
def clsNum : Cls → Nat
  | .read => 1 | .write => 2 | .discard => 3 | .flush => 4 | .identify => 5 | .other => 6

/-- The command class a byte names (R208). -/
def clsOf (b : Byte) : Option Cls :=
  match b.toNat with
  | 1 => some .read | 2 => some .write | 3 => some .discard | 4 => some .flush
  | 5 => some .identify | 6 => some .other | _ => none

/-- Data direction (R208). -/
def dirNum : Dir → Nat
  | .noData => 0 | .dataIn => 1 | .dataOut => 2

/-- The data direction a byte names (R208). -/
def dirOf (b : Byte) : Option Dir :=
  match b.toNat with
  | 0 => some .noData | 1 => some .dataIn | 2 => some .dataOut | _ => none

/-- Disposition (R208). -/
def dispNum : Disp → Nat
  | .translate => 0 | .pass => 1 | .refer => 2 | .reject => 3

/-- The disposition a byte names (R208). -/
def dispOf (b : Byte) : Option Disp :=
  match b.toNat with
  | 0 => some .translate | 1 => some .pass | 2 => some .refer | 3 => some .reject | _ => none

/-- Record kind (R208). -/
def recKindNum : RecKind → Nat
  | .data => 1 | .pad => 2 | .discard => 3 | .commit => 4 | .void => 5

/-- The record kind a byte names (R208). -/
def recKindOf (b : Byte) : Option RecKind :=
  match b.toNat with
  | 1 => some .data | 2 => some .pad | 3 => some .discard | 4 => some .commit | 5 => some .void
  | _ => none

/-- Logical band state (R208). -/
def lstateNum : LState → Nat
  | .empty => 0 | .filling => 1 | .full => 2 | .suspect => 3 | .merging => 4 | .faulted => 5

/-- Extent kind; 0 is none (R208). -/
def extKindNum : Option ExtKind → Nat
  | none => 0 | some .data => 1 | some .zero => 2

/-- Context state (R208). -/
def ctxNum : CtxState → Nat
  | .idle => 0 | .waitAppend => 1 | .waitBand => 2 | .copy => 3 | .commit => 4 | .release => 5

/-- Range mode (R208). -/
def rangeNum : RangeMode → Nat
  | .off => 0 | .observe => 1 | .hold => 2

/-- The range mode a byte names (R208). -/
def rangeOf (b : Byte) : Option RangeMode :=
  match b.toNat with
  | 0 => some .off | 1 => some .observe | 2 => some .hold | _ => none

/-- Referral stage (R208). -/
def stageNum : Stage → Nat
  | .first => 0 | .late => 1

/-- Alert class, as its bit number (R208). -/
def alertBit : Alert → Nat
  | .drive => 0 | .mode => 1 | .log => 2 | .referral => 3 | .protection => 4 | .capacity => 5
  | .events => 6 | .directive => 7

/-- Event kind (R208). -/
def eventNum : EventKind → Nat
  | .mountDone => 1 | .modeChange => 2 | .levelChange => 3 | .mergeDone => 4 | .mergeAbandoned => 5
  | .bandSuspect => 6 | .bandFaulted => 7 | .bandRetired => 8 | .logVoid => 9 | .anchorFail => 10
  | .driveLink => 11 | .refused => 12 | .referralNew => 13 | .referralLate => 14
  | .referralTimeout => 15 | .directiveDone => 16

/-! ### Drive codes -/

/-- The code a completion is handled with while the link is up: an unnamed code and an ABORTED are taken
as OTHER_ERROR (R117). -/
def finalCode : DriveCode → DriveCode
  | .aborted => .otherError
  | .unnamed _ => .otherError
  | c => c

/-! ### Dispositions -/

/-- The dispositions R132 allows a class. -/
def dispAllowed : Cls → Disp → Bool
  | .read, d => d == .translate
  | .write, d => d == .translate
  | .discard, d => d == .translate || d == .refer || d == .reject
  | .flush, d => d == .translate || d == .refer
  | .identify, d => d == .translate || d == .refer
  | .other, d => d == .pass || d == .refer || d == .reject

/-- The disposition of a class (R132). -/
def DispTable.of (t : DispTable) : Cls → Disp
  | .read => t.read | .write => t.write | .discard => t.discard | .flush => t.flush
  | .identify => t.identify | .other => t.other

/-- The table with one class's disposition changed (R176). -/
def DispTable.put (t : DispTable) (c : Cls) (d : Disp) : DispTable :=
  match c with
  | .read => { t with read := d }
  | .write => { t with write := d }
  | .discard => { t with discard := d }
  | .flush => { t with flush := d }
  | .identify => { t with identify := d }
  | .other => { t with other := d }

/-! ### Directives (R200) -/

/-- A directive with the parameters of its code, in the widths of R200. -/
inductive Directive where
  | setPolicy (lowQ highQ hardQ : Byte) (gap : BitVec 16) (paceQ : Byte) (burst : BitVec 16)
      (contexts timeout : Byte)
  | setDisposition (cls disp : Byte)
  | setRange (index mode fixed : Byte) (start length : BitVec 64)
  | setAlerts (mask : Byte)
  | ackAlerts (mask : Byte)
  | clearFlags
  | clean (band : BitVec 32)
  | drain
  | stop
  | answer (id : BitVec 16) (action code : Byte) (len : BitVec 16) (reply : List Byte)
  | query (lba : BitVec 64)
  | format (bandBlocks : BitVec 32) (spares : BitVec 16) (logLen : BitVec 32)
  | restart
  | unknown (code : Byte)
  deriving DecidableEq, Repr

/-- Directive code (R208). -/
def Directive.code : Directive → Byte
  | .setPolicy .. => 1 | .setDisposition .. => 2 | .setRange .. => 3 | .setAlerts _ => 4
  | .ackAlerts _ => 5 | .clearFlags => 6 | .clean _ => 7 | .drain => 8 | .stop => 9
  | .answer .. => 10 | .query _ => 11 | .format .. => 12 | .restart => 13 | .unknown c => c

/-- A field of a block as a bit vector of `8 * w` bits. -/
def fieldBV (b : Block) (off w : Nat) : BitVec (8 * w) := BitVec.ofNat (8 * w) (field b off w)

/-- The directive of a directive block (R200, R201). The reply bytes of ANSWER are the `reply length`
bytes from offset 16 that lie in the block. -/
def decodeDirective (b : Block) : Directive :=
  match (byteAt b 4).toNat with
  | 1 => .setPolicy (byteAt b 8) (byteAt b 9) (byteAt b 10) (fieldBV b 11 2) (byteAt b 13)
      (fieldBV b 14 2) (byteAt b 16) (byteAt b 17)
  | 2 => .setDisposition (byteAt b 8) (byteAt b 9)
  | 3 => .setRange (byteAt b 8) (byteAt b 9) (byteAt b 10) (fieldBV b 16 8) (fieldBV b 24 8)
  | 4 => .setAlerts (byteAt b 8)
  | 5 => .ackAlerts (byteAt b 8)
  | 6 => .clearFlags
  | 7 => .clean (fieldBV b 8 4)
  | 8 => .drain
  | 9 => .stop
  | 10 => .answer (fieldBV b 8 2) (byteAt b 10) (byteAt b 11) (fieldBV b 12 2)
      (bytesAt b 16 (min (field b 12 2) (blockBytes - 16)))
  | 11 => .query (fieldBV b 8 8)
  | 12 => .format (fieldBV b 8 4) (fieldBV b 12 2) (fieldBV b 16 4)
  | 13 => .restart
  | _ => .unknown (byteAt b 4)

/-- The directive number of a directive block (R200). -/
def directiveNum (b : Block) : BitVec 32 := fieldBV b 0 4

/-- The parameters of a directive from offset 8 on (R200). -/
def directiveParams : Directive → List Byte
  | .setPolicy l h x g p b c t =>
      [l, h, x] ++ le 2 g.toNat ++ [p] ++ le 2 b.toNat ++ [c, t]
  | .setDisposition c d => [c, d]
  | .setRange i m f s l => [i, m, f] ++ zeros 5 ++ le 8 s.toNat ++ le 8 l.toNat
  | .setAlerts m => [m]
  | .ackAlerts m => [m]
  | .clean l => le 4 l.toNat
  | .answer id a c len reply => le 2 id.toNat ++ [a, c] ++ le 2 len.toNat ++ zeros 2 ++ reply
  | .query a => le 8 a.toNat
  | .format s r l => le 4 s.toNat ++ le 2 r.toNat ++ zeros 2 ++ le 4 l.toNat
  | .clearFlags => []
  | .drain => []
  | .stop => []
  | .restart => []
  | .unknown _ => []

/-- The directive block of a directive (R200), its unassigned bytes zero. -/
def encodeDirective (num : BitVec 32) (d : Directive) : Block :=
  toBlock (le 4 num.toNat ++ [d.code] ++ zeros 3 ++ directiveParams d)

/-! ### Structures on the drive -/

/-- The signature of the anchor (R195). -/
def sigAnchor : List Byte := ascii ['S', 'B', '2', '4', 'A', 'N', 'C', 'R']
/-- The signature of a band header (R195). -/
def sigBand : List Byte := ascii ['S', 'B', '2', '4', 'B', 'A', 'N', 'D']
/-- The signature of a log record header (R195). -/
def sigRecord : List Byte := ascii ['S', 'B', '2', '4', 'L', 'R', 'E', 'C']

/-- The band header block (R30, R196). -/
def bandHeader (l base : Nat) (mark : Bool) : Block :=
  sealed (sigBand ++ le 4 l ++ le 6 base ++ [flagByte mark]) []

/-- What a band header says (R196), when its signature, target mark and check value are good. -/
def parseBandHeader (b : Block) : Option (Nat × Nat × Bool) :=
  if bytesAt b 0 8 = sigBand ∧ (byteAt b 18 = 0 ∨ byteAt b 18 = 1) ∧ checkMatches b 19 [] = true then
    some (field b 8 4, field b 12 6, byteAt b 18 == 1)
  else none

/-- The fields of a record's header that follow its seq (R197). -/
def recordFields (r : Rec) : List Byte :=
  match r.kind with
  | .data => leOpt 4 r.band ++ le 4 r.off ++ le 2 r.n
  | .discard => leOpt 4 r.band ++ le 4 r.off ++ le 4 r.n ++ [flagByte r.full]
  | .commit => leOpt 4 r.band ++ leOpt 4 r.oldBand ++ leOpt 4 r.newBand ++ le 6 r.snapSeq ++
      le 4 r.newFill
  | .pad => []
  | .void => []

/-- A record's header up to its check value (R197). -/
def recordPrefix (r : Rec) : List Byte :=
  sigRecord ++ [BitVec.ofNat 8 (recKindNum r.kind)] ++ le 2 r.len ++ le 6 r.seq ++ recordFields r

/-- A record's header block: the check value covers the data blocks of a DATA record (R65, R197). -/
def recordHeader (r : Rec) (data : List Block) : Block := sealed (recordPrefix r) data

/-- The header of the VOID record that replaces a record: its seq, position and length (R43, R53). -/
def voidHeader (r : Rec) : Block := recordHeader { r with kind := .void } []

/-- The offset of the check value, by kind (R197). -/
def checkOffset : RecKind → Nat
  | .pad => 17 | .void => 17 | .data => 27 | .discard => 30 | .commit => 39

/-- The fields of a record header block, as a record at position `pos` (R197): absent when the
signature, the kind, or the full flag names nothing. Judged further by `acceptable`. -/
def parseRecord (b : Block) (pos : Nat) : Option Rec :=
  if bytesAt b 0 8 ≠ sigRecord then none
  else
    match recKindOf (byteAt b 8) with
    | none => none
    | some k =>
      let base : Rec := { seq := field b 11 6, pos := pos, len := field b 9 2, kind := k }
      match k with
      | .data =>
        some { base with band := some (field b 17 4), off := field b 21 4, n := field b 25 2 }
      | .discard =>
        if byteAt b 29 = 0 ∨ byteAt b 29 = 1 then
          some { base with
            band := some (field b 17 4), off := field b 21 4, n := field b 25 4,
            full := byteAt b 29 == 1 }
        else none
      | .commit =>
        some { base with
          band := some (field b 17 4), oldBand := optField b 21 4, newBand := optField b 25 4,
          snapSeq := field b 29 6, newFill := field b 35 4 }
      | .pad => some base
      | .void => some base

/-- The settings an anchor carries (R198). -/
structure AnchorData where
  layout : Layout
  logBase : Nat
  tail : Nat
  tailSeq : Nat
  policy : Policy
  disp : DispTable
  enables : BitVec 8
  ranges : List RangeEntry
  deriving DecidableEq, Repr

/-- The bytes of one retention entry in the anchor (R198). -/
def anchorRange (e : RangeEntry) : List Byte :=
  le 8 e.start ++ le 8 e.length ++ [BitVec.ofNat 8 (rangeNum e.mode), flagByte e.fixed]

/-- The anchor's bytes up to its check value (R198). -/
def anchorPrefix (a : AnchorData) : List Byte :=
  sigAnchor ++ le 4 a.layout.bandBlocks ++ le 4 a.layout.bands ++ le 2 a.layout.spares ++
  le 8 a.layout.conv ++ le 4 a.logBase ++ le 4 a.layout.logLen ++ le 4 a.tail ++ le 6 a.tailSeq ++
  le 1 a.policy.lowQ ++ le 1 a.policy.highQ ++ le 1 a.policy.hardQ ++ le 2 a.policy.gap ++
  le 1 a.policy.paceQ ++ le 2 a.policy.burst ++ le 1 a.policy.contexts ++ le 1 a.policy.timeout ++
  [Cls.read, .write, .discard, .flush, .identify, .other].map
    (fun c => BitVec.ofNat 8 (dispNum (a.disp.of c))) ++
  [a.enables] ++ a.ranges.flatMap anchorRange

/-- The anchor block (R59, R198). -/
def encodeAnchor (a : AnchorData) : Block := sealed (anchorPrefix a) []

/-- One retention entry of an anchor (R198), its mode named or not. -/
def parseRange (b : Block) (i : Nat) : Option RangeEntry :=
  let o := 61 + 18 * i
  (rangeOf (byteAt b (o + 16))).map fun m =>
    { start := field b o 8, length := field b (o + 8) 8, mode := m, fixed := byteAt b (o + 17) != 0 }

/-- The Disposition Table of an anchor (R198), when every byte names a disposition. -/
def parseDisp (b : Block) : Option DispTable :=
  match dispOf (byteAt b 54), dispOf (byteAt b 55), dispOf (byteAt b 56), dispOf (byteAt b 57),
      dispOf (byteAt b 58), dispOf (byteAt b 59) with
  | some r, some w, some d, some f, some i, some o =>
      some { read := r, write := w, discard := d, flush := f, identify := i, other := o }
  | _, _, _, _, _, _ => none

/-- The fields of an anchor block (R198), when every enumerated field names a value (R195). -/
def parseAnchor (b : Block) : Option AnchorData :=
  match parseDisp b, (List.range 8).mapM (parseRange b) with
  | some d, some rs =>
      some
        { layout :=
            { bandBlocks := field b 8 4, bands := field b 12 4, spares := field b 16 2,
              conv := field b 18 8, logLen := field b 30 4 }
          logBase := field b 26 4
          tail := field b 34 4
          tailSeq := field b 38 6
          policy :=
            { lowQ := field b 44 1, highQ := field b 45 1, hardQ := field b 46 1, gap := field b 47 2,
              paceQ := field b 49 1, burst := field b 50 2, contexts := field b 52 1,
              timeout := field b 53 1 }
          disp := d
          enables := byteAt b 60
          ranges := rs }
  | _, _ => none

/-! ### Ranges of parameters -/

/-- S is one of the three band sizes (R1). -/
def bandBlocksOk (s : Nat) : Bool := s == 16384 || s == 32768 || s == 65536
/-- LOG_LEN in its range and a multiple of 1,024 (R3). -/
def logLenOk (n : Nat) : Bool := decide (16384 ≤ n ∧ n ≤ 1048576 ∧ n % 1024 = 0)
/-- R in its range (R4). -/
def sparesOk (r : Nat) : Bool := decide (4 ≤ r ∧ r ≤ 64)
/-- P in its range (R1). -/
def bandsOk (p : Nat) : Bool := decide (64 ≤ p ∧ p ≤ 131072)
/-- The order of the quanta (R14). -/
def quantaOk (p : Policy) : Bool := decide (p.lowQ < p.highQ ∧ p.highQ < p.hardQ)

/-- Every policy field in its range, and the quanta in order (R184 test 2). -/
def policyOk (p : Policy) : Bool :=
  decide (16 ≤ p.lowQ ∧ p.hardQ ≤ 248) && quantaOk p && decide (p.gap ≤ 4096) &&
  decide (1 ≤ p.paceQ ∧ p.paceQ ≤ 8) && decide (1 ≤ p.contexts ∧ p.contexts ≤ 2) &&
  decide (1 ≤ p.timeout ∧ p.timeout ≤ 255)

/-- `x` moved into lo..hi (R176). -/
def clamp (lo hi x : Nat) : Nat := max lo (min hi x)

/-- The policy fields of SET_POLICY, each clamped into its range (R176). -/
def clampPolicy (lowQ highQ hardQ : Byte) (gap : BitVec 16) (paceQ : Byte) (burst : BitVec 16)
    (contexts timeout : Byte) : Policy where
  lowQ := clamp 16 248 lowQ.toNat
  highQ := clamp 16 248 highQ.toNat
  hardQ := clamp 16 248 hardQ.toNat
  gap := clamp 0 4096 gap.toNat
  paceQ := clamp 1 8 paceQ.toNat
  burst := clamp 0 65535 burst.toNat
  contexts := clamp 1 2 contexts.toNat
  timeout := clamp 1 255 timeout.toNat

/-- A retention entry of an anchor is in range for E x D logical blocks (R184 test 2). -/
def rangeOk (w : Nat) (e : RangeEntry) : Bool :=
  decide (e.start < w ∧ e.start + e.length ≤ w) && decide (e.length = 0 ↔ e.mode = .off)

/-- Test 2 of R184, but for the check value. -/
def anchorInRange (a : AnchorData) : Bool :=
  bandBlocksOk a.layout.bandBlocks && sparesOk a.layout.spares && logLenOk a.layout.logLen &&
  decide (1 ≤ a.layout.logBands) && decide (a.logBase = Config.logBase) &&
  decide (a.tail < a.layout.logLen) && decide (1 ≤ a.tailSeq) &&
  policyOk a.policy &&
  [Cls.read, .write, .discard, .flush, .identify, .other].all (fun c => dispAllowed c (a.disp.of c)) &&
  a.ranges.all (rangeOk (a.layout.logBands * a.layout.dataBlocks))

end Sys2Proof.Machine
end

