-- ==== Sys2Proof/Decode.lean ====
section
/-! DEFINITION. Reading commands from bytes. The opcode table gives its rows no bits, so `decodeTableWord`
finds no command in a word. The frames of the initiator link have a layout of their own (R199): `decodeFrame`
reads the command of a frame, `encodeFrame` writes it, and `statusBytes` and `readStatus` do so for a status. -/

namespace Sys2Proof

/-- The command a word spells by the table's bits: the table gives no row any bits. -/
def decodeTableWord (_nbits _w : Nat) : Option Instr := none

/-- A tag of a frame: 0..31 (R127). -/
def tagOf (b : Byte) : Option (Fin 32) := if h : b.toNat < 32 then some ⟨b.toNat, h⟩ else none

/-- The command of a 32-byte frame (R127, R199). A frame whose class code names no class is
FRAME_UNKNOWN_CLASS; a tag above 31 names no context, and no command is read. -/
def decodeFrame (f : List Byte) : Option Instr :=
  match tagOf (Machine.byteAt f 0) with
  | none => none
  | some t =>
    let cls := Machine.byteAt f 1
    let lba := Machine.fieldBV f 4 8
    let count := Machine.fieldBV f 12 4
    some
      (match Machine.clsOf cls with
      | some .read => .read t lba count
      | some .write => .write t lba count
      | some .discard => .discard t lba count
      | some .flush => .flush t
      | some .identify => .identify t
      | some .other =>
        .other t (Machine.byteAt f 3) (Machine.bytesAt f 16 16) (Machine.byteAt f 2) count
      | none => .frameUnknownClass t cls)

/-- The 32 bytes of a frame (R199). -/
def frameBytes (t : Fin 32) (cls dir opcode : Byte) (lba : BitVec 64) (count : BitVec 32)
    (params : List Byte) : List Byte :=
  [BitVec.ofNat 8 t.val, cls, dir, opcode] ++ Machine.le 8 lba.toNat ++ Machine.le 4 count.toNat ++
    Machine.fit 16 0 params

/-- The frame of a command that arrives in one; the fields its class does not use are zero (R199). -/
def encodeFrame : Instr → Option (List Byte)
  | .read t lba count => some (frameBytes t 1 0 0 lba count [])
  | .write t lba count => some (frameBytes t 2 0 0 lba count [])
  | .discard t lba count => some (frameBytes t 3 0 0 lba count [])
  | .flush t => some (frameBytes t 4 0 0 0 0 [])
  | .identify t => some (frameBytes t 5 0 0 0 0 [])
  | .other t opcode params dir count => some (frameBytes t 6 dir opcode 0 count params)
  | .frameUnknownClass t cls => some (frameBytes t cls 0 0 0 0 [])
  | _ => none

/-- The bytes of a status (R199, R208): the tag, then the completion code. -/
def statusBytes (tag : Nat) (code : Machine.Code) : List Byte :=
  [BitVec.ofNat 8 tag, BitVec.ofNat 8 (Machine.codeNum code)]

/-- The tag and the completion code of a status's bytes (R199, R208). -/
def readStatus (b : List Byte) : Option (Nat × Machine.Code) :=
  match tagOf (Machine.byteAt b 0), Machine.codeOf (Machine.byteAt b 1) with
  | some t, some c => some (t.val, c)
  | _, _ => none

/-- What a message on the initiator link is as a status, in bytes (R199). -/
def Machine.InitOut.statusBytes : Machine.InitOut → Option (List Byte)
  | .status tag code => some (Sys2Proof.statusBytes tag code)
  | _ => none

end Sys2Proof
end

