-- ==== Sys2Proof/Machine/Flags.lean ====
section
/-! DEFINITION. The flags and levels computed from the state: thresholds and level (R14, R15), pacing
(R18), index pressure (R77), ALERT_N (R173), capacity and window (R5). -/

namespace Sys2Proof.Machine

/-- The part is mounted: E x D is the mounted value (R5). -/
def Part.mounted (s : Part) : Bool := s.sys.mode == .active || s.sys.mode == .degraded

/-- The modes in which the log's records are held: reclaim runs and anchor writes are acted on (R55, R56, R66, R193), and
the level is evaluated (R15; notes/assumptions/16.md). -/
def Part.holdsLog (s : Part) : Bool := s.mounted || s.sys.mode == .formatting

/-- W: E x D as taken in R5, 0 in the unmounted modes. -/
def Part.logBlocks (s : Part) : Nat :=
  if s.mounted then s.sys.layout.logBands * s.sys.layout.dataBlocks else 0

/-- The reported capacity (R5). -/
def Part.capacity (s : Part) : Nat :=
  s.logBlocks + if s.sys.windowEn then Config.windowPages else 0

/-- T_low (R14). -/
def Part.tLow (s : Part) : Nat := s.sys.layout.logLen * s.cfg.policy.lowQ / 256
/-- T_high (R14). -/
def Part.tHigh (s : Part) : Nat := s.sys.layout.logLen * s.cfg.policy.highQ / 256
/-- T_hard (R14). -/
def Part.tHard (s : Part) : Nat := s.sys.layout.logLen * s.cfg.policy.hardQ / 256
/-- The hysteresis H (R14). -/
def Part.hyst (s : Part) : Nat := s.sys.layout.logLen / 32

/-- The table of R15: the level after an evaluation, from the level before and O. -/
def nextLevel (tLow tHigh tHard hyst : Nat) (before : Level) (occ : Nat) : Level :=
  match before with
  | .normal =>
    if tHard ≤ occ then .full else if tHigh ≤ occ then .pressure
    else if tLow ≤ occ then .reclaim else .normal
  | .reclaim =>
    if tHard ≤ occ then .full else if tHigh ≤ occ then .pressure
    else if occ < tLow then .normal else .reclaim
  | .pressure =>
    if tHard ≤ occ then .full else if occ < tHigh - hyst then .reclaim else .pressure
  | .full => if occ < tHard then .pressure else .full

/-- The pacing credit and remainder after an anchor write has freed `t` blocks (R18). -/
def creditFreed (paceQ t : Nat) (c : Pace) : Pace :=
  let x := t * paceQ + c.rem
  { c with credit := min Config.creditMax (c.credit + x / 4), rem := x % 4 }

/-- The index is under pressure (R77). -/
def Index.underPressure (i : Index) : Bool :=
  decide (Config.pressureAt ≤ i.extents.length + i.reserved)

/-- The free entries of the index (R69). -/
def Index.freeEntries (i : Index) : Nat := Config.indexCapacity - i.extents.length - i.reserved

/-- The bit of an alert class (R208). -/
def alertMask (a : Alert) : BitVec 8 := 1#8 <<< alertBit a

/-- ALERT_N is asserted, driven low (R173), and released while RESET_N is asserted (R182, R209). -/
def Part.alertLow (s : Part) : Bool :=
  !s.sys.inReset && (s.win.pending &&& s.cfg.enables) != 0

/-- The first class in the fixed order whose pending flag is set, by bit number (R173). -/
def Window.firstPending (w : Window) : Option Nat :=
  (List.range 8).find? fun k => w.pending.getLsbD k

end Sys2Proof.Machine
end

