-- ==== Sys2Proof/Machine/Ops.lean ====
section
/-! DEFINITION. The named operations that every family of commands shares: tables, events, directives'
answers, commands and statuses, pins and offers. -/

namespace Sys2Proof.Machine

/-! ### Settings in force -/

/-- The Disposition Table in force: the defaults until mount or FORMAT has set it (R132, R148). -/
def Settings.dispInForce (c : Settings) : DispTable := if c.loaded then c.disp else {}

/-- The referral timeout in force: the default until mount or FORMAT has set it (R160). -/
def Settings.timeoutInForce (c : Settings) : Nat := if c.loaded then c.policy.timeout else ({} : Policy).timeout

/-! ### Geometry -/

/-- The first absolute block of physical band `p` (R1). -/
def Layout.bandStart (g : Layout) (p : Nat) : Nat := g.conv + p * g.bandBlocks

/-- The absolute block of log block `k` (R3). -/
def logAbs (k : Nat) : Nat := Config.logBase + k

/-- The pieces (L, o, n) of `count` blocks from offset `o` of band `l` (R7). -/
def piecesFrom (d : Nat) : Nat → Nat → Nat → Nat → List (Nat × Nat × Nat)
  | 0, _, _, _ => []
  | fuel + 1, l, o, count =>
    if count = 0 then []
    else
      let n := min count (d - o)
      (l, o, n) :: piecesFrom d fuel (l + 1) 0 (count - n)

/-- The decomposition of a command into band pieces (R7). -/
def pieces (d lba count : Nat) : List (Nat × Nat × Nat) :=
  piecesFrom d (count / d + 2) (lba / d) (lba % d) count

/-! ### Tables -/

/-- The entry of logical band `l` (R21). -/
def Bands.lband (b : Bands) (l : Nat) : LBand := b.lbt.getD l {}
/-- The entry of physical band `p` (R26). -/
def Bands.pband (b : Bands) (p : Nat) : PBand := b.pool.getD p {}

/-- Change the entry of logical band `l`. -/
def Part.onL (s : Part) (l : Nat) (f : LBand → LBand) : Part :=
  { s with bands.lbt := s.bands.lbt.modify l f }
/-- Change the entry of physical band `p`. -/
def Part.onP (s : Part) (p : Nat) (f : PBand → PBand) : Part :=
  { s with bands.pool := s.bands.pool.modify p f }

/-- The record with a seq (R45: no two entries share one). -/
def Log.find (l : Log) (seq : Nat) : Option Rec := l.table.find? (·.seq == seq)
/-- Change the record with a seq. -/
def Part.onRec (s : Part) (seq : Nat) (f : Rec → Rec) : Part :=
  { s with log.table := s.log.table.map fun r => if r.seq = seq then f r else r }

/-- The merge context `i` (R84). -/
def Merge.ctx (m : Merge) (i : Nat) : MergeCtx := m.ctxs.getD i {}
/-- Change the merge context `i`. -/
def Part.onCtx (s : Part) (i : Nat) (f : MergeCtx → MergeCtx) : Part :=
  { s with mrg.ctxs := s.mrg.ctxs.modify i f }

/-- The log position after one of `len` blocks at `pos` (R13, R42). -/
def Layout.nextPos (g : Layout) (pos len : Nat) : Nat :=
  if pos + len = g.logLen then 0 else pos + len

/-! ### Events and alerts -/

/-- Set the pending flag of an alert class (R173). -/
def Part.alert (s : Part) (a : Alert) : Part :=
  { s with win.pending := s.win.pending ||| alertMask a }

/-- The pending flags with the flag of an event's class, if it has one, set (R173). -/
def withAlert (pending : BitVec 8) : Option Alert → BitVec 8
  | some a => pending ||| alertMask a
  | none => pending

/-- An event takes the next number, sets its class pending, and joins the queue or is dropped with the
overflow flag and EVENTS (R170). -/
def Window.raise (w : Window) (kind : EventKind) (a : Option Alert) (band phys count code : Option Nat) :
    Window :=
  if w.events.length < Config.eventCapacity then
    { w with
      events := w.events ++
        [{ num := w.nextEvent, kind := kind, band := band, phys := phys, count := count, code := code }]
      nextEvent := w.nextEvent + 1, pending := withAlert w.pending a }
  else
    { w with
      nextEvent := w.nextEvent + 1, overflow := true,
      pending := withAlert w.pending a ||| alertMask .events }

/-- Raise an event (R170). -/
def Part.raise (s : Part) (kind : EventKind) (a : Option Alert) (band phys count code : Option Nat) :
    Part :=
  { s with win := s.win.raise kind a band phys count code }

/-- Change the global mode, raising MODE_CHANGE (R181, R172). -/
def Part.enter (s : Part) (m : Mode) (h : HaltReason) : Part :=
  let s := { s with sys.mode := m, sys.halt := h }
  s.raise .modeChange (some .mode) none none
    (if m = .halted then some (haltNum h) else none) (some (modeNum m))

/-! ### Directives' answers (R175) -/

/-- Put an entry at the front of the response list, removing one with its number, and the oldest of a
full list (R175). -/
def Window.respond (w : Window) (num : BitVec 32) (code : Byte) (r : Result) (data : List Byte) : Window :=
  { w with responses :=
      ({ num := num, code := code, result := r, data := data } ::
        w.responses.filter (·.num != num)).take Config.responseCapacity }

/-- A directive is answered (R175). -/
def Part.respond (s : Part) (num : BitVec 32) (code : Byte) (r : Result) (data : List Byte) : Part :=
  { s with win := s.win.respond num code r data }

/-- The response entry of a finished directive is updated in place, or made again at the front if it has
left the list (R175). Its own entry is the one whose result is PENDING: an entry with its number and another
result is of a later directive that used the number again, which took its entry off the list. -/
def Window.update (w : Window) (d : PendingDir) (r : Result) (data : List Byte) : Window :=
  if w.responses.any (fun e => e.num == d.num && e.result == .pending) then
    { w with responses := w.responses.map fun e =>
        if e.num = d.num ∧ e.result = .pending then { e with code := d.code, result := r, data := data } else e }
  else w.respond d.num d.code r data

/-- Finish the pending directive (R175): its entry is updated, and DIRECTIVE_DONE is raised. -/
def Window.finish (w : Window) (r : Result) (data : List Byte) : Window :=
  match w.dirPending with
  | none => w
  | some d =>
    (({ w with dirPending := none } : Window).update d r data).raise .directiveDone (some .directive)
      none none (some d.num.toNat) (some (resultNum r))

/-- Finish the pending directive (R175). -/
def Part.finishDirective (s : Part) (r : Result) (data : List Byte) : Part :=
  { s with win := s.win.finish r data }

/-- The pending directive has one of these codes. -/
def Part.pendingIs (s : Part) (codes : List Byte) : Bool :=
  match s.win.dirPending with
  | some d => codes.contains d.code
  | none => false

/-- The codes of the settings directives (R208). -/
def settingsCodes : List Byte := [1, 2, 3, 4]
/-- The code of CLEAN (R208). -/
def cleanCode : Byte := 7
/-- The code of DRAIN (R208). -/
def drainCode : Byte := 8
/-- The code of FORMAT (R208). -/
def formatCode : Byte := 12
/-- The code of RESTART (R208). -/
def restartCode : Byte := 13

/-- The pending directive, when it is a settings directive. -/
def Part.pendingSettings (s : Part) : Option (BitVec 32) :=
  match s.win.dirPending with
  | some d => if settingsCodes.contains d.code then some d.num else none
  | none => none

/-- A pending CLEAN finishes; its result data carries L (R109, R178). -/
def Part.finishClean (s : Part) (l : Nat) (r : Result) : Part :=
  if s.pendingIs [cleanCode] then s.finishDirective r (le 4 l) else s

/-! ### Commands -/

/-- The command that holds a tag (R128). -/
def Initiator.at (i : Initiator) (tag : Nat) : Option Cmd := (i.tags.getD tag none)

/-- The commands with a context, in tag order. -/
def Initiator.active (i : Initiator) : List Cmd := i.tags.filterMap id

/-- The command with an identity, active or detached (R147). -/
def Initiator.find (i : Initiator) (cid : Nat) : Option Cmd :=
  (i.active ++ i.detached).find? (·.cid == cid)

/-- The command frames free (R133). -/
def Initiator.freeFrames (i : Initiator) : Nat :=
  Config.commandFrames - ((i.active ++ i.detached).map (·.frames)).sum

/-- Send a message on the initiator link. -/
def Part.send (s : Part) (m : InitOut) : Part := { s with ini.sent := s.ini.sent ++ [m] }

/-- Give a tag's context a value. -/
def Part.putTag (s : Part) (tag : Nat) (c : Option Cmd) : Part :=
  { s with ini.tags := s.ini.tags.set tag c }

/-- Every part of the command is final (R137). -/
def Cmd.partsFinal (c : Cmd) : Bool :=
  c.parts.all (· != .pending) && c.segs.all (·.outcome.isSome)

/-- Change the command with an identity. Detached work all of whose parts have become final ends, and
its frames are returned (R147). -/
def Part.onCmd (s : Part) (cid : Nat) (f : Cmd → Cmd) : Part :=
  let g := fun (c : Cmd) => if c.cid = cid then f c else c
  { s with
    ini.tags := s.ini.tags.map (Option.map g),
    ini.detached := (s.ini.detached.map g).filter fun c => !c.partsFinal }

/-- A command's status is sent (R129, R137): its frames are returned, its context becomes FREE, and it
leaves the set of every FLUSH (R140). -/
def Initiator.finish (i : Initiator) (tag : Nat) (code : Code) : Initiator :=
  let i := { i with sent := i.sent ++ [InitOut.status tag code] }
  match i.at tag with
  | none => i
  | some c =>
    let g := fun (d : Cmd) => { d with waits := d.waits.filter (· != c.cid) }
    { i with tags := (i.tags.set tag none).map (Option.map g) }

/-- Send a command's status (R129, R137). -/
def Part.finish (s : Part) (tag : Nat) (code : Code) : Part := { s with ini := s.ini.finish tag code }

/-- The first failure code of a command after an outcome (R137). -/
def firstFail (old : Option Code) (p : PartState) : Option Code :=
  match old, p with
  | none, .failed c => some c
  | o, _ => o

/-- A pending part of a command becomes final (R137). -/
def Cmd.setPart (c : Cmd) (i : Nat) (p : PartState) : Cmd :=
  if c.parts.getD i .done = .pending then
    { c with parts := c.parts.set i p, fail := firstFail c.fail p }
  else c

/-- A part of a command becomes final (R137). -/
def Part.partFinal (s : Part) (cid i : Nat) (p : PartState) : Part :=
  s.onCmd cid (·.setPart i p)

/-- The blocks in a command's frames `first .. first + n - 1`. -/
def Initiator.frameData (i : Initiator) (cid first n : Nat) : List Block :=
  match i.find cid with
  | some c => fitBlocks n (c.data.drop first)
  | none => fitBlocks n []

/-! ### Pins (R20, R38, R45) -/

/-- Take a pin. -/
def Part.pin (s : Part) : Pin → Part
  | .record q => s.onRec q fun r => { r with readers := r.readers + 1 }
  | .band p => s.onP p fun b => { b with readers := b.readers + 1 }

/-- Release a pin. -/
def Part.unpin (s : Part) : Pin → Part
  | .record q => s.onRec q fun r => { r with readers := r.readers - 1 }
  | .band p => s.onP p fun b => { b with readers := b.readers - 1 }

/-- Release the pin a drive read held, if any. -/
def Part.unpinOpt (s : Part) : Option Pin → Part
  | some p => s.unpin p
  | none => s

/-! ### Offers (R113) -/

/-- Make an offer: it joins the end of its class's list. -/
def Part.offer (s : Part) (o : Offer) : Part := { s with port.offers := s.port.offers ++ [o] }

/-- Make several offers, in order. -/
def Part.offerAll (s : Part) (os : List Offer) : Part :=
  { s with port.offers := s.port.offers ++ os }

/-- The offers never granted of the works that `w` names leave their lists (R113). -/
def Part.withdraw (s : Part) (w : Work → Bool) : Part :=
  { s with port.offers := s.port.offers.filter fun o => !(w o.work && o.attempt == 1) }

/-- The offers never granted of the works that `w` names. -/
def Port.ungranted (p : Port) (w : Work → Bool) : List Offer :=
  p.offers.filter fun o => w o.work && o.attempt == 1

/-- The command is a DRIVE_WRITE or a BAND_RESET (R115). -/
def DriveCmd.modifies : DriveCmd → Bool
  | .write .. => true
  | .bandReset _ => true
  | _ => false

/-- An offer of a read. -/
def readOffer (cls : ArbClass) (w : Work) (abs n : Nat) (pin : Option Pin) : Offer :=
  { cls := cls, work := w, cmd := .read abs n, pin := pin }

/-- An offer of a write into the conventional region. -/
def writeOffer (cls : ArbClass) (w : Work) (abs n : Nat) : Offer :=
  { cls := cls, work := w, cmd := .write abs n }

/-- An offer of a write into band `p` at block `start` of the band (R113). -/
def bandWriteOffer (g : Layout) (cls : ArbClass) (w : Work) (p start n : Nat) : Offer :=
  { cls := cls, work := w, cmd := .write (g.bandStart p + start) n, band := some (p, start) }

/-- An offer of a BAND_QUERY (class F, R113). -/
def queryOffer (w : Work) (p n : Nat) : Offer := { cls := .f, work := w, cmd := .bandQuery p n }

/-! ### Physical bands -/

/-- A band becomes RESET_PENDING with no owner and joins the reset-pending list (R27, R39). -/
def Part.toResetPending (s : Part) (p : Nat) : Part :=
  let s := s.onP p fun b => { b with st := .resetPending, owner := none }
  if s.bands.resetPend.contains p then s
  else { s with bands.resetPend := s.bands.resetPend ++ [p] }

/-- The same for a band that may be absent. -/
def Part.toResetPendingOpt (s : Part) : Option Nat → Part
  | some p => s.toResetPending p
  | none => s

/-- The free bands owed to contexts that wait for one come first on the list (R29): the others. -/
def Part.freeAvail (s : Part) : List Nat := s.bands.free.drop s.mrg.waitBand.length

/-- Remove a band from the free list; CAPACITY is set pending when 2 bands or fewer remain (R28). -/
def Part.takeFree (s : Part) (p : Nat) : Part :=
  let s := { s with bands.free := s.bands.free.filter (· != p) }
  if s.bands.free.length ≤ Config.mergeReserve then s.alert .capacity else s

/-! ### Level and pressure -/

/-- The level changes to `new`: the credit is set on entering PRESSURE, and cleared on leaving it to RECLAIM
(R15, R18). -/
def Pace.move (c : Pace) (burst : Nat) (new : Level) : Pace :=
  if new = c.level then c
  else if new = .pressure then { level := new, credit := burst, rem := 0 }
  else if new = .reclaim ∧ c.level = .pressure then { level := new, credit := 0, rem := 0 }
  else { c with level := new }

/-- The level an evaluation now gives (R14, R15). -/
def Part.nextLevel (s : Part) : Level :=
  Sys2Proof.Machine.nextLevel s.tLow s.tHigh s.tHard s.hyst s.pace.level s.log.occ

/-- The level is re-evaluated, with LEVEL_CHANGE on entering PRESSURE or FULL (R15). It is evaluated while the part holds
a log, FORMAT's quiesce step among that; the end of mount and of FORMAT evaluate once from NORMAL
(notes/assumptions/16.md). -/
def Part.evalLevel (s : Part) : Part :=
  if s.holdsLog then
    { s with
      pace := s.pace.move s.cfg.policy.burst s.nextLevel
      win :=
        if s.nextLevel ≠ s.pace.level ∧ (s.nextLevel = .pressure ∨ s.nextLevel = .full) then
          s.win.raise .levelChange (some .log) none none (some s.log.occ) (some (levelNum s.nextLevel))
        else s.win }
  else s

/-- The index pressure flag is evaluated; its start sets CAPACITY pending (R77). -/
def Part.evalPressure (s : Part) : Part :=
  { s with
    idx.pressure := s.idx.underPressure,
    win.pending :=
      if s.idx.underPressure = true ∧ s.idx.pressure = false then s.win.pending ||| alertMask .capacity
      else s.win.pending }

end Sys2Proof.Machine
end

