-- ==== Sys2Proof/Machine/Anchor.lean ====
section
/-! DEFINITION. The anchor writer (R59 to R61). -/

namespace Sys2Proof.Machine

/-- The records from the reclaim point to the head: those not RECLAIMED (R42). -/
def Log.needed (l : Log) : List Rec := l.table.dropWhile (·.st == .reclaimed)

/-- The seq of the record at the reclaim point, or next seq when that is the head (R59). -/
def Log.reclaimSeq (l : Log) : Nat :=
  match l.needed with
  | r :: _ => r.seq
  | [] => l.nextSeq

/-- What an anchor built now holds (R59). -/
def Part.anchorData (s : Part) : AnchorData where
  layout := s.sys.layout
  logBase := Config.logBase
  tail := s.log.reclaim
  tailSeq := s.log.reclaimSeq
  policy := s.cfg.policy
  disp := s.cfg.disp
  enables := s.cfg.enables
  ranges := s.ret.entries

/-- The anchor write built from the current state, carrying the settings directive that is pending
(R59). -/
def Part.buildAnchor (s : Part) : AnchorWrite where
  tail := s.log.reclaim
  tailSeq := s.log.reclaimSeq
  block := encodeAnchor s.anchorData
  dir := s.pendingSettings

/-- Build and offer an anchor write: class A, absolute block 0 (R59). -/
def Part.offerAnchor (s : Part) : Part :=
  ({ s with log.anchor.flight := some s.buildAnchor, log.anchor.dirty := false } : Part).offer
    (writeOffer .a .anchor 0 1)

/-- A trigger of the anchor writer (R59). -/
def Part.triggerAnchor (s : Part) : Part :=
  if s.sys.mode = .active ∧ s.log.anchor.flight.isNone then s.offerAnchor
  else { s with log.anchor.dirty := true }

/-- The settings directive an anchor write carried finishes (R60, R61). -/
def Part.finishSettings (s : Part) (carried : Option (BitVec 32)) (r : Result) : Part :=
  match carried with
  | none => s
  | some n => if s.pendingSettings = some n then s.finishDirective r [] else s

/-- The anchor write is withdrawn (R124): the in-flight flag clears, the dirty flag is kept, no failure
is counted, and the settings directive it carried is reported failed. At an entry into DEGRADED that comes ahead of the
events of the merges it abandons (notes/assumptions/20.md). -/
def Part.withdrawAnchor (s : Part) : Part :=
  match s.log.anchor.flight with
  | none => s
  | some w => ({ s with log.anchor.flight := none } : Part).finishSettings w.dir .failed

end Sys2Proof.Machine
end

