-- ==== Sys2Proof/Machine/Index.lean ====
section
/-! DEFINITION. The extent index (chapter 4): overlap, insertion with its cases, removal, re-pointing,
lookups, the candidate of index pressure, and reservations. -/

namespace Sys2Proof.Machine

/-- One past the last logical block of an extent. -/
abbrev Extent.stop (e : Extent) : Nat := e.start + e.len

/-- The extents of logical band `l`, in ascending start order (R68: band = start div D). -/
def Index.ofBand (i : Index) (d l : Nat) : List Extent := i.extents.filter fun e => e.start / d == l

/-- The number of extents of a band (R69). -/
def Index.count (i : Index) (d l : Nat) : Nat := (i.ofBand d l).length

/-- The staged blocks of a band: the total length of its DATA extents (R69). -/
def Index.staged (i : Index) (d l : Nat) : Nat :=
  (((i.ofBand d l).filter (·.kind == .data)).map (·.len)).sum

/-- The extent covers a block of [a, b). -/
def Extent.meets (e : Extent) (a b : Nat) : Bool := decide (e.start < b ∧ a < e.stop)

/-- Some extent covers an offset of [o, o + n) of band `l` (R78). -/
def Index.overlaps (i : Index) (d l o n : Nat) : Bool :=
  i.extents.any (·.meets (l * d + o) (l * d + o + n))

/-- The extents that overlap offsets [o, o + n) of band `l`, whole, in ascending start order (R79). -/
def Index.supply (i : Index) (d l o n : Nat) : List Extent :=
  i.extents.filter (·.meets (l * d + o) (l * d + o + n))

/-- The extent that covers a logical block (R81). -/
def Index.lookup (i : Index) (a : Nat) : Option Extent :=
  i.extents.find? fun e => decide (e.start ≤ a ∧ a < e.stop)

/-- What is left of an extent when [a, b) is taken from it: the four cases of R71. -/
def Extent.cut (e : Extent) (a b : Nat) : List Extent :=
  if e.meets a b then
    (if e.start < a then [{ e with len := a - e.start }] else []) ++
    (if b < e.stop then
      [{ e with start := b, len := e.stop - b, lp := if e.kind = .data then e.lp + (b - e.start) else e.lp }]
    else [])
  else [e]

/-- The blocks an extent loses to [a, b) (R71). -/
def Extent.lost (e : Extent) (a b : Nat) : Nat := min e.stop b - max e.start a

/-- Put an extent in its place in start order (R71). -/
def placeExtent (x : Extent) : List Extent → List Extent
  | [] => [x]
  | e :: es => if e.start < x.start then e :: placeExtent x es else x :: e :: es

/-- The extents after the insertion of `x` (R71). Every extent covers a block (R68): one of no block is none. -/
def insertExtents (es : List Extent) (x : Extent) : List Extent :=
  if x.len = 0 then es else placeExtent x (es.flatMap (·.cut x.start x.stop))

/-- Live counts fall by the blocks lost (R72): the losses are pairs of a seq and blocks. -/
def Part.loseBlocks (s : Part) (ls : List (Nat × Nat)) : Part :=
  ls.foldl (fun s l => s.onRec l.1 fun r => { r with live := r.live - l.2 }) s

/-- Insert an extent: the extents it overlaps lose blocks, and its own record's live count becomes its
length (R71, R72). -/
def Part.insertExtent (s : Part) (x : Extent) : Part :=
  let ls := (s.idx.extents.filter (·.meets x.start x.stop)).map fun e => (e.seq, e.lost x.start x.stop)
  let s := s.loseBlocks ls
  let s := { s with idx.extents := insertExtents s.idx.extents x }
  s.onRec x.seq fun r => { r with live := x.len }

/-- Remove the extents that `p` names; their records' live counts fall by their lengths (R74, R75,
R83). -/
def Part.removeExtents (s : Part) (p : Extent → Bool) : Part :=
  let ls := (s.idx.extents.filter p).map fun e => (e.seq, e.len)
  let s := s.loseBlocks ls
  { s with idx.extents := s.idx.extents.filter fun e => !p e }

/-- The extents of band `l` with seq at or below `q` (R74, R83). -/
def upTo (d l q : Nat) (e : Extent) : Bool := e.start / d == l && decide (e.seq ≤ q)

/-- Re-point the extent of record `old` that starts at `start` to the record `q` (R63, R76). -/
def Part.repoint (s : Part) (old start q lp : Nat) : Part :=
  match s.idx.extents.find? fun e => e.start == start && e.seq == old with
  | none => s
  | some x =>
    let g := fun (e : Extent) =>
      if e.start = start ∧ e.seq = old then
        { e with seq := q, lp := if e.kind = .data then lp else e.lp }
      else e
    let s := { s with idx.extents := s.idx.extents.map g }
    let s := s.loseBlocks [(old, x.len)]
    s.onRec q fun r => { r with live := x.len }

/-- The extents of record `r`, in ascending start order (R76). -/
def Index.ofRecord (i : Index) (d : Nat) (r : Rec) : List Extent :=
  match r.band with
  | some l => (i.supply d l r.off r.n).filter (·.seq == r.seq)
  | none => []

/-- The highest offset covered by a DATA extent of a list of band `l`'s extents, plus 1; 0 when there is
none (R80). -/
def dataTop (d l : Nat) (es : List Extent) : Nat :=
  ((es.filter (·.kind == .data)).map fun e => e.stop - l * d).foldl max 0

/-- Reserve 2 entries globally and 2 against band `l` (R16, R70). -/
def Part.reserveIndex (s : Part) (l : Nat) : Part :=
  ({ s with idx.reserved := s.idx.reserved + 2 } : Part).onL l fun b =>
    { b with reserved := b.reserved + 2 }

/-- Release a reservation of band `l` (R70). -/
def Part.releaseIndex (s : Part) (l : Nat) : Part :=
  ({ s with idx.reserved := s.idx.reserved - 2 } : Part).onL l fun b =>
    { b with reserved := b.reserved - 2 }

/-- Band `l` beats `best` as the candidate of R77: more extents, then more staged blocks; a tie stays
with the lower band. -/
def betterCandidate (i : Index) (d l best : Nat) : Bool :=
  decide (i.count d best < i.count d l ∨
    (i.count d best = i.count d l ∧ i.staged d best < i.staged d l))

/-- The candidate band of index pressure (R77). -/
def Part.candidate (s : Part) : Option Nat :=
  let d := s.sys.layout.dataBlocks
  (List.range s.bands.lbt.length).foldl
    (fun best l =>
      let st := (s.bands.lband l).st
      if st = .merging ∨ st = .faulted ∨ s.idx.count d l = 0 then best
      else
        match best with
        | none => some l
        | some m => if betterCandidate s.idx d l m then some l else best)
    none

end Sys2Proof.Machine
end

