-- ==== Sys2Proof/Machine/Requests.lean ====
section
/-! DEFINITION. The merge request list (R86, R87): urgent offers, displacement, rescan, removal, and a
band becoming FAULTED while on the list (R89). -/

namespace Sys2Proof.Machine

/-- An entry joins behind the last urgent entry (R87). -/
def joinUrgent (rs : List MergeReq) (e : MergeReq) : List MergeReq :=
  rs.takeWhile (·.urgent) ++ e :: rs.dropWhile (·.urgent)

/-- The entry of a band on the list. -/
def Merge.req (m : Merge) (l : Nat) : Option MergeReq := m.reqs.find? (·.band == l)

/-- The urgent offer of band `l`: the table of R87. -/
def Part.offerUrgent (s : Part) (l : Nat) : Part :=
  match s.mrg.req l with
  | some e =>
    if e.urgent then s
    else
      let rest := s.mrg.reqs.filter (·.band != l)
      { s with mrg.reqs := joinUrgent rest { e with urgent := true } }
  | none =>
    let e : MergeReq := { band := l, urgent := true }
    if s.mrg.reqs.length < Config.requestCapacity then
      { s with mrg.reqs := joinUrgent s.mrg.reqs e }
    else
      match s.mrg.reqs.getLast? with
      | some x =>
        if x.urgent then { s with mrg.rescan := true }
        else
          let s := { s with mrg.reqs := joinUrgent s.mrg.reqs.dropLast e }
          if x.clean then s.finishClean x.band .busy else s
      | none => s

/-- The band is at its extent limit (R73). -/
def Part.atLimit (s : Part) (l : Nat) : Bool :=
  decide (Config.extentLimit ≤ s.idx.count s.sys.layout.dataBlocks l)

/-- A band the rescan of R87 offers. -/
def Part.rescans (s : Part) (l : Nat) : Bool :=
  let st := (s.bands.lband l).st
  (st == .suspect || s.atLimit l) && st != .merging && st != .faulted && (s.mrg.req l).isNone

/-- The walk of a rescan (R87): it stops when the list is full; the flag clears when it reaches E - 1. -/
def Part.rescanFrom (s : Part) : List Nat → Part
  | [] => { s with mrg.rescan := false }
  | l :: ls =>
    if Config.requestCapacity ≤ s.mrg.reqs.length then s
    else (if s.rescans l then s.offerUrgent l else s).rescanFrom ls

/-- While the rescan flag is set, an entry leaving the list starts a rescan (R87). -/
def Part.rescan (s : Part) : Part :=
  if s.mrg.rescan then s.rescanFrom (List.range s.bands.lbt.length) else s

/-- The entry of a band leaves the list; what follows at the same event must call `rescan`. -/
def Part.dropReq (s : Part) (l : Nat) : Part :=
  { s with mrg.reqs := s.mrg.reqs.filter (·.band != l) }

/-- A band becomes FAULTED (R104, R105): BAND_FAULTED is raised, its list entry leaves, and a CLEAN the
entry answers finishes FAILED (R89). BAND_FAULTED comes ahead of the DIRECTIVE_DONE of a CLEAN, that entry's or that of
the merge which failed (notes/assumptions/20.md). -/
def Part.faultBand (s : Part) (l : Nat) : Part :=
  let s := s.onL l fun b => { b with st := .faulted, resume := none }
  let s := s.raise .bandFaulted (some .drive) (some l) none none none
  match s.mrg.req l with
  | none => s
  | some e =>
    let s := s.dropReq l
    let s := if e.clean then s.finishClean l .failed else s
    s.rescan

/-- The offer of R73 when a band is at its extent limit. -/
def Part.offerLimit (s : Part) (l : Nat) : Part := if s.atLimit l then s.offerUrgent l else s

end Sys2Proof.Machine
end

