-- ==== Sys2Proof/Machine/LogOps.lean ====
section
/-! DEFINITION. The staging log's shared operations: records and their cost (R12, R13), positioning,
admission tests (R16, R17), barriers (R54, R55), the reclaim test (R56) and target holds (R58). -/

namespace Sys2Proof.Machine

/-! ### Splitting and positioning -/

/-- The records of a STAGED piece: 128 data blocks each (R12). -/
def splitPiece (cid l : Nat) : Nat → Nat → Nat → Nat → Nat → List HoldEntry
  | 0, _, _, _, _ => []
  | fuel + 1, o, n, part, first =>
    if n = 0 then []
    else
      let k := min Config.recordData n
      { kind := .data, band := l, off := o, n := k, cid := cid, part := part, first := first } ::
        splitPiece cid l fuel (o + k) (n - k) (part + 1) (first + k)

/-- The hold-queue entries of a STAGED piece whose first record is part `part` of its command, its data
in the frames from `first` on (R12, R136). -/
def stagedEntries (cid l o n part first : Nat) : List HoldEntry :=
  splitPiece cid l (n / Config.recordData + 1) o n part first

/-- The blocks a PAD takes ahead of a record of cost `c` (R13). -/
def Layout.pad (g : Layout) (head c : Nat) : Nat :=
  if c ≤ g.logLen - head then 0 else g.logLen - head

/-- Give a record the next seq and the position at the head, and offer its write (R13, R47, R48). -/
def Part.addRecord (s : Part) (cls : ArbClass) (r : Rec) : Part :=
  let r := { r with seq := s.log.nextSeq, pos := s.log.head, st := RecState.issued }
  let s :=
    { s with log :=
        { s.log with
          table := s.log.table ++ [r], nextSeq := s.log.nextSeq + 1,
          head := s.sys.layout.nextPos s.log.head r.len, occ := s.log.occ + r.len } }
  s.offer (writeOffer cls (.record r.seq) (logAbs r.pos) (if r.kind = .data then r.len else 1))

/-- Position a record, a PAD ahead of it where R13 asks one. -/
def Part.positionRecord (s : Part) (cls : ArbClass) (r : Rec) : Part :=
  let q := s.sys.layout.pad s.log.head r.len
  let s := if q = 0 then s else s.addRecord cls { seq := 0, pos := 0, len := q, kind := .pad }
  s.addRecord cls r

/-! ### Admission -/

/-- The cost in log blocks of a hold-queue entry (R12). -/
def HoldEntry.cost (e : HoldEntry) : Nat := if e.kind = .data then 1 + e.n else 1

/-- The record of a hold-queue entry. -/
def HoldEntry.toRec (e : HoldEntry) : Rec where
  seq := 0
  pos := 0
  len := e.cost
  kind := e.kind
  band := some e.band
  origin := .cmd e.cid e.part
  off := e.off
  n := e.n
  full := e.full
  first := e.first
  reserve := !e.full

/-- Free entries of the record table (R45). -/
def Log.room (l : Log) : Nat := Config.recordCapacity - l.table.length

/-- The admission test of the head of the hold queue (R16, R17). -/
def Part.canAdmit (s : Part) (e : HoldEntry) : Bool :=
  let c := e.cost
  let q := s.sys.layout.pad s.log.head c
  s.sys.mode == .active && s.log.waiting.isEmpty &&
  decide (s.log.occ + q + c ≤ s.tHard) && decide (2 ≤ s.log.room) &&
  (e.full ||
    (decide (2 ≤ s.idx.freeEntries) &&
      decide (s.idx.count s.sys.layout.dataBlocks e.band + (s.bands.lband e.band).reserved ≤
        Config.bandIndexRoom))) &&
  (e.kind != .data || s.pace.level != .pressure || decide (q + c ≤ s.pace.credit))

/-- Admit the head of the hold queue, when the test allows (R16, R17). -/
def Part.admitHead (s : Part) : Option Part :=
  match s.ini.hold with
  | [] => none
  | e :: rest =>
    if s.canAdmit e then
      let s := { s with ini.hold := rest }
      let s :=
        if e.kind = .data ∧ s.pace.level = .pressure then
          { s with pace.credit :=
              s.pace.credit - (s.sys.layout.pad s.log.head e.cost + e.cost) }
        else s
      let s := if e.full then s else s.reserveIndex e.band
      let s := s.onL e.band fun b => { b with unsettled := b.unsettled + 1 }
      let s := s.positionRecord .c e.toRec
      some s.evalLevel.evalPressure
    else none

/-- Apply a step that may yield nothing until it does, at most `n` times. -/
def Part.repeatStep (f : Part → Option Part) : Nat → Part → Part
  | 0, s => s
  | n + 1, s =>
    match f s with
    | none => s
    | some t => Part.repeatStep f n t

/-! ### Internal records (R17) -/

/-- The COMMIT record of a context (R98). -/
def MergeCtx.commitRec (c : MergeCtx) (i : Nat) : Rec where
  seq := 0
  pos := 0
  len := 1
  kind := .commit
  band := c.band
  origin := .merge i
  oldBand := c.old
  newBand := c.target
  snapSeq := c.snapSeq.getD 0
  newFill := c.newFill

/-- The carry-forward record of an extent (R63). -/
def carryRec (d i l seq : Nat) (e : Extent) : Rec where
  seq := 0
  pos := 0
  len := if e.kind = .data then 1 + e.len else 1
  kind := if e.kind = .data then .data else .discard
  band := some l
  origin := .carry i
  off := e.start - l * d
  n := e.len
  carries := some (seq, e.start)

/-- The records of a waiting item. -/
def Part.waitingRecords (s : Part) : Waiting → List Rec
  | .commit i => [(s.mrg.ctx i).commitRec i]
  | .carry i =>
    let c := s.mrg.ctx i
    match c.carry, c.band with
    | some p, some l => p.list.map (carryRec s.sys.layout.dataBlocks i l p.seq)
    | _, _ => []

/-- The blocks charged for records positioned together, each PAD computed from the head the earlier ones
leave (R17). -/
def Layout.groupCost (g : Layout) : Nat → List Rec → Nat
  | _, [] => 0
  | head, r :: rs =>
    let q := g.pad head r.len
    let head' := if q = 0 then g.nextPos head r.len else r.len
    q + r.len + g.groupCost head' rs

/-- A context's internal records have been positioned. -/
def Part.markPositioned (s : Part) (n : Nat) : Waiting → Part
  | .commit i => s.onCtx i fun c => { c with positioned := true }
  | .carry i => s.onCtx i fun c =>
      { c with positioned := true, carry := c.carry.map fun p => { p with left := n } }

/-- Position the first waiting item, when it has room (R17, R98). -/
def Part.positionWaiting (s : Part) : Option Part :=
  match s.log.waiting with
  | [] => none
  | w :: rest =>
    let rs := s.waitingRecords w
    if s.sys.mode = .active ∧ s.log.occ + s.sys.layout.groupCost s.log.head rs ≤ s.sys.layout.logLen ∧
        2 * rs.length ≤ s.log.room then
      let s := { s with log.waiting := rest }
      let s := rs.foldl (fun s r => s.positionRecord .e r) s
      some (s.markPositioned rs.length w).evalLevel
    else none

/-! ### Barriers (R54, R55, R137) -/

/-- The lowest seq of a record that holds back settlement, with `p` on its kind. -/
def Log.lowestBarrier (l : Log) (p : Barrier → Bool) : Option Nat :=
  (l.table.find? fun r => r.barrier.any p).map (·.seq)

/-- A record at or above the lowest barrier whose own write is over makes its command's part final: with
MEDIUM_ERROR when a barrier of R54 stands at or below it, else READ_ONLY (R137). -/
def Part.barrierPart (s : Part) (low : Nat) (low54 : Option Nat) (r : Rec) : Part :=
  match r.origin with
  | .cmd cid part =>
    if low ≤ r.seq ∧ (r.st = .completed ∨ (r.st = .issued ∧ r.barrier.isSome)) then
      s.partFinal cid part
        (.failed (if low54.any (fun q => decide (q ≤ r.seq)) then .mediumError else .readOnly))
    else s
  | _ => s

/-- The parts that barriers make final (R54, R55, R137). -/
def Part.barrierParts (s : Part) : Part :=
  match s.log.lowestBarrier (fun _ => true) with
  | none => s
  | some low =>
    let low54 := s.log.lowestBarrier (fun b => b == .r54)
    s.log.table.foldl (fun s r => s.barrierPart low low54 r) s

/-! ### Reclaim (R56) and target holds (R58) -/

/-- The hold seqs in force: those that name a band, and those of contexts still waiting for one. -/
def Part.holdSeqs (s : Part) : List Nat :=
  s.log.holds.map (·.2) ++
  s.mrg.ctxs.filterMap fun c => if c.st = .waitBand then c.snapSeq else none

/-- The record may be passed by the reclaim point (R56). -/
def Part.reclaimable (s : Part) (r : Rec) : Bool :=
  r.st == .settled && r.live == 0 && r.readers == 0 && s.holdSeqs.all fun h => decide (r.seq ≤ h)

/-- The reclaim point passes the record at it, if R56 allows. A carry-forward failure seq is cleared when
its record is passed (R64). -/
def Part.reclaimOne (s : Part) : Option Part :=
  match s.log.needed with
  | [] => none
  | r :: _ =>
    if s.reclaimable r then
      let s := s.onRec r.seq fun r => { r with st := .reclaimed }
      let s := { s with log.reclaim := s.sys.layout.nextPos s.log.reclaim r.len }
      some { s with log.carryFail := if s.log.carryFail = some r.seq then none else s.log.carryFail }
    else none

/-- The target hold of band `p` is released (R58). -/
def Part.releaseHold (s : Part) (p : Nat) : Part :=
  { s with log.holds := s.log.holds.filter fun h => h.1 != p }

/-- The release of the hold of a band that may be absent. -/
def Part.releaseHoldOpt (s : Part) : Option Nat → Part
  | some p => s.releaseHold p
  | none => s

/-- A band's reset has completed GOOD: it leaves the awaited bands of the record that lists it, whose
live count falls by 1 (R57). -/
def Part.resetFinished (s : Part) (p : Nat) : Part :=
  let g := fun (r : Rec) =>
    if r.awaited.contains p then
      { r with awaited := r.awaited.filter (· != p), live := r.live - 1 }
    else r
  { s with log.table := s.log.table.map g }

end Sys2Proof.Machine
end

