-- ==== Sys2Proof/Machine/MergeOps.lean ====
section
/-! DEFINITION. The merge engine's shared operations: the chain (R95), its reads (R96) and units (R97),
obtaining a target (R29, R94), commit (R99), cancellation (R102) and abandonment (R104 to R107). -/

namespace Sys2Proof.Machine

/-! ### The chain -/

/-- The steps of a run of uncovered offsets [x, y): the old band below the fill, zeros from it on
(R95). -/
def gapSteps (fill x y : Nat) : List MoveStep :=
  (if x < min y fill then [{ src := .oldBand, off := x, n := min y fill - x }] else []) ++
  (if max x fill < y then [{ src := .zero, off := max x fill, n := y - max x fill }] else [])

/-- The step of an extent over offsets [a, b) (R95). -/
def extentStep (e : Extent) (a b : Nat) : MoveStep :=
  { src := (match e.kind with
      | .data => .log e.lp e.seq
      | .zero => .zero), off := a, n := b - a }

/-- The chain of a merge from offset `x` on, over the extents of the snapshot list not yet met (R95);
`base` is the band's first logical block. -/
def chainFrom (base fill newFill : Nat) : Nat → List Extent → List MoveStep
  | x, [] => gapSteps fill x newFill
  | x, e :: es =>
    let a := e.start - base
    if newFill ≤ a then gapSteps fill x newFill
    else
      let b := min (e.stop - base) newFill
      gapSteps fill x a ++ extentStep e a b :: chainFrom base fill newFill b es

/-- Reads of at most 256 blocks over `n` offsets from `off` of the old band (R96). -/
def oldBandReads (g : Layout) (p : Nat) : Nat → Nat → Nat → List ChainRead
  | 0, _, _ => []
  | fuel + 1, off, n =>
    if n = 0 then []
    else
      let k := min Config.unitBlocks n
      { off := off, n := k, abs := g.bandStart p + 1 + off, pin := .band p } ::
        oldBandReads g p fuel (off + k) (n - k)

/-- The reads of one move step (R96). -/
def stepReads (g : Layout) (old : Option Nat) (m : MoveStep) : List ChainRead :=
  match m.src, old with
  | .log lp seq, _ => [{ off := m.off, n := m.n, abs := logAbs lp, pin := .record seq }]
  | .oldBand, some p => oldBandReads g p (m.n / Config.unitBlocks + 1) m.off m.n
  | _, _ => []

/-- The reads of a context's chain, in chain order (R96). -/
def MergeCtx.chainReads (c : MergeCtx) (g : Layout) : List ChainRead :=
  c.chain.flatMap (stepReads g c.old)

/-- The merge frames in use: blocks being read, and blocks read and not yet written (R84, R96). -/
def MergeCtx.framesUsed (c : MergeCtx) : Nat := (c.reads.map (·.2)).sum + c.ready.length

/-! ### Target units -/

/-- Target blocks of unit `i` (R97): block 0 is the header, block 1 + x is offset x. -/
def MergeCtx.unitLen (c : MergeCtx) (i : Nat) : Nat :=
  min Config.unitBlocks (1 + c.newFill - Config.unitBlocks * i)

/-- Offset `x` comes from a ZERO step. -/
def MergeCtx.zeroAt (c : MergeCtx) (x : Nat) : Bool :=
  c.chain.any fun m => m.src == .zero && decide (m.off ≤ x ∧ x < m.off + m.n)

/-- Target block `t` is ready: the header, a zero block, or a block read (R97). -/
def MergeCtx.blockReady (c : MergeCtx) (t : Nat) : Bool :=
  t == 0 || c.zeroAt (t - 1) || c.ready.any (fun r => r.1 == t - 1)

/-- Every block of unit `i` is ready (R97). -/
def MergeCtx.unitReady (c : MergeCtx) (i : Nat) : Bool :=
  (List.range (c.unitLen i)).all fun k => c.blockReady (Config.unitBlocks * i + k)

/-- The content of target block `t`. -/
def MergeCtx.targetBlock (c : MergeCtx) (t : Nat) : Block :=
  if t = 0 then bandHeader (c.band.getD 0) (c.snapSeq.getD 0) true
  else
    match c.ready.find? fun r => r.1 == t - 1 with
    | some r => r.2
    | none => []

/-- The blocks of unit `i` (R97). -/
def MergeCtx.unitBlocks (c : MergeCtx) (i : Nat) : List Block :=
  (List.range (c.unitLen i)).map fun k => c.targetBlock (Config.unitBlocks * i + k)

/-! ### Obtaining a target -/

/-- Give band `p` to a context as its target (R29, R94): it becomes TARGET with the context's L as owner
and wp 0, the target hold names it (R58), the chain is built (R95), and the context enters COPY. -/
def Part.giveTarget (s : Part) (i p : Nat) : Part :=
  let c := s.mrg.ctx i
  let l := c.band.getD 0
  let s := s.takeFree p
  let s := s.onP p fun b => { b with st := .target, owner := some l, wp := 0 }
  let s := { s with log.holds := s.log.holds ++ [(p, c.snapSeq.getD 0)] }
  let chain := chainFrom (l * s.sys.layout.dataBlocks) c.fill c.newFill 0 c.snap
  s.onCtx i fun c => { c with st := .copy, target := some p, chain := chain }

/-- A context asks for a target (R94): the head of the free list, or it waits. -/
def Part.obtainTarget (s : Part) (i : Nat) : Part :=
  match s.freeAvail with
  | p :: _ => s.giveTarget i p
  | [] =>
    let s := s.onCtx i fun c => { c with st := .waitBand }
    { s with mrg.waitBand := s.mrg.waitBand ++ [i] }

/-! ### The end of a merge -/

/-- The work belongs to the merge of context `i`. -/
def Work.ofMerge (i : Nat) : Work → Bool
  | .mergeRead c _ _ => c == i
  | .targetUnit c _ => c == i
  | _ => false

/-- The offers of context `i`'s merge that were never granted are withdrawn, their pins released
(R113). -/
def Part.withdrawMerge (s : Part) (i : Nat) : Part :=
  let os := s.port.ungranted (Work.ofMerge i)
  let s := os.foldl (fun s o => s.unpinOpt o.pin) s
  let s := s.withdraw (Work.ofMerge i)
  s.onCtx i fun c =>
    { c with
      reads := c.reads.filter fun r => !os.any (fun o => o.work == .mergeRead i r.1 r.2)
      unitOut := c.unitOut && !os.any (fun o =>
        match o.work with
        | .targetUnit _ _ => true
        | _ => false) }

/-- The snapshot pins of a context are released (R93). -/
def Part.releaseSnapshot (s : Part) (i : Nat) : Part :=
  let s := (s.mrg.ctx i).pins.foldl (fun s q => s.unpin (.record q)) s
  s.onCtx i fun c => { c with pins := [] }

/-- What every ending but a commit does to the context: its wait and an unpositioned COMMIT are
withdrawn, the snapshot pins released, and it enters RELEASE (R102, R104 to R107). -/
def Part.endMerge (s : Part) (i : Nat) : Part :=
  let s := s.withdrawMerge i
  let s := s.releaseSnapshot i
  let s := { s with
    mrg.waitBand := s.mrg.waitBand.filter (· != i),
    log.waiting := s.log.waiting.filter (· != Waiting.commit i) }
  s.onCtx i fun c => { c with st := .release }

/-- The context's merge has been answered for: a CLEAN it carried finishes, and a DRAIN counts it. -/
def Part.tellMerge (s : Part) (i : Nat) (r : Result) : Part :=
  let c := s.mrg.ctx i
  let s := if c.clean then s.finishClean (c.band.getD 0) r else s
  let s := s.onCtx i fun c => { c with clean := false }
  if c.origin = some .drain then
    { s with mrg.drain := s.mrg.drain.map fun d =>
        match r with
        | .done => { d with merged := d.merged + 1 }
        | .failed => { d with failed := d.failed + 1 }
        | _ => d }
  else s

/-- MERGE_ABANDONED for a context (R172): a drive code sets DRIVE pending, CANCELLED none. -/
def Part.raiseAbandoned (s : Part) (c : MergeCtx) (code : Option DriveCode) : Part :=
  s.raise .mergeAbandoned (if code.isSome then some .drive else none) c.band c.target
    (some c.copied) (some (match code with
      | some x => driveNum x
      | none => cancelledNum))

/-- The settlement of a COMMIT record whose merge has not been cancelled (R99), in its order. `seq` is the record's. The
limit offer of R73, which R99 places only after step 1, is made after step 6: so the DIRECTIVE_DONE (BUSY) of a CLEAN that
it displaces comes after MERGE_DONE, by the model's choice (notes/assumptions/20.md). -/
def Part.commitMerge (s : Part) (i seq : Nat) : Part :=
  let c := s.mrg.ctx i
  let l := c.band.getD 0
  let d := s.sys.layout.dataBlocks
  let snap := c.snapSeq.getD 0
  let consumed := (s.idx.extents.filter (upTo d l snap)).length
  let s := s.removeExtents (upTo d l snap)
  let s := s.onL l fun b =>
    { b with
      phys := c.target, f := c.newFill, pf := c.newFill,
      st := if c.newFill = 0 then .empty else if c.newFill = d then .full else .filling,
      floor := snap, failures := 0, resume := none }
  let s :=
    match c.target with
    | some p => (s.onP p fun b => { b with st := .mapped, owner := some l }).releaseHold p
    | none => s
  let s := s.toResetPendingOpt c.old
  let s := s.onRec seq fun r =>
    { r with awaited := c.old.toList, live := c.old.toList.length }
  let s := s.releaseSnapshot i
  let s := s.raise .mergeDone
    (if c.origin = some .directive ∨ c.origin = some .drain then some .directive else none)
    (some l) c.target (some c.copied) (some consumed)
  let s := s.tellMerge i .done
  let s := s.onCtx i fun c => { c with st := .release }
  (s.offerLimit l).evalPressure

/-- The settlement of a full DISCARD on a MERGING band cancels its merge (R102). The old band and the
target go to reset-pending by `discardBand`. -/
def Part.cancelMerge (s : Part) (i : Nat) : Part :=
  let c := s.mrg.ctx i
  let s := s.releaseHoldOpt c.target
  let s := s.endMerge i
  let g := fun (r : Rec) => if r.origin = .merge i then { r with origin := .none } else r
  let s := { s with log.table := s.log.table.map g }
  (s.raiseAbandoned c none).tellMerge i .cancelled

/-- The context that merges band `l`, if one does (R101: from its take to its end). -/
def Merge.ctxOf (m : Merge) (l : Nat) : Option Nat :=
  (List.range m.ctxs.length).find? fun i =>
    let c := m.ctx i
    c.band == some l && c.st != .idle && c.st != .release && c.carry.isNone

/-- The settlement of a full DISCARD of band `l` with seq `q` (R23, R51, R75, R102). Merge failures are left as they
are (notes/assumptions/47.md). Where it cancels a merge, the old band joins the reset-pending list ahead of the target:
R102 sends both there at one event, and their order is the model's choice (notes/assumptions/60.md). -/
def Part.discardBand (s : Part) (l q : Nat) : Part :=
  let d := s.sys.layout.dataBlocks
  let b := s.bands.lband l
  let ctx := if b.st = .merging then s.mrg.ctxOf l else none
  let target := match ctx with
    | some i => (s.mrg.ctx i).target
    | none => none
  let s := s.removeExtents fun e => e.start / d == l
  let s := s.onL l fun b =>
    { b with st := .empty, phys := none, f := 0, pf := 0, floor := q, resume := none }
  let s := s.toResetPendingOpt b.phys
  let s :=
    match ctx with
    | some i => (s.cancelMerge i).toResetPendingOpt target
    | none => s
  let awaited := b.phys.toList ++ target.toList
  let s := s.onRec q fun r => { r with awaited := awaited, live := awaited.length }
  s.evalPressure

/-- A target write failed, or a COMMIT settled void (R104, R106). The count of a band that a full DISCARD took out of
FAULTED is 3 and stays there, so the band is FAULTED again (R21; notes/assumptions/47.md). MERGE_ABANDONED comes ahead of
BAND_FAULTED, and of the DIRECTIVE_DONE (BUSY) of a CLEAN that the urgent offer displaces (notes/assumptions/20.md). -/
def Part.failMerge (s : Part) (i : Nat) (code : DriveCode) : Part :=
  let c := s.mrg.ctx i
  let l := c.band.getD 0
  let s := if c.target.isNone then s else s.toResetPendingOpt c.target
  let s := s.endMerge i
  let s := s.onL l fun b =>
    { b with failures := min Config.mergeFailures (b.failures + 1), st := b.resume.getD .empty, resume := none }
  let s := s.raiseAbandoned c (some code)
  let s :=
    if (s.bands.lband l).failures < Config.mergeFailures then s.offerUrgent l else s.faultBand l
  s.tellMerge i .failed

/-- A merge read failed (R105); the worked case of section 10.6 numbers MERGE_ABANDONED ahead of BAND_FAULTED. -/
def Part.faultMerge (s : Part) (i : Nat) (code : DriveCode) : Part :=
  let c := s.mrg.ctx i
  let l := c.band.getD 0
  let s := s.toResetPendingOpt c.target
  let s := s.endMerge i
  let s := s.raiseAbandoned c (some code)
  let s := s.faultBand l
  s.tellMerge i .failed

/-- The merge of a context is abandoned on entry into DEGRADED (R107). -/
def Part.dropMerge (s : Part) (i : Nat) : Part :=
  let c := s.mrg.ctx i
  let l := c.band.getD 0
  let s := s.toResetPendingOpt c.target
  let s := s.endMerge i
  let s := s.onL l fun b => { b with st := b.resume.getD .empty, resume := none }
  s.raiseAbandoned c none

/-! ### Drain -/

/-- A drain whose cursor is E and which no context serves finishes: DONE, FAILED or, after STOP,
CANCELLED, with its counts (R110, R111). -/
def Part.drainCheck (s : Part) : Part :=
  match s.mrg.drain with
  | none => s
  | some d =>
    if s.sys.layout.logBands ≤ d.cursor ∧ s.mrg.ctxs.all (fun c => c.origin != some .drain) then
      let r : Result := if d.stopped then .cancelled else if d.failed = 0 then .done else .failed
      let s := { s with mrg.drain := none }
      if s.pendingIs [drainCode] then s.finishDirective r (le 4 d.merged ++ le 4 d.failed) else s
    else s

end Sys2Proof.Machine
end

