-- ==== Sys2Proof/Machine/BandOps.lean ====
section
/-! DEFINITION. The placement decision (R8 to R11) and the append queue (R31 to R36). -/

namespace Sys2Proof.Machine

/-! ### Placement -/

/-- The outcomes of a placement decision (R8). -/
inductive Placement where
  | direct | allocate | staged
  deriving DecidableEq, Repr

/-- A record of band `l` waits in the hold queue. -/
def Part.holds (s : Part) (l : Nat) : Bool := s.ini.hold.any (·.band == l)

/-- The conditions DIRECT and ALLOCATE share: no unsettled or held record of L, no extent over the piece
(R9, R10). -/
def Part.unstaged (s : Part) (l o n : Nat) : Bool :=
  (s.bands.lband l).unsettled == 0 && !s.holds l &&
  !s.idx.overlaps s.sys.layout.dataBlocks l o n

/-- The placement decision of a piece (R9 to R11). -/
def Part.decidePiece (s : Part) (l o n : Nat) : Placement :=
  let b := s.bands.lband l
  if b.st = .filling ∧ b.pf ≤ o ∧ o - b.pf ≤ s.cfg.policy.gap ∧ s.unstaged l o n = true then .direct
  else if b.st = .empty ∧ o ≤ s.cfg.policy.gap ∧ Config.mergeReserve < s.freeAvail.length ∧
      s.unstaged l o n = true then .allocate
  else .staged

/-- The number of parts of a command so far. -/
def Initiator.partCount (i : Initiator) (cid : Nat) : Nat :=
  match i.find cid with
  | some c => c.parts.length
  | none => 0

/-- A command gains `k` parts (R137). -/
def Part.addParts (s : Part) (cid k : Nat) : Part :=
  s.onCmd cid fun c => { c with parts := c.parts ++ List.replicate k .pending }

/-- Place a piece whose data stands in the command's frames from `first` on (R9 to R12, R31, R135). -/
def Part.placePiece (s : Part) (cid first l o n : Nat) : Part :=
  let part := s.ini.partCount cid
  let b := s.bands.lband l
  match s.decidePiece l o n with
  | .direct =>
    let e : AppendEntry :=
      { allocate := false, band := b.phys.getD 0, start := 1 + b.pf, gap := o - b.pf, off := o, n := n,
        cid := cid, part := part, first := first, base := 0 }
    (s.onL l fun b => { b with pf := o + n, queue := b.queue ++ [e] }).addParts cid 1
  | .allocate =>
    let p := s.freeAvail.headD 0
    let e : AppendEntry :=
      { allocate := true, band := p, start := 0, gap := o, off := o, n := n, cid := cid, part := part,
        first := first, base := b.floor }
    let s := s.takeFree p
    let s := s.onP p fun q => { q with st := .mapped, owner := some l }
    let s := s.onL l fun b =>
      { b with st := .filling, phys := some p, f := 0, pf := o + n, queue := b.queue ++ [e] }
    s.addParts cid 1
  | .staged =>
    let es := stagedEntries cid l o n part first
    ({ s with ini.hold := s.ini.hold ++ es } : Part).addParts cid es.length

/-- Place the pieces of a command in order (R8). -/
def Part.placePieces (s : Part) (cid : Nat) : Nat → List (Nat × Nat × Nat) → Part
  | _, [] => s
  | first, (l, o, n) :: ps => (s.placePiece cid first l o n).placePieces cid (first + n) ps

/-- Some piece lies in a FAULTED band (R8, R141). -/
def Part.anyFaulted (s : Part) (ps : List (Nat × Nat × Nat)) : Bool :=
  ps.any fun p => (s.bands.lband p.1).st == .faulted

/-! ### Completion of an append -/

/-- The append entry of band `l` that writes band `p` at `start`. -/
def Bands.entry (b : Bands) (l p start : Nat) : Option AppendEntry :=
  (b.lband l).queue.find? fun e => e.band == p && e.start == start

/-- The entry that writes band `p` at `start` leaves its queue. -/
def LBand.dropEntry (b : LBand) (p start : Nat) : LBand :=
  { b with queue := b.queue.filter fun e => !(e.band == p && e.start == start) }

/-- An append write completed GOOD (R33). -/
def Part.appendGood (s : Part) (l p start : Nat) : Part :=
  match s.bands.entry l p start with
  | none => s
  | some e =>
    let s := s.onP p fun q => { q with wp := e.start + e.len }
    let s := s.onL l fun b => b.dropEntry p start
    let s :=
      if (s.bands.lband l).phys = some p then
        s.onL l fun b =>
          let f := if e.allocate then e.off + e.n else b.f + (e.gap + e.n)
          let b := { b with f := f }
          if f = s.sys.layout.dataBlocks then
            match b.st with
            | .filling => { b with st := .full }
            | .merging => { b with resume := some .full }
            | _ => b
          else b
      else s
    s.partFinal e.cid e.part .done

/-- An append entry is re-placed as STAGED: its part is replaced by its records (R34, R137). The records
are returned, to join the head of the hold queue. -/
def Part.replaceEntry (s : Part) (l : Nat) (e : AppendEntry) : Part × List HoldEntry :=
  let es := stagedEntries e.cid l e.off e.n (s.ini.partCount e.cid) e.first
  (s.onCmd e.cid fun c =>
    { c with parts := (c.parts.set e.part .replaced) ++ List.replicate es.length .pending }, es)

/-- Re-place entries in queue order (R34). -/
def Part.replaceEntries (s : Part) (l : Nat) : List AppendEntry → Part × List HoldEntry
  | [] => (s, [])
  | e :: es =>
    let (s, a) := s.replaceEntry l e
    let (s, b) := s.replaceEntries l es
    (s, a ++ b)

/-- The parts of removed append entries become final with a failure. -/
def Part.failEntries (s : Part) (c : Code) (es : List AppendEntry) : Part :=
  es.foldl (fun s e => s.partFinal e.cid e.part (.failed c)) s

/-- A refresh BAND_QUERY of a band is offered (R34, R35). -/
def Part.offerRefresh (s : Part) (p : Nat) : Part :=
  (s.onP p fun q => { q with refresh := true }).offer (queryOffer (.refreshQuery p) p 1)

/-- An append write failed: R34 for the band mapped to L, with the changes of R92 while L is MERGING, and
R36 for a band L no longer maps. No rule orders the DIRECTIVE_DONE (BUSY) of a CLEAN whose entry the urgent offer displaces
(R87) and BAND_SUSPECT; raising DIRECTIVE_DONE first is the model's choice (notes/assumptions/20.md). -/
def Part.appendFail (s : Part) (l p start : Nat) : Part :=
  match s.bands.entry l p start with
  | none => s
  | some e =>
    let b := s.bands.lband l
    let same := b.queue.filter fun x => x.band == p
    let s := s.onL l fun b => { b with queue := b.queue.filter fun x => x.band != p }
    if b.phys = some p then
      let s := s.partFinal e.cid e.part (.failed .mediumError)
      let s := s.onL l fun b =>
        if b.st = .merging then { b with pf := b.f, resume := some .suspect }
        else { b with pf := b.f, st := .suspect }
      let (s, held) := s.replaceEntries l (same.filter fun x => x.start != start)
      let s := { s with ini.hold := held ++ s.ini.hold }
      let s := s.offerRefresh p
      let s := if b.st = .merging then s else s.offerUrgent l
      s.raise .bandSuspect (some .drive) (some l) (some p) none none
    else s.failEntries .mediumError same

end Sys2Proof.Machine
end

