-- ==== Sys2Proof/Machine/Degraded.lean ====
section
/-! DEFINITION. Entry into DEGRADED (R192) with what each block does at it: R37, R55, R107, R110, R115,
R124, R145, R176; and the deadlock check that may cause it (R108) is in Merges.lean. -/

namespace Sys2Proof.Machine

/-- The hold queue empties: each entry's command part ends READ_ONLY (R55). -/
def Part.dropHeld (s : Part) : Part :=
  let es := s.ini.hold
  es.foldl (fun s e => s.partFinal e.cid e.part (.failed .readOnly))
    { s with ini.hold := [] }

/-- The outstanding flag of the band a write was for is cleared. -/
def Part.clearOut (s : Part) : Option (Nat × Nat) → Part
  | some (p, _) => s.onP p fun q => { q with writeOut := false }
  | none => s

/-- A DRIVE_WRITE or BAND_RESET is withdrawn and reported to its owner, because the mode is DEGRADED
(R115, R124). A band write that had reached the drive before is final with ABORTED (R124); one that had
not is dropped with its entry or its merge (R37, R107). -/
def Part.reportWithdrawn (s : Part) (o : Offer) : Part :=
  match o.work with
  | .record q => s.onRec q fun r => { r with barrier := some .r55 }
  | .voidRewrite q => s.onRec q fun r => { r with barrier := some .r54 }
  | .anchor => s.withdrawAnchor
  | .bandReset p => s.onP p fun q => { q with resetIssued := false }
  | .append l p start =>
    if o.attempt = 1 then
      s.onL l fun b =>
        { b with queue := b.queue.map fun e =>
            if e.band = p ∧ e.start = start then { e with issued := false } else e }
    else (s.clearOut o.band).appendFail l p start
  | .targetUnit i _ =>
    (if o.attempt = 1 then s else s.clearOut o.band).onCtx i fun c => { c with unitOut := false }
  | _ => s

/-- The append entries of a band not issued are removed, their parts READ_ONLY, and the planned fill
falls back to what is still planned (R37, R21). -/
def Part.dropAppends (s : Part) (l : Nat) : Part :=
  let b := s.bands.lband l
  let gone := b.queue.filter fun e => !e.issued
  let left := b.queue.filter (·.issued)
  let planned := match left.getLast? with
    | some e => if b.phys = some e.band then e.start + e.len - 1 else b.f
    | none => b.f
  let s := s.onL l fun b =>
    { b with queue := left, pf := if gone.isEmpty then b.pf else planned }
  s.failEntries .readOnly gone

/-- Every DRIVE_WRITE and BAND_RESET still waiting is withdrawn (R115): first those that never reached the
drive; then the append entries not issued are removed (R37); then those the port was to offer again, whose
failures therefore re-place nothing (R37, R124). -/
def Part.withdrawWrites (s : Part) : Part :=
  let os := s.port.offers.filter (·.cmd.modifies)
  let s := { s with port.offers := s.port.offers.filter fun o => !o.cmd.modifies }
  let s := (os.filter (·.attempt == 1)).foldl Part.reportWithdrawn s
  let s := (List.range s.bands.lbt.length).foldl Part.dropAppends s
  (os.filter (·.attempt != 1)).foldl Part.reportWithdrawn s

/-- The write of a record still waits for its first grant. -/
def Port.recordWaits (p : Port) (q : Nat) : Bool :=
  p.offers.any fun o => o.work == .record q && o.attempt == 1

/-- A context in COMMIT whose record has been issued to the drive keeps its work (R107): its records have been
positioned, and a merge's COMMIT record no longer waits for its first grant, or at least one record of a
carry-forward pass has settled or no longer waits for it (notes/assumptions/27.md). -/
def Part.commitIssued (s : Part) (i : Nat) : Bool :=
  let c := s.mrg.ctx i
  c.positioned &&
  match c.carry with
  | none => s.log.table.all fun r => r.origin != .merge i || !s.port.recordWaits r.seq
  | some p =>
    decide (p.left < p.list.length) ||
    s.log.table.any fun r =>
      r.origin == .carry i && (r.st == .issued || r.st == .completed) && !s.port.recordWaits r.seq

/-- A carry-forward pass none of whose records has been issued to the drive ends (R107): its records have no
origin any more, and it waits in RELEASE for reads in flight. -/
def Part.dropCarry (s : Part) (i : Nat) : Part :=
  let mine := fun (w : Work) => match w with
    | .carryRead c _ => c == i
    | _ => false
  let os := s.port.ungranted mine
  let s := os.foldl (fun s o => s.unpinOpt o.pin) s
  let s := s.withdraw mine
  let g := fun (r : Rec) => if r.origin = .carry i then { r with origin := .none } else r
  let s := { s with
    log.waiting := s.log.waiting.filter (· != Waiting.carry i), log.table := s.log.table.map g }
  s.onCtx i fun c =>
    { c with
      st := .release
      carry := c.carry.map fun p =>
        { p with flight := p.flight.filter fun k => !os.any (·.work == .carryRead i k) } }

/-- What a context does on entry into DEGRADED (R107); `issued` names the contexts in COMMIT whose records
had been issued to the drive. -/
def Part.degradeCtx (issued : List Nat) (s : Part) (i : Nat) : Part :=
  let c := s.mrg.ctx i
  match c.st with
  | .idle => s
  | .release => s
  | .commit =>
    if issued.contains i then s
    else if c.carry.isSome then s.dropCarry i
    else
      let g := fun (r : Rec) => if r.origin = .merge i then { r with origin := .none } else r
      ({ s with log.table := s.log.table.map g } : Part).dropMerge i
  | _ => if c.carry.isSome then s.dropCarry i else s.dropMerge i

/-- A pending CLEAN and a DRAIN finish FAILED (R107, R110). -/
def Part.failMergeDirectives (s : Part) : Part :=
  let s : Part := match s.mrg.reqs.find? (·.clean), s.mrg.ctxs.find? (·.clean) with
    | some e, _ => s.finishClean e.band .failed
    | none, some c => s.finishClean (c.band.getD 0) .failed
    | none, none => s
  let s := { s with
    mrg.reqs := s.mrg.reqs.map fun (e : MergeReq) => { e with clean := false },
    mrg.ctxs := s.mrg.ctxs.map fun (c : MergeCtx) => { c with clean := false } }
  match s.mrg.drain with
  | none => s
  | some d =>
    let s := { s with mrg.drain := none }
    if s.pendingIs [drainCode] then s.finishDirective .failed (le 4 d.merged ++ le 4 d.failed) else s

/-- The commands R145 ends READ_ONLY in the accept queue. -/
def endsReadOnly (c : Cmd) : Bool :=
  c.cls == .write || c.cls == .discard || (c.cls == .other && c.dir == .dataOut)

/-- The accept queue on entry into DEGRADED, in its order (R145; notes/assumptions/53.md). -/
def Part.degradeAccept (s : Part) : Part :=
  let out := s.ini.accept.filter fun t => (s.ini.at t).any endsReadOnly
  let s := { s with ini.accept := s.ini.accept.filter fun t => !out.contains t }
  out.foldl (fun s t => s.finish t .readOnly) s

/-- A pending settings directive that the anchor write in flight does not carry finishes FAILED
(R176). -/
def Part.failSettings (s : Part) : Part :=
  match s.pendingSettings with
  | none => s
  | some n => if s.log.anchor.flight.any (·.dir == some n) then s else s.finishDirective .failed []

/-- The records whose VOID rewrite still waits are barriers from the entry on (R53, R115). -/
def Part.markVoids (s : Part) : Part :=
  s.port.offers.foldl
    (fun s o => match o.work with
      | .voidRewrite q => s.onRec q fun r => { r with barrier := some .r54 }
      | _ => s) s

/-- Entry into DEGRADED (R192). A cause that arises outside ACTIVE changes no mode (R181, R192). The parts that a
barrier of R54 makes final become so before R55 and R37 withdraw any, and a recovered band write that is withdrawn ABORTED
(R124) is final before the records that become barriers of R55 here (notes/assumptions/48.md); contexts act in the order of
their numbers (notes/assumptions/20.md). -/
def Part.enterDegraded (s : Part) : Part :=
  if s.sys.mode = .active then
    let ctxs := List.range s.mrg.ctxs.length
    let issued := ctxs.filter s.commitIssued
    let s := s.enter .degraded .none
    let s := s.markVoids.barrierParts
    let s := s.dropHeld
    let s := s.withdrawWrites
    let s := ctxs.foldl (Part.degradeCtx issued) s
    let s := s.failMergeDirectives
    let s := s.failSettings
    let s := s.degradeAccept
    s.barrierParts
  else s

end Sys2Proof.Machine
end

