-- ==== Sys2Proof/Machine/Pages.lean ====
section
/-! DEFINITION. What the pages of the control window return (R168, R169, R202 to R207). -/

namespace Sys2Proof.Machine

/-- The STATUS fields of one merge context (R84, R202); a carry-forward pass reports the blocks read and
the record's live DATA blocks. -/
def Part.ctxStatus (s : Part) (i : Nat) : List Byte :=
  let c := if s.mounted then s.mrg.ctx i else {}
  let pair :=
    match c.carry with
    | some p =>
      (p.blocksRead, match s.log.find p.seq with
        | some r => if r.kind = RecKind.data then r.live else 0
        | none => 0)
    | none => (c.copied, c.newFill)
  [BitVec.ofNat 8 (ctxNum c.st)] ++ leOpt 4 c.band ++ le 4 pair.1 ++ le 4 pair.2

/-- The number of physical bands in a state. -/
def Bands.countP (b : Bands) (st : PState) : Nat := (b.pool.filter (·.st == st)).length

/-- The STATUS layout (R169, R202). In the unmounted modes the log, pool, index and merge fields read as
0, the level as NORMAL and every context as IDLE. The directive number is 0 while none is pending
(notes/assumptions/55.md). -/
def Part.statusBytes (s : Part) : List Byte :=
  let m := s.mounted
  let z := fun (x : Nat) => if m then x else 0
  [BitVec.ofNat 8 (modeNum s.sys.mode), BitVec.ofNat 8 (haltNum s.sys.halt),
    BitVec.ofNat 8 (z (levelNum s.pace.level)), flagByte (m && s.idx.pressure)] ++
  le 4 (z s.log.occ) ++ le 4 (z s.sys.layout.logLen) ++ le 4 (z s.log.head) ++
  le 4 (z s.log.reclaim) ++ le 4 (z s.log.tail) ++ le 6 (z s.log.nextSeq) ++
  le 6 (z s.log.settled) ++ le 2 (z s.log.table.length) ++ le 4 (z s.bands.free.length) ++
  le 4 (z (s.bands.countP .resetPending)) ++ le 4 (z (s.bands.countP .retired)) ++
  le 1 (z (s.bands.countP .target)) ++ le 1 (z s.mrg.reqs.length) ++
  le 4 (z s.idx.extents.length) ++ le 4 (z s.idx.reserved) ++
  s.ctxStatus 0 ++ s.ctxStatus 1 ++ [flagByte (m && s.mrg.drain.isSome)] ++
  le 4 s.ini.hold.length ++ le 1 s.ini.accept.length ++ le 1 s.ref.queue.length ++
  [s.win.pending, s.cfg.enables] ++ leOpt 1 s.win.firstPending ++
  [flagByte s.ret.latch.isSome, flagByte s.ret.more] ++ le 1 s.win.events.length ++
  [flagByte s.win.overflow] ++ le 2 s.win.nextEvent.toNat ++ [flagByte s.win.dirPending.isSome] ++
  le 4 (match s.win.dirPending with
    | some d => d.num.toNat
    | none => 0)

/-- The bytes of an event record (R172, R203). -/
def Event.bytes (e : Event) : List Byte :=
  let bit := fun (o : Option Nat) (k : Nat) => if o.isSome then k else 0
  le 2 e.num.toNat ++ [BitVec.ofNat 8 (eventNum e.kind),
    BitVec.ofNat 8 (bit e.band 1 + bit e.phys 2 + bit e.count 4 + bit e.code 8)] ++
  leOpt 4 e.band ++ leOpt 4 e.phys ++ leOpt 6 e.count ++ leOpt 2 e.code

/-- The EVENTS block: k, the overflow flag and the oldest k records, or the STATUS layout when there is
none (R171, R203). -/
def Part.eventsBytes (s : Part) : List Byte :=
  let es := s.win.events.take Config.eventsPerBlock
  le 1 es.length ++ [flagByte s.win.overflow] ++ zeros 6 ++
  if es.isEmpty then s.statusBytes else es.flatMap Event.bytes

/-- The bytes of a response entry (R204). -/
def Response.bytes (r : Response) : List Byte :=
  le 4 r.num.toNat ++ [r.code, BitVec.ofNat 8 (resultNum r.result)] ++ le 2 r.data.length ++
  fit 32 0 r.data

/-- The RESPONSES page (R204). -/
def Window.responsesBytes (w : Window) : List Byte :=
  le 1 w.responses.length ++ zeros 7 ++ w.responses.flatMap Response.bytes

/-- The bytes of a referral entry (R205). A frame field that its class does not have (R157) is 0
(notes/assumptions/54.md). -/
def ReferralEntry.bytes (e : ReferralEntry) : List Byte :=
  le 2 e.id ++ le 1 e.tag ++ [BitVec.ofNat 8 (clsNum e.cls), BitVec.ofNat 8 (stageNum e.stage)] ++
  le 1 e.ticks ++ [BitVec.ofNat 8 (dirNum e.dir), e.opcode] ++ le 8 e.lba ++ le 4 e.count ++
  fit 16 0 e.params ++ zeros 12

/-- The REFERRALS page (R205). -/
def Referral.bytes (r : Referral) : List Byte :=
  le 1 r.queue.length ++ le 1 r.expired.length ++ le 2 r.nextId ++
  fit 8 0 (r.expired.flatMap (le 2)) ++ zeros 4 ++ r.queue.flatMap ReferralEntry.bytes

/-- The bytes of a retention entry on the RANGES page (R206). -/
def RangeEntry.bytes (e : RangeEntry) : List Byte :=
  le 8 e.start ++ le 8 e.length ++ [BitVec.ofNat 8 (rangeNum e.mode), flagByte e.fixed,
    flagByte e.activity, 0] ++ le 2 e.count ++ zeros 10

/-- The RANGES page (R206). An empty latch reads as all zeros. -/
def Retention.bytes (r : Retention) : List Byte :=
  fit 256 0 (r.entries.flatMap RangeEntry.bytes) ++
  match r.latch with
  | none => []
  | some l =>
    [1, flagByte r.more] ++ le 1 l.tag ++ [BitVec.ofNat 8 (clsNum l.cls)] ++ le 1 l.index ++ zeros 3 ++
    le 8 l.lba ++ le 4 l.count

/-- The model text (R143). -/
def modelText : List Byte :=
  ascii ['C', 'O', 'R', 'S', 'I', 'L', 'A', 'N', ' ', 'S', 'B', '2', '4', '0']

/-- The capability record (R143, R207). -/
def Part.capabilityBytes (s : Part) : List Byte :=
  le 8 s.capacity ++ le 4 blockBytes ++ [32, 0] ++ le 2 Config.maxTransfer ++
  fit 40 0x20 modelText ++ fit 20 0x20 s.sys.serial ++ le 2 Config.partRevision.toNat

/-- The content of window page `k` (R168). -/
def Part.page (s : Part) (k : Nat) : Block :=
  toBlock (match k with
    | 0 => s.statusBytes
    | 1 => s.eventsBytes
    | 2 => s.win.echo
    | 3 => s.win.responsesBytes
    | 4 => s.ref.bytes
    | 5 => s.ret.bytes
    | 6 => s.capabilityBytes
    | _ => [])

/-- What forming page `k` removes: page 1 takes the events its block carries (R171). -/
def Part.afterPage (s : Part) (k : Nat) : Part :=
  if k = 1 then { s with win.events := s.win.events.drop Config.eventsPerBlock } else s

/-- The blocks of `n` pages from page `k` on, formed in page order (R167), and the part after it. -/
def Part.formPages (s : Part) : Nat → Nat → List Block × Part
  | _, 0 => ([], s)
  | k, n + 1 =>
    let (bs, t) := (s.afterPage k).formPages (k + 1) n
    (s.page k :: bs, t)

end Sys2Proof.Machine
end

