-- ==== Sys2Proof/Machine/Halted.lean ====
section
/-! DEFINITION. Entry into HALTED (R191) with what each block does at it (R125, R145, R166, R176, R178,
R179), and the clearing that RESTART and FORMAT share with it. -/

namespace Sys2Proof.Machine

/-- The logical band a pending CLEAN names: the band of the entry or context that carries its mark. -/
def Merge.cleanBand (m : Merge) : Nat :=
  match m.reqs.find? (·.clean), m.ctxs.find? (·.clean) with
  | some e, _ => e.band
  | none, some c => c.band.getD 0
  | none, none => 0

/-- The result data a pending directive finishes with when the part halts (R178, R179, R204). -/
def Part.haltData (s : Part) : List Byte :=
  if s.pendingIs [cleanCode] then le 4 s.mrg.cleanBand
  else if s.pendingIs [drainCode] then
    match s.mrg.drain with
    | some d => le 4 d.merged ++ le 4 d.failed
    | none => le 4 0 ++ le 4 0
  else if s.pendingIs [restartCode] then [BitVec.ofNat 8 (modeNum .halted)]
  else []

/-- Put a referral id at the front of the expired-id list (R162). -/
def Referral.expire (r : Referral) (id : Nat) : Referral :=
  { r with expired := (id :: r.expired.filter (· != id)).take Config.expiredCapacity }

/-- Every referral is removed; the ids join the expired-id list in the order of their entries (R166). -/
def Referral.expireAll (r : Referral) : Referral :=
  r.queue.foldl (fun r e => r.expire e.id) { r with queue := [] }

/-- The tags of the active commands but window commands, in tag order. -/
def Initiator.plainTags (i : Initiator) : List Nat :=
  (i.active.filter fun c => !c.window).map (·.tag)

/-- Slots whose completions will be discarded (R126). -/
def discardSlots (slots : List (Option Slot)) : List (Option Slot) :=
  slots.map (Option.map fun x => { x with discard := true })

/-- The band map, the log, the index, the merge engine, the hold queue, the detached work, the mount and
FORMAT progress, and the level, as after RESET_N (R191, R193, R194). -/
def Part.clearTables (s : Part) : Part :=
  { s with
    sys.layout := {}, bands := {}, log := {}, idx := {}, mrg := {}, pace := {}, mnt := {}, fmt := none,
    ini.hold := [], ini.detached := [] }

/-- The port discards every offer and every command awaiting recovery, and hands on no completion of the
commands granted (R125, R126). -/
def Part.clearPort (s : Part) : Part :=
  { s with
    port.offers := [], port.awaiting := [], port.recovering := [],
    port.slots := discardSlots s.port.slots }

/-- Entry into HALTED (R191), the statuses in tag order (R145; notes/assumptions/53.md). -/
def Part.enterHalted (s : Part) (h : HaltReason) : Part :=
  let data := s.haltData
  let s := s.enter .halted h
  let s := s.clearTables.clearPort
  let s := { s with port.timer := none, ini.accept := [], ref := s.ref.expireAll }
  let s := s.ini.plainTags.foldl (fun s t => s.finish t .notReady) s
  s.finishDirective .failed data

end Sys2Proof.Machine
end

