-- ==== Sys2Proof/Machine/Commands.lean ====
section
/-! DEFINITION. The initiator port (chapters 7 to 9): taking a command by its class, the accept queue, read
resolution (R19, R20) and the return of data (R139), referral entries (R157 to R162), statuses. -/

namespace Sys2Proof.Machine

/-! ### Read resolution (R19) -/

/-- A segment of `n` zero blocks, final at once (R138). -/
def zeroSeg (kind : SegKind) (n : Nat) : Seg :=
  { kind := kind, abs := 0, n := n, pin := none, outcome := some true, data := List.replicate n [] }

/-- The segments of the uncovered offsets [x, y) of a band (R19). -/
def gapSegs (g : Layout) (b : LBand) (x y : Nat) : List Seg :=
  match b.phys with
  | none => if x < y then [zeroSeg .beyondFill (y - x)] else []
  | some p =>
    (if x < min y b.f then
      [{ kind := .band, abs := g.bandStart p + 1 + x, n := min y b.f - x, pin := some (.band p) }]
    else []) ++
    (if max x b.f < y then [zeroSeg .beyondFill (y - max x b.f)] else [])

/-- The segment of an extent over offsets [x, y) of a band whose first logical block is `base` (R19). -/
def extentSeg (e : Extent) (base x y : Nat) : Seg :=
  match e.kind with
  | .data =>
    { kind := .log, abs := logAbs (e.lp + (base + x - e.start)), n := y - x, pin := some (.record e.seq) }
  | .zero => zeroSeg .zero (y - x)

/-- The segments of the offsets [x, stop) of a band, over the extents that overlap them (R19). -/
def segsFrom (g : Layout) (b : LBand) (base stop : Nat) : Nat → List Extent → List Seg
  | x, [] => gapSegs g b x stop
  | x, e :: es =>
    let a := max x (e.start - base)
    let y := min (e.stop - base) stop
    gapSegs g b x a ++ extentSeg e base a y :: segsFrom g b base stop y es

/-- The resolution of a piece (R19). -/
def Part.resolve (s : Part) (pc : Nat × Nat × Nat) : List Seg :=
  let d := s.sys.layout.dataBlocks
  let (l, o, n) := pc
  segsFrom s.sys.layout (s.bands.lband l) (l * d) (o + n) o (s.idx.supply d l o n)

/-- The drive reads of a READ's segments (R20, R138): class B, one for each segment that pins. -/
def segOffers (cid : Nat) : Nat → List Seg → List Offer
  | _, [] => []
  | i, g :: gs =>
    (if g.pin.isSome then [readOffer .b (.fgRead cid i) g.abs g.n g.pin] else []) ++
      segOffers cid (i + 1) gs

/-! ### Return of read data (R139) -/

/-- The segments the return cursor passes now. -/
def Cmd.sendable (c : Cmd) : List Seg := (c.segs.drop c.cursor).takeWhile (·.outcome == some true)

/-- The return cursor of a tag's READ advances and the blocks it passes are sent (R139). -/
def Part.advance (s : Part) (tag : Nat) : Part :=
  match s.ini.at tag with
  | none => s
  | some c =>
    let out := c.sendable
    if out.isEmpty then s
    else
      (s.putTag tag (some { c with cursor := c.cursor + out.length })).send
        (.data tag (out.flatMap (·.data)))

/-! ### Taking a command, by class -/

/-- A READ that has its frames is resolved, its pins are taken, its reads offered; one of zero segments
alone is answered at once (R138, R139). -/
def Part.takeRead (s : Part) (tag : Nat) : Part :=
  match s.ini.at tag with
  | none => s
  | some c =>
    let segs := (pieces s.sys.layout.dataBlocks c.lba c.count).flatMap s.resolve
    let s := s.putTag tag
      (some { c with st := .working, frames := c.count, segs := segs, cursor := 0 })
    let s := (segs.filterMap (·.pin)).foldl Part.pin s
    let s := s.offerAll (segOffers c.cid 0 segs)
    let s := s.advance tag
    if segs.all (·.outcome.isSome) then s.finish tag .good else s

/-- A command that has its frames receives data: all its blocks are solicited (R135, R144). -/
def Part.startReceiving (s : Part) (tag : Nat) : Part :=
  match s.ini.at tag with
  | none => s
  | some c =>
    (s.putTag tag (some { c with st := .receiving, frames := c.count })).send (.solicit tag c.count)

/-- The record a DISCARD piece builds, as its hold-queue entry for part `part`; none where the table of
R141 says none. -/
def Part.discardEntry (s : Part) (cid part : Nat) (pc : Nat × Nat × Nat) : Option HoldEntry :=
  let (l, o, n) := pc
  let b := s.bands.lband l
  let whole := o == 0 && n == s.sys.layout.dataBlocks
  let free := s.unstaged l o n
  let settledOut :=
    if whole then b.st == .empty && free
    else decide (b.pf ≤ o) && free
  if settledOut then none
  else some { kind := .discard, full := whole, band := l, off := o, n := n, cid := cid, part := part }

/-- The records of a DISCARD's pieces, numbered as its parts (R141). -/
def Part.discardEntries (s : Part) (cid : Nat) : Nat → List (Nat × Nat × Nat) → List HoldEntry
  | _, [] => []
  | k, p :: ps =>
    match s.discardEntry cid k p with
    | none => s.discardEntries cid k ps
    | some e => e :: s.discardEntries cid (k + 1) ps

/-- A DISCARD taken with TRANSLATE (R141, R142). -/
def Part.takeDiscard (s : Part) (tag : Nat) : Part :=
  match s.ini.at tag with
  | none => s
  | some c =>
    let ps := pieces s.sys.layout.dataBlocks c.lba c.count
    if s.anyFaulted ps then s.finish tag .mediumError
    else
      let es := s.discardEntries c.cid 0 ps
      if es.isEmpty then s.finish tag .good
      else
        { s.putTag tag (some { c with st := .working, parts := List.replicate es.length .pending }) with
          ini.hold := s.ini.hold ++ es }

/-- The commands a FLUSH waits for: accepted WRITEs and DISCARDs without a status (R140). -/
def Initiator.flushSet (i : Initiator) : List Nat :=
  (i.active.filter fun c => c.cls == .write || c.cls == .discard).map (·.cid)

/-- A FLUSH taken with TRANSLATE (R140). -/
def Part.takeFlush (s : Part) (tag : Nat) : Part :=
  match s.ini.at tag with
  | none => s
  | some c =>
    let set := s.ini.flushSet
    if set.isEmpty then s.finish tag .good
    else s.putTag tag (some { c with st := .working, waits := set })

/-- An IDENTIFY is answered (R143). -/
def Part.takeIdentify (s : Part) (tag : Nat) : Part :=
  (s.send (.data tag [toBlock s.capabilityBytes])).finish tag .good

/-- The forwarded command of an OTHER is offered (R144). -/
def Part.forward (s : Part) (tag : Nat) : Part :=
  match s.ini.at tag with
  | none => s
  | some c =>
    let s := s.putTag tag (some { c with st := .working, parts := [.pending] })
    s.offer { cls := .b, work := .forwarded c.cid, cmd := .forwarded c.opcode c.params c.dir c.count }

/-- An OTHER command taken with PASS, its frames available (R144). -/
def Part.takeOther (s : Part) (tag : Nat) : Part :=
  match s.ini.at tag with
  | none => s
  | some c =>
    match c.dir with
    | .noData => s.forward tag
    | .dataIn => (s.putTag tag (some { c with frames := c.count })).forward tag
    | .dataOut => s.startReceiving tag

/-! ### Referral entries -/

/-- The next value of the id counter (R158). -/
def idAfter (x : Nat) : Nat := if x = 65535 then 1 else x + 1

/-- The counter rises until it names a value no entry holds (R158). -/
def Referral.skipHeld (r : Referral) : Nat → Nat → Nat
  | 0, x => x
  | fuel + 1, x => if r.queue.any (·.id == x) then r.skipHeld fuel (idAfter x) else x

/-- The entry of an id. -/
def Referral.find (r : Referral) (id : Nat) : Option ReferralEntry := r.queue.find? (·.id == id)

/-- The logical band a REFERRAL_NEW carries (R159). -/
def Part.referralBand (s : Part) (c : Cmd) : Option Nat :=
  if c.cls = .discard then some (c.lba / s.sys.layout.dataBlocks) else none

/-- A referral entry is created for a tag's command (R158, R159). -/
def Part.refer (s : Part) (tag : Nat) : Part :=
  match s.ini.at tag with
  | none => s
  | some c =>
    let id := s.ref.nextId
    let e : ReferralEntry :=
      { id := id, tag := tag, cls := c.cls, lba := c.lba, count := c.count, opcode := c.opcode,
        params := c.params, dir := c.dir, stage := .first, ticks := s.cfg.timeoutInForce }
    let q := s.ref.queue ++ [e]
    let r := { s.ref with queue := q, expired := s.ref.expired.filter (· != id) }
    let s := { s with ref := { r with nextId := r.skipHeld (Config.referralCapacity + 1) (idAfter id) } }
    let s := s.putTag tag (some { c with st := .referred, refer := false })
    s.raise .referralNew (some .referral) (s.referralBand c) none (some id) (some (clsNum c.cls))

/-- The entry of an id leaves the queue. -/
def Referral.drop (r : Referral) (id : Nat) : Referral :=
  { r with queue := r.queue.filter (·.id != id) }

/-! ### The accept queue (R134) -/

/-- The frames a command needs before it is taken (R133). -/
def Cmd.need (c : Cmd) : Nat :=
  match c.cls with
  | .read => c.count
  | .write => c.count
  | .other => if c.dir = .noData then 0 else c.count
  | _ => 0

/-- Take a tag's command: refer it, or serve it by its class. -/
def Part.take (s : Part) (tag : Nat) : Part :=
  match s.ini.at tag with
  | none => s
  | some c =>
    if c.refer then s.refer tag
    else
      match c.cls with
      | .read => s.takeRead tag
      | .write => s.startReceiving tag
      | .discard => s.takeDiscard tag
      | .flush => s.takeFlush tag
      | .identify => s.takeIdentify tag
      | .other => s.takeOther tag

/-- What a command waits for is available (R134). -/
def Part.canTake (s : Part) (c : Cmd) : Bool :=
  if c.refer then decide (s.ref.queue.length < Config.referralCapacity)
  else decide (c.need ≤ s.ini.freeFrames)

/-- A tag is given to an accepted command, which is taken at once or joins the accept queue (R134). -/
def Part.enqueue (s : Part) (c : Cmd) : Part :=
  if (c.refer || decide (0 < c.need)) && (!s.ini.accept.isEmpty || !s.canTake c) then
    { s.putTag c.tag (some { c with st := .waiting }) with ini.accept := s.ini.accept ++ [c.tag] }
  else (s.putTag c.tag (some { c with st := .working })).take c.tag

/-- The head of the accept queue is taken when it can be (R134). -/
def Part.takeHead (s : Part) : Option Part :=
  match s.ini.accept with
  | [] => none
  | t :: rest =>
    match s.ini.at t with
    | none => none
    | some c =>
      if s.canTake c then some (({ s with ini.accept := rest } : Part).take t) else none

/-- The accept queue is served from the head for as long as the head can be taken (R134). -/
def Part.serveAccept (s : Part) : Part := repeatStep Part.takeHead s.ini.accept.length s

/-- A frame that passed the tag check is accepted: the command gets its identity and is taken or queued
(R128, R130, R134). -/
def Part.acceptFrame (s : Part) (c : Cmd) : Part :=
  let c := { c with cid := s.ini.nextCid }
  ({ s with ini.nextCid := s.ini.nextCid + 1 } : Part).enqueue c

/-! ### Classification (R130) -/

/-- A frame is refused: its status is sent, and its tag stays FREE (R129, R130). -/
def Part.refuse (s : Part) (tag : Nat) (code : Code) : Part := s.send (.status tag code)

/-- The tag check comes before every other (R129). -/
def Part.tagged (s : Part) (tag : Nat) (f : Part → Part) : Part :=
  if (s.ini.at tag).isSome then s.refuse tag .tagConflict else f s

/-- What R6 makes of a READ, WRITE or DISCARD frame. -/
inductive RangeCheck where
  | refuse (c : Code)
  | window (page : Nat)
  | pass
  deriving DecidableEq, Repr

/-- The five limits of R6, in order. -/
def Part.rangeCheck (s : Part) (cls : Cls) (lba count : Nat) : RangeCheck :=
  let w := s.logBlocks
  if count = 0 ∨ (cls ≠ .discard ∧ Config.maxTransfer < count) then .refuse .invalidField
  else if s.sys.windowEn = true ∧ w ≤ lba ∧ lba + count ≤ w + Config.windowPages then
    if cls = .discard then .refuse .invalidField else .window (lba - w)
  else if !s.mounted then .refuse .notReady
  else if s.capacity < lba + count then .refuse .outOfRange
  else if s.sys.windowEn = true ∧ w < lba + count then .refuse .invalidField
  else .pass

/-- A window READ is served at its arrival (R167). -/
def Part.windowRead (s : Part) (tag page count : Nat) : Part :=
  let (bs, s) := s.formPages page count
  (s.send (.data tag bs)).send (.status tag .good)

/-- A window WRITE: its data is solicited (R167). -/
def Part.windowWrite (s : Part) (tag page count : Nat) : Part :=
  let c : Cmd :=
    { cid := s.ini.nextCid, tag := tag, cls := .write, lba := s.logBlocks + page, count := count,
      window := true, page := page }
  (({ s with ini.nextCid := s.ini.nextCid + 1 } : Part).putTag tag (some c)).send (.solicit tag count)

/-- A READ frame (R130). -/
def Part.readFrame (s : Part) (tag lba count : Nat) : Part :=
  s.tagged tag fun s =>
    match s.rangeCheck .read lba count with
    | .refuse c => s.refuse tag c
    | .window p => s.windowRead tag p count
    | .pass => s.acceptFrame { cid := 0, tag := tag, cls := .read, lba := lba, count := count }

/-! ### Retention ranges (R150 to R152) -/

/-- The command's blocks share one with the entry's. -/
def RangeEntry.touches (e : RangeEntry) (lba count : Nat) : Bool :=
  e.mode != .off && decide (lba < e.start + e.length ∧ e.start < lba + count)

/-- An OBSERVE entry the command touches counts it (R150, R151). -/
def RangeEntry.observe (e : RangeEntry) (lba count : Nat) : RangeEntry :=
  if e.mode = .observe ∧ e.touches lba count = true then
    { e with activity := true, count := min 65535 (e.count + 1) }
  else e

/-- The lowest index of a HOLD entry the command touches (R150). -/
def Retention.held (r : Retention) (lba count : Nat) : Option Nat :=
  r.entries.findIdx? fun e => e.mode == .hold && e.touches lba count

/-- A HOLD refusal is offered to the latch (R152). -/
def Part.latchRefusal (s : Part) (l : Latch) : Part :=
  match s.ret.latch with
  | some _ => { s with ret.more := true }
  | none =>
    ({ s with ret.latch := some l } : Part).raise .refused (some .protection)
      (some (l.lba / s.sys.layout.dataBlocks)) none (some l.count) (some l.index)

/-- Step 5 of classification for a WRITE or DISCARD (R150), then `f`. -/
def Part.retention (s : Part) (tag : Nat) (cls : Cls) (lba count : Nat) (f : Part → Part) : Part :=
  let s := { s with ret.entries := s.ret.entries.map fun (e : RangeEntry) => e.observe lba count }
  match s.ret.held lba count with
  | some i =>
    (s.latchRefusal { tag := tag, cls := cls, lba := lba, count := count, index := i }).refuse tag .prot
  | none => f s

/-- A WRITE frame (R130, R131, R135). -/
def Part.writeFrame (s : Part) (tag lba count : Nat) : Part :=
  s.tagged tag fun s =>
    match s.rangeCheck .write lba count with
    | .refuse c => s.refuse tag c
    | .window p => s.windowWrite tag p count
    | .pass =>
      if s.sys.mode = .degraded then s.refuse tag .readOnly
      else
        s.retention tag .write lba count fun s =>
          s.acceptFrame { cid := 0, tag := tag, cls := .write, lba := lba, count := count }

/-- A DISCARD frame (R130 to R132, R141). -/
def Part.discardFrame (s : Part) (tag lba count : Nat) : Part :=
  s.tagged tag fun s =>
    match s.rangeCheck .discard lba count with
    | .refuse c => s.refuse tag c
    | .window _ => s
    | .pass =>
      if s.sys.mode = .degraded then s.refuse tag .readOnly
      else if s.cfg.dispInForce.discard = .reject then s.refuse tag .unsupported
      else
        s.retention tag .discard lba count fun s =>
          s.acceptFrame { cid := 0, tag := tag, cls := .discard, lba := lba, count := count,
                          refer := s.cfg.dispInForce.discard == .refer }

/-- A FLUSH frame (R131, R132, R140). -/
def Part.flushFrame (s : Part) (tag : Nat) : Part :=
  s.tagged tag fun s =>
    if !s.mounted then s.refuse tag .notReady
    else s.acceptFrame { cid := 0, tag := tag, cls := .flush, refer := s.cfg.dispInForce.flush == .refer }

/-- An IDENTIFY frame (R131, R143). -/
def Part.identifyFrame (s : Part) (tag : Nat) : Part :=
  s.tagged tag fun s =>
    s.acceptFrame { cid := 0, tag := tag, cls := .identify,
                    refer := s.mounted && s.cfg.dispInForce.identify == .refer }

/-- The field checks of an OTHER frame (R127): its data direction, when it passes them. -/
def otherDir (dir : Byte) (count : Nat) : Option Dir :=
  match dirOf dir with
  | none => none
  | some .noData => if count = 0 then some .noData else none
  | some d => if 1 ≤ count ∧ count ≤ Config.maxTransfer then some d else none

/-- An OTHER frame (R127, R131, R132, R144). -/
def Part.otherFrame (s : Part) (tag : Nat) (opcode : Byte) (params : List Byte) (dir : Byte)
    (count : Nat) : Part :=
  s.tagged tag fun s =>
    match otherDir dir count with
    | none => s.refuse tag .invalidField
    | some d =>
      let c : Cmd := { cid := 0, tag := tag, cls := .other, count := count, opcode := opcode,
                       params := fit 16 0 params, dir := d }
      if !s.mounted then s.refuse tag .notReady
      else
        match s.cfg.dispInForce.other with
        | .reject => s.refuse tag .unsupported
        | .refer =>
          if d = .dataOut then s.refuse tag .unsupported else s.acceptFrame { c with refer := true }
        | _ =>
          if s.sys.mode = .degraded ∧ d = .dataOut then s.refuse tag .readOnly
          else s.acceptFrame c

/-- A frame of a class code that names no class (R127, R129). -/
def Part.unknownFrame (s : Part) (tag : Nat) : Part :=
  s.tagged tag fun s => s.refuse tag .invalidField

/-! ### Statuses (R137, R140) -/

/-- The status of a command whose parts are all final (R137, R139), when it is due. -/
def Cmd.due (c : Cmd) : Option Code :=
  if c.st = .working ∧ c.window = false ∧ c.partsFinal = true ∧
      (c.cls = .read ∨ c.cls = .write ∨ c.cls = .discard ∨ c.cls = .other) then
    some (c.fail.getD .good)
  else none

/-- The status of a tag's command is sent, when it is due (R137). -/
def Part.commandStatus (s : Part) (tag : Nat) : Part :=
  match (s.ini.at tag).bind Cmd.due with
  | some code => s.finish tag code
  | none => s

/-- A FLUSH whose set is empty sends GOOD (R140). -/
def Part.flushDone (s : Part) (tag : Nat) : Part :=
  match s.ini.at tag with
  | none => s
  | some c =>
    if c.cls = .flush ∧ c.st = .working ∧ c.waits = [] then s.finish tag .good else s

/-! ### Referral expiries (R160, R161) -/

/-- The first expiry of a referral whose timer has reached 0 (R160). -/
def Part.expireFirst (s : Part) (id : Nat) : Part :=
  match s.ref.find id with
  | none => s
  | some e =>
    if e.stage = .first ∧ e.ticks = 0 then
      let t := s.cfg.timeoutInForce
      let s := { s with ref.queue := s.ref.queue.map fun (x : ReferralEntry) =>
        if x.id = id then { x with stage := .late, ticks := t } else x }
      s.raise .referralLate (some .referral) none none (some id) none
    else s

/-- The second expiry (R161). -/
def Part.expireLate (s : Part) (id : Nat) : Part :=
  match s.ref.find id with
  | none => s
  | some e =>
    if e.stage = .late ∧ e.ticks = 0 then
      let s := { s with ref := (s.ref.drop id).expire id }
      let s := s.finish e.tag .aborted
      s.raise .referralTimeout (some .referral) none none (some id) none
    else s

/-! ### Upstream link reset (R146, R147) -/

/-- The frames a WRITE's detached work keeps: those of pending parts that are admitted records or append
entries (R147). -/
def Part.keptFrames (s : Part) (c : Cmd) : Nat :=
  let live := fun i => c.parts.getD i .done == .pending
  let rs := s.log.table.filter fun r =>
    match r.origin with
    | .cmd cid i => r.kind == .data && cid == c.cid && live i
    | _ => false
  let es := s.bands.lbt.flatMap fun b => b.queue.filter fun e => e.cid == c.cid && live e.part
  (rs.map (·.n)).sum + (es.map (·.n)).sum

/-- What of a dropped command is detached (R146, R147): none where nothing of it runs on. -/
def Part.detach (s : Part) (c : Cmd) : Option Cmd :=
  if c.st ≠ .working ∨ c.window = true ∨ c.partsFinal = true then none
  else
    match c.cls with
    | .read =>
      some { c with frames := ((c.segs.filter (·.outcome.isNone)).map (·.n)).sum }
    | .write => some { c with frames := s.keptFrames c }
    | .discard => some c
    | .other => some c
    | _ => none

/-- The work a dropped command's own offers do. -/
def Work.ofCommand : Work → Option Nat
  | .fgRead cid _ => some cid
  | .forwarded cid => some cid
  | _ => none

/-- An offer of a dropped command that was never granted is withdrawn: its pin is released and its part is
of no further account (R113, R146). -/
def Part.withdrawOffer (s : Part) (o : Offer) : Part :=
  match o.work with
  | .fgRead cid i =>
    (s.unpinOpt o.pin).onCmd cid fun c =>
      { c with segs := c.segs.modify i fun g => { g with outcome := some false } }
  | .forwarded cid => s.onCmd cid (·.setPart 0 .replaced)
  | _ => s

/-- An upstream link reset (R146, R166). -/
def Part.upstreamReset (s : Part) : Part :=
  let mine := fun (w : Work) => w.ofCommand.isSome
  let os := s.port.ungranted mine
  let s := os.foldl Part.withdrawOffer (s.withdraw mine)
  let held := s.ini.hold
  let s := held.foldl (fun s e => s.onCmd e.cid (·.setPart e.part .replaced)) s
  let gone := s.ini.active.filterMap s.detach
  { s with
    ini.tags := List.replicate 32 none,
    ini.accept := [],
    ini.hold := [],
    ini.detached := s.ini.detached ++ gone,
    ref := s.ref.expireAll }

/-! ### Completions of a command's drive commands (R118, R137, R139) -/

/-- A segment of a READ becomes final (R139). -/
def Cmd.setSeg (c : Cmd) (i : Nat) (good : Bool) (bs : List Block) : Cmd :=
  { c with
    segs := c.segs.modify i fun g =>
      { g with outcome := some good, data := if good then fitBlocks g.n bs else [] }
    fail := if good then c.fail else firstFail c.fail (.failed .mediumError) }

/-- The tag of an active command. -/
def Initiator.tagOf (i : Initiator) (cid : Nat) : Option Nat :=
  (i.active.find? (·.cid == cid)).map (·.tag)

/-- The cursor of an active command's READ advances; a detached one sends nothing (R139, R147). -/
def Part.advanceCid (s : Part) (cid : Nat) : Part :=
  match s.ini.tagOf cid with
  | some t => s.advance t
  | none => s

/-- A foreground read that fails with another code than MEDIUM_ERROR raises DRIVE_LINK (R118). -/
def Part.raiseReadError (s : Part) (abs : Nat) (code : DriveCode) : Part :=
  if code = .good ∨ code = .mediumError then s
  else s.raise .driveLink (some .drive) none none (some abs) (some (driveNum code))

/-- A foreground read of absolute blocks from `abs` completes finally (R118, R139). -/
def Part.fgReadFinal (s : Part) (cid i abs : Nat) (pin : Option Pin) (code : DriveCode)
    (bs : List Block) : Part :=
  let s := s.unpinOpt pin
  let s := s.onCmd cid (·.setSeg i (code == .good) bs)
  let s := s.raiseReadError abs code
  s.advanceCid cid

/-- The outcome of a forwarded command (the table of R118). -/
def forwardedOutcome : DriveCode → PartState
  | .good => .done
  | .mediumError => .failed .mediumError
  | .alignError => .failed .invalidField
  | .aborted => .failed .mediumError
  | .otherError => .failed .invalidField
  | .unnamed _ => .failed .invalidField

/-- A forwarded command completes finally (R118). -/
def Part.forwardedFinal (s : Part) (cid : Nat) (code : DriveCode) : Part :=
  s.partFinal cid 0 (forwardedOutcome code)

end Sys2Proof.Machine
end

