-- ==== Sys2Proof/Machine/Merges.lean ====
section
/-! DEFINITION. The merge engine (chapter 5): the start test and its four sources, the snapshot, the reads
and units of a copy, carry-forward passes (R62 to R64), and the deadlock check (R108). -/

namespace Sys2Proof.Machine

/-! ### Carry-forward (R62 to R64) -/

/-- The DATA extents of a pass, in list order. -/
def CarryPass.dataList (p : CarryPass) : List Extent := p.list.filter (·.kind == .data)

/-- The next read of a pass is offered: class E, pinning the record (R62). -/
def Part.issueCarryRead (s : Part) (i : Nat) : Option Part :=
  match (s.mrg.ctx i).carry with
  | none => none
  | some p =>
    if p.flight.length < Config.readsInFlight then
      match p.dataList[p.issued]? with
      | none => none
      | some e =>
        let pin := Pin.record p.seq
        let s := s.pin pin
        let s := s.onCtx i fun c =>
          { c with carry := some { p with issued := p.issued + 1, flight := p.flight ++ [p.issued] } }
        some (s.offer (readOffer .e (.carryRead i p.issued) (logAbs e.lp) e.len (some pin)))
    else none

/-- The reads of a pass that may be in flight are offered (R62). -/
def Part.issueCarryReads (s : Part) (i : Nat) : Part :=
  repeatStep (fun s => s.issueCarryRead i) Config.readsInFlight s

/-- The context is IDLE, every field but the state cleared (R100). -/
def Part.idleCtx (s : Part) (i : Nat) : Part := s.onCtx i fun _ => {}

/-- A pass has failed (R64): MERGE_ABANDONED is raised, and a second consecutive failure on its record
enters DEGRADED, after that event (notes/assumptions/20.md). -/
def Part.carryFailed (s : Part) (l : Option Nat) (seq carried : Nat) (code : DriveCode) : Part :=
  let s := s.raise .mergeAbandoned (some .drive) l none (some carried) (some (driveNum code))
  if s.log.carryFail = some seq then s.enterDegraded
  else { s with log.carryFail := some seq }

/-- The check of a pass whose reads have all completed GOOD (R62): its records are built and wait for
positions (R63), reported in COMMIT from here on (notes/assumptions/50.md), or it ends without writing anything. -/
def Part.checkCarry (s : Part) (i : Nat) : Part :=
  let c := s.mrg.ctx i
  match c.carry, c.band with
  | some p, some l =>
    if (s.bands.lband l).unsettled = 0 ∧ p.list.all (s.idx.extents.contains ·) = true then
      { s.onCtx i fun c => { c with st := .commit } with
        log.waiting := s.log.waiting ++ [Waiting.carry i] }
    else s.idleCtx i
  | _, _ => s

/-- The check is made once every read has completed (R62). -/
def Part.checkCarryIfRead (s : Part) (i : Nat) : Part :=
  match (s.mrg.ctx i).carry with
  | some p =>
    if p.flight = [] ∧ p.got.length = p.dataList.length then s.checkCarry i else s
  | none => s

/-- The conditions of R62 for record `r` of band `l`; no pass on `r` is running. -/
def Part.mayCarry (s : Part) (r : Rec) (l : Nat) : Bool :=
  (s.bands.lband l).st == .faulted && r.st == .settled && decide (0 < r.live) &&
  (s.bands.lband l).unsettled == 0 && !s.holds l &&
  s.mrg.ctxs.all fun c => c.carry.all fun p => p.seq != r.seq

/-- A carry-forward pass for record `r` of band `l` begins in context `i` (R62). -/
def Part.beginCarry (s : Part) (i : Nat) (r : Rec) (l : Nat) : Part :=
  let list := s.idx.ofRecord s.sys.layout.dataBlocks r
  let s := s.onCtx i fun _ =>
    { st := .copy, band := some l, origin := some .tail, carry := some { seq := r.seq, list := list } }
  (s.issueCarryReads i).checkCarryIfRead i

/-- A carry-forward read completes finally (R62, R64). A pass that fails at a read has carried 0 blocks, whatever it has
read (notes/assumptions/49.md). -/
def Part.carryReadFinal (s : Part) (i k : Nat) (pin : Option Pin) (code : DriveCode)
    (bs : List Block) : Part :=
  let s := s.unpinOpt pin
  let c := s.mrg.ctx i
  match c.carry with
  | none => s
  | some p =>
    let p := { p with flight := p.flight.filter (· != k) }
    let s := s.onCtx i fun c => { c with carry := some p }
    if c.st ≠ .copy then s
    else if code = .good then
      let n := match p.dataList[k]? with
        | some e => e.len
        | none => 0
      let s := s.onCtx i fun c =>
        { c with carry := some { p with got := p.got ++ [(k, fitBlocks n bs)],
                                        blocksRead := p.blocksRead + n } }
      (s.issueCarryReads i).checkCarryIfRead i
    else
      let s := s.onCtx i fun c => { c with st := .release }
      s.carryFailed c.band p.seq 0 code

/-! ### The start test (R88 to R92) -/

/-- The band is SUSPECT and its refresh BAND_QUERY has not completed (R35, R89). -/
def Part.refreshing (s : Part) (l : Nat) : Bool :=
  let b := s.bands.lband l
  b.st == .suspect && b.phys.any fun p => (s.bands.pband p).refresh

/-- Context `i` takes band `l` (R92). -/
def Part.takeBand (s : Part) (i l : Nat) (o : MergeOrigin) (clean : Bool) : Part :=
  let b := s.bands.lband l
  let s := s.onL l fun b => { b with st := .merging, resume := some b.st }
  s.onCtx i fun _ =>
    { st := .waitAppend, band := some l, origin := some o, resume := some b.st, old := b.phys,
      clean := clean }

/-- Context `i` takes a band that may also be on the list: its entry is removed, and a CLEAN it answers
is carried with origin DIRECTIVE (R90, R91). -/
def Part.takeListed (s : Part) (i l : Nat) (o : MergeOrigin) : Part :=
  match s.mrg.req l with
  | none => s.takeBand i l o false
  | some e => ((s.dropReq l).takeBand i l (if e.clean then .directive else o) e.clean).rescan

/-- The number of extents of a band. -/
def Part.extentCount (s : Part) (l : Nat) : Nat := s.idx.count s.sys.layout.dataBlocks l

/-- The walk of the list source from its `k`-th entry (R89). It says whether it took a band. -/
def Part.walkList (s : Part) (i : Nat) : Nat → Nat → Part × Bool
  | 0, _ => (s, false)
  | fuel + 1, k =>
    match s.mrg.reqs[k]? with
    | none => (s, false)
    | some e =>
      let b := s.bands.lband e.band
      if b.st = .merging ∨ s.refreshing e.band = true then s.walkList i fuel (k + 1)
      else
        let s := s.dropReq e.band
        if s.extentCount e.band = 0 ∧ b.st ≠ .suspect then
          let s := if e.clean then s.finishClean e.band .done else s
          s.rescan.walkList i fuel k
        else
          let o := if e.urgent = true ∧ e.clean = false then MergeOrigin.urgent else .directive
          ((s.takeBand i e.band o e.clean).rescan, true)

/-- The pressure source (R91). -/
def Part.pressureSource (s : Part) (i : Nat) : Option Part :=
  if s.idx.pressure then
    match s.candidate with
    | none => none
    | some l => if s.refreshing l then none else some (s.takeListed i l .index)
  else none

/-- The tail trigger over the records not yet examined, `first` at the reclaim point (R90). -/
def Part.tailWalk (s : Part) (i : Nat) : Bool → List Rec → Option Part
  | _, [] => none
  | first, r :: rs =>
    if r.st ≠ .settled then none
    else if r.live = 0 then none
    else if r.kind = .commit ∨ (r.kind = .discard ∧ r.full = true) then s.tailWalk i false rs
    else
      match r.band with
      | none => none
      | some l =>
        let b := s.bands.lband l
        if b.st = .merging ∨ s.refreshing l = true then s.tailWalk i false rs
        else if b.st = .faulted then
          if first = true ∧ s.mayCarry r l = true then some (s.beginCarry i r l) else none
        else some (s.takeListed i l .tail)

/-- The tail trigger acts at RECLAIM and above, on at most 64 records, the one at the reclaim point among them (R90;
notes/assumptions/52.md). -/
def Part.tailSource (s : Part) (i : Nat) : Option Part :=
  if s.pace.level = .normal then none
  else s.tailWalk i true (s.log.needed.take Config.tailWalk)

/-- The walk of a drain from a band upward (R110). It says whether it took a band. -/
def Part.drainWalk (s : Part) (i : Nat) : List Nat → Part × Bool
  | [] => ({ s with mrg.drain := s.mrg.drain.map fun d => { d with cursor := s.sys.layout.logBands } }, false)
  | l :: ls =>
    let b := s.bands.lband l
    if s.extentCount l = 0 ∨ b.st = .merging then s.drainWalk i ls
    else if b.st = .faulted then
      ({ s with mrg.drain := s.mrg.drain.map fun d => { d with failed := d.failed + 1 } } :
        Part).drainWalk i ls
    else if s.refreshing l then
      ({ s with mrg.drain := s.mrg.drain.map fun d => { d with cursor := l } }, false)
    else
      ((({ s with mrg.drain := s.mrg.drain.map fun d => { d with cursor := l + 1 } } :
        Part).takeListed i l .drain), true)

/-- The drain source (R88, R110). -/
def Part.drainSource (s : Part) (i : Nat) : Part × Bool :=
  match s.mrg.drain with
  | none => (s, false)
  | some d =>
    s.drainWalk i ((List.range s.sys.layout.logBands).drop d.cursor)

/-- The context a new merge or pass would use: the lowest-numbered IDLE one, while the number of busy ones
is below the setting (R84, R88). -/
def Part.idleContext (s : Part) : Option Nat :=
  let busy := (s.mrg.ctxs.filter (·.st != .idle)).length
  if s.sys.mode = .active ∧ busy < s.cfg.policy.contexts then
    s.mrg.ctxs.findIdx? (·.st == .idle)
  else none

/-- One run of the start test (R88): the state after it, and whether it started work. -/
def Part.startOnce (s : Part) : Part × Bool :=
  match s.idleContext with
  | none => (s, false)
  | some i =>
    match s.walkList i (4 * Config.requestCapacity) 0 with
    | (s, true) => (s, true)
    | (s, false) =>
      match s.pressureSource i with
      | some s => (s, true)
      | none =>
        match s.tailSource i with
        | some s => (s, true)
        | none => s.drainSource i

/-- The start test runs again as long as it starts work, so two contexts may start (R88). -/
def Part.startRuns : Nat → Part → Part
  | 0, s => s
  | fuel + 1, s =>
    match s.startOnce with
    | (s, true) => startRuns fuel s
    | (s, false) => s

/-- The start test (R88), with the end of a drain whose walk it completes (R110). -/
def Part.startTest (s : Part) : Part :=
  if s.sys.mode = .active then (Part.startRuns 3 s).drainCheck else s

/-! ### The deadlock check (R108) -/

/-- The five conditions of R108. -/
def Part.deadlocked (s : Part) : Bool :=
  s.pace.level == .full &&
  s.mrg.ctxs.all (fun c => c.st == .idle || c.st == .waitBand) &&
  s.bands.resetPend.isEmpty && s.bands.free.isEmpty && !s.ini.hold.isEmpty

/-- The check after the start test (R108). -/
def Part.deadlockCheck (s : Part) : Part :=
  if s.sys.mode = .active then
    let t := s.startTest
    if t.deadlocked then t.enterDegraded else t
  else s

/-! ### The snapshot (R93, R94) -/

/-- The context waits in WAIT_APPEND and its band's appends have drained (R92). -/
def Part.drained (s : Part) (c : MergeCtx) : Bool :=
  c.st == .waitAppend && (s.bands.lband (c.band.getD 0)).queue.isEmpty &&
  c.old.all fun p => !(s.bands.pband p).writeOut

/-- A context's COMMIT record is written: it waits for a position (R98). -/
def Part.beginCommit (s : Part) (i : Nat) : Part :=
  { s.onCtx i fun c => { c with st := .commit } with
    log.waiting := s.log.waiting ++ [Waiting.commit i] }

/-- The snapshot of context `i`, and what follows by f' (R93, R94). -/
def Part.snapshot (s : Part) (i : Nat) : Part :=
  let c := s.mrg.ctx i
  if s.drained c then
    let l := c.band.getD 0
    let d := s.sys.layout.dataBlocks
    let es := s.idx.ofBand d l
    let seqs := (es.map (·.seq)).eraseDups
    let f := (s.bands.lband l).f
    let f' := max f (dataTop d l es)
    let s := seqs.foldl (fun s q => s.pin (.record q)) s
    let q := s.log.settled
    let s := s.onCtx i fun c =>
      { c with snapSeq := some q, snap := es, pins := seqs, fill := f, newFill := f' }
    if f' = 0 then s.beginCommit i else s.obtainTarget i
  else s

/-! ### Reads and units (R96, R97, R100, R105) -/

/-- The next merge read of context `i` is offered, when R96 allows. -/
def Part.issueRead (s : Part) (i : Nat) : Part :=
  let c := s.mrg.ctx i
  if c.st = .copy ∧ c.carry.isNone = true ∧ c.reads.length < Config.readsInFlight then
    match (c.chainReads s.sys.layout)[c.front]? with
    | none => s
    | some r =>
      if c.framesUsed + r.n ≤ Config.mergeFrames then
        let s := s.pin r.pin
        let s := s.onCtx i fun c =>
          { c with front := c.front + 1, reads := c.reads ++ [(r.off, r.n)] }
        s.offer (readOffer .e (.mergeRead i r.off r.n) r.abs r.n (some r.pin))
      else s
  else s

/-- Blocks paired with their offsets from `off` on. -/
def numbered : Nat → List Block → List (Nat × Block)
  | _, [] => []
  | off, b :: bs => (off, b) :: numbered (off + 1) bs

/-- A merge read completes finally (R96, R100, R105). -/
def Part.mergeReadFinal (s : Part) (i off n : Nat) (pin : Option Pin) (code : DriveCode)
    (bs : List Block) : Part :=
  let s := s.unpinOpt pin
  let s := s.onCtx i fun c => { c with reads := c.reads.filter fun r => r.1 != off }
  if (s.mrg.ctx i).st ≠ .copy then s
  else if code = .good then
    s.onCtx i fun c => { c with ready := c.ready ++ numbered off (fitBlocks n bs) }
  else s.faultMerge i code

/-- The next unit of context `i`'s target is offered, when R97 allows. -/
def Part.offerUnit (s : Part) (i : Nat) : Part :=
  let c := s.mrg.ctx i
  match c.target with
  | none => s
  | some p =>
    let wp := (s.bands.pband p).wp
    let u := wp / Config.unitBlocks
    if c.st = .copy ∧ c.unitOut = false ∧ wp = Config.unitBlocks * u ∧ 0 < c.unitLen u ∧
        c.unitReady u = true then
      (s.onCtx i fun c => { c with unitOut := true }).offer
        (bandWriteOffer s.sys.layout .e (.targetUnit i u) p wp (c.unitLen u))
    else s

/-- A target unit of `n` blocks from block `start` of band `p` completes finally (R97, R100, R104). -/
def Part.unitFinal (s : Part) (i p start n : Nat) (code : DriveCode) : Part :=
  let c := s.mrg.ctx i
  let wp := start + n
  let s := s.onCtx i fun c =>
    { c with unitOut := false, ready := c.ready.filter fun r => decide (wp - 1 ≤ r.1) }
  if code = .good then
    let s := s.onP p fun q => { q with wp := wp }
    let s := s.onCtx i fun c => { c with copied := wp - 1 }
    if c.st = .copy ∧ wp = 1 + c.newFill then s.beginCommit i else s
  else if c.st = .copy then s.failMerge i code
  else s

/-- A context in RELEASE with nothing outstanding becomes IDLE (R100). -/
def Part.releaseCtx (s : Part) (i : Nat) : Part :=
  let c := s.mrg.ctx i
  if c.st = .release ∧ c.reads = [] ∧ c.unitOut = false ∧ c.carry.all (·.flight.isEmpty) = true then
    (s.idleCtx i).drainCheck.deadlockCheck
  else s

/-! ### Handing a free band (R29) -/

/-- The head of the free list goes to the context that has waited longest (R29). -/
def Part.handBand (s : Part) : Part :=
  match s.mrg.waitBand, s.bands.free with
  | i :: rest, p :: _ =>
    ({ s with mrg.waitBand := rest } : Part).giveTarget i p
  | _, _ => s

end Sys2Proof.Machine
end

