-- ==== Sys2Proof/Machine/Settle.lean ====
section
/-! DEFINITION. Completions of log writes (R49, R53, R54), settlement (R50 to R52, R63), reclaim (R56) and
the completion of anchor writes (R60, R61). -/

namespace Sys2Proof.Machine

/-! ### Record writes -/

/-- LOG_VOID for a record (R53, R54, R172). -/
def Part.raiseVoid (s : Part) (r : Rec) (code : DriveCode) : Part :=
  s.raise .logVoid (some .drive) r.band none (some r.len) (some (driveNum code))

/-- The VOID rewrite of a record is offered; in DEGRADED it is withdrawn at once, and the record becomes a
barrier (R53, R115). -/
def Part.offerVoid (s : Part) (r : Rec) : Part :=
  if s.sys.mode = .degraded then
    (s.onRec r.seq fun r => { r with barrier := some .r54 }).barrierParts
  else s.offer (writeOffer .a (.voidRewrite r.seq) (logAbs r.pos) 1)

/-- A record's write completes finally (R49, R53). -/
def Part.recordFinal (s : Part) (q : Nat) (code : DriveCode) : Part :=
  match s.log.find q with
  | none => s
  | some r =>
    if code = .good then
      (s.onRec q fun r => { r with st := .completed }).barrierParts
    else
      (s.onRec q fun r => { r with void := true, failCode := code }).offerVoid r

/-- A VOID rewrite completes finally (R53, R54). The barrier stands before R55 applies. No rule orders LOG_VOID among the
events of the entry into DEGRADED that it causes; raising it behind them all (MODE_CHANGE, BAND_SUSPECT, MERGE_ABANDONED,
DIRECTIVE_DONE) is the model's choice (notes/assumptions/20.md). -/
def Part.voidFinal (s : Part) (q : Nat) (code : DriveCode) : Part :=
  match s.log.find q with
  | none => s
  | some r =>
    if code = .good then
      ((s.onRec q fun r => { r with st := .completed }).barrierParts).raiseVoid r r.failCode
    else
      let s := s.onRec q fun r => { r with barrier := some .r54 }
      (s.enterDegraded.raiseVoid r code).barrierParts

/-! ### Settlement -/

/-- A record admitted from the hold queue lowers its band's unsettled count and hands back what it
reserved (R24, R51, R70). -/
def Part.settleCounts (s : Part) (r : Rec) : Part :=
  match r.origin, r.band with
  | .cmd _ _, some l =>
    let s := s.onL l fun b => { b with unsettled := b.unsettled - 1 }
    if r.reserve then s.releaseIndex l else s
  | _, _ => s

/-- The extent a settling record inserts (R71). -/
def Rec.extent (d l : Nat) (r : Rec) : Extent where
  start := l * d + r.off
  len := r.n
  kind := if r.kind = .data then .data else .zero
  seq := r.seq
  lp := if r.kind = .data then r.pos + 1 else 0

/-- The insertion of a settling record's extent, with the limit offer of R73 when it brings the band to
its limit (R71, R73). -/
def Part.settleExtent (s : Part) (r : Rec) (l : Nat) : Part :=
  let below := !s.atLimit l
  let s := s.insertExtent (r.extent s.sys.layout.dataBlocks l)
  let st := (s.bands.lband l).st
  if below = true ∧ st ≠ .merging ∧ st ≠ .faulted then s.offerLimit l else s

/-- The pass of context `i` has had its last settlement (R63, R64). -/
def Part.endCarry (s : Part) (i : Nat) (p : CarryPass) : Part :=
  let l := (s.mrg.ctx i).band
  let s := s.idleCtx i
  match p.voided with
  | some code => s.carryFailed l p.seq p.carried code
  | none =>
    { s with log.carryFail := if s.log.carryFail = some p.seq then none else s.log.carryFail }

/-- A record of the pass of context `i` has settled: `n` blocks carried, or void with a code (R52, R63, R64). The first
void's code is kept for the pass's last settlement, and a DATA record and a partial DISCARD count the blocks of their
extent alike (notes/assumptions/49.md). -/
def Part.carrySettled (s : Part) (i n : Nat) (void : Option DriveCode) : Part :=
  match (s.mrg.ctx i).carry with
  | none => s
  | some p =>
    let p := { p with left := p.left - 1, carried := p.carried + n, voided := p.voided.or void }
    let s := s.onCtx i fun c => { c with carry := some p }
    if p.left = 0 then s.endCarry i p else s

/-- The extent a carry-forward record carries is re-pointed to it (R63). -/
def Part.settleCarry (s : Part) (r : Rec) : Part :=
  match r.carries with
  | some (old, start) => s.repoint old start r.seq (r.pos + 1)
  | none => s

/-- The origin of a record that settled void is told (R52, R64, R106). -/
def Part.tellVoid (s : Part) (r : Rec) : Part :=
  match r.origin with
  | .none => s
  | .cmd cid part => s.partFinal cid part (.failed .mediumError)
  | .merge i => s.failMerge i r.failCode
  | .carry i => s.carrySettled i 0 (some r.failCode)

/-- A voided record settles (R51). -/
def Part.settleVoid (s : Part) (r : Rec) : Part :=
  let s := s.onRec r.seq fun r => { r with kind := .void, band := none }
  ((s.settleCounts r).evalPressure).tellVoid r

/-- A record settles normally, by its kind and origin (R51). -/
def Part.settleEffect (s : Part) (r : Rec) : Part :=
  let s := s.settleCounts r
  match r.kind, r.origin, r.band with
  | .commit, .merge i, _ => s.commitMerge i r.seq
  | .commit, _, _ => s
  | _, .carry i, _ => (s.settleCarry r).carrySettled i r.n none
  | .discard, o, some l =>
    let s := if r.full then s.discardBand l r.seq else (s.settleExtent r l).evalPressure
    match o with
    | .cmd cid part => s.partFinal cid part .done
    | _ => s
  | .data, o, some l =>
    let s := (s.settleExtent r l).evalPressure
    match o with
    | .cmd cid part => s.partFinal cid part .done
    | _ => s
  | _, _, _ => s

/-- The record with seq settled seq + 1 settles, if it is COMPLETED (R50). -/
def Part.settleOne (s : Part) : Option Part :=
  match s.log.find (s.log.settled + 1) with
  | none => none
  | some r =>
    if r.st = .completed then
      let s := s.onRec r.seq fun r => { r with st := .settled }
      let s := { s with log.settled := s.log.settled + 1 }
      some (if r.void then s.settleVoid r else s.settleEffect r)
    else none

/-- Settlement, as far as it goes (R50). -/
def Part.settle (s : Part) : Part := Part.repeatStep Part.settleOne s.log.table.length s

/-! ### Reclaim -/

/-- The reclaim point advances as far as it can; an advance triggers the anchor writer (R56). -/
def Part.reclaimAdvance (s : Part) : Part :=
  if s.holdsLog then
    match s.reclaimOne with
    | none => s
    | some t => (Part.repeatStep Part.reclaimOne s.log.table.length t).triggerAnchor
  else s

/-! ### Anchor writes -/

/-- Pacing credit for `t` blocks freed, while the level is PRESSURE or FULL (R18). -/
def Part.creditFor (s : Part) (t : Nat) : Part :=
  if s.pace.level = .pressure ∨ s.pace.level = .full then
    { s with pace := creditFreed s.cfg.policy.paceQ t s.pace }
  else s

/-- An anchor write completes GOOD (R60). -/
def Part.anchorGood (s : Part) (w : AnchorWrite) : Part :=
  let gone := s.log.table.filter fun r => decide (r.seq < w.tailSeq)
  let t := (gone.map (·.len)).sum
  let s := { s with log :=
    { s.log with
      tail := w.tail, table := s.log.table.filter (fun r => !decide (r.seq < w.tailSeq)),
      occ := s.log.occ - t } }
  let s := (s.creditFor t).evalLevel
  let s := { s with log.anchor.failures := 0 }
  let s := s.finishSettings w.dir .done
  let dirty := s.log.anchor.dirty
  let s := { s with log.anchor.flight := none, log.anchor.dirty := false }
  if dirty then s.triggerAnchor else s

/-- The pending settings directive, carried or waiting, finishes FAILED (R61). -/
def Part.failPendingSettings (s : Part) : Part :=
  if s.pendingSettings.isSome then s.finishDirective .failed [] else s

/-- An anchor write completes with an error (R61). At the second the DIRECTIVE_DONE of a directive that the write does
not carry comes before ANCHOR_FAIL (R176), that of one it carries after it (notes/assumptions/20.md). -/
def Part.anchorFailed (s : Part) (w : AnchorWrite) (code : DriveCode) : Part :=
  if s.log.anchor.failures = 0 then
    let s := { s with log.anchor.failures := 1, log.anchor.flight := none }
    if s.sys.mode = .active then s.offerAnchor
    else ({ s with log.anchor.dirty := true } : Part).finishSettings w.dir .failed
  else
    let s := ({ s with log.anchor.failures := 2 } : Part).enterDegraded
    let s := s.raise .anchorFail (some .drive) none none none (some (driveNum code))
    { s.failPendingSettings with log.anchor.flight := none }

/-- An anchor write completes finally (R60, R61), in the modes that hold a log. -/
def Part.anchorFinal (s : Part) (code : DriveCode) : Part :=
  match s.log.anchor.flight with
  | none => s
  | some w =>
    if !s.holdsLog then s
    else if code = .good then s.anchorGood w else s.anchorFailed w code

end Sys2Proof.Machine
end

