-- ==== Sys2Proof/Machine/Port.lean ====
section
/-! DEFINITION. The drive port (chapter 6): what a write holds, the arbiter (R114 to R116), completions
(R117), recovery of band writes (R122), and the band map's commands to the drive (R32 to R36, R40, R41). -/

namespace Sys2Proof.Machine

/-! ### What a write holds -/

/-- The data blocks of a DATA record (R48). -/
def Part.recordData (s : Part) (r : Rec) : List Block :=
  if r.kind = .data then
    match r.origin with
    | .cmd cid _ => s.ini.frameData cid r.first r.n
    | .carry i =>
      match (s.mrg.ctx i).carry with
      | none => fitBlocks r.n []
      | some p =>
        let k := p.dataList.findIdx fun e => some (p.seq, e.start) == r.carries
        match p.got.find? (·.1 == k) with
        | some g => fitBlocks r.n g.2
        | none => fitBlocks r.n []
    | _ => fitBlocks r.n []
  else []

/-- The blocks of a record's write: its header, and a DATA record's data (R48). -/
def Part.recordBlocks (s : Part) (r : Rec) : List Block :=
  let data := s.recordData r
  recordHeader r data :: data

/-- The blocks of an append entry's write: the header of an ALLOCATE, the gap's zeros, the data (R9, R10,
R30, R32). -/
def Part.appendBlocks (s : Part) (l : Nat) (e : AppendEntry) : List Block :=
  (if e.allocate then [bandHeader l e.base false] else []) ++
    List.replicate e.gap [] ++ s.ini.frameData e.cid e.first e.n

/-- The anchor FORMAT writes (R193 step 5). -/
def formatAnchorBlock (g : Layout) : Block :=
  encodeAnchor
    { layout := g, logBase := Config.logBase, tail := 0, tailSeq := 1, policy := {}, disp := {},
      enables := 0xFF, ranges := List.replicate 8 {} }

/-- The blocks of a DRIVE_WRITE, from the frames and tables of its owner (R48, R53, R59, R97, R193), and those of
a forwarded command with data-out (R144). -/
def Part.writeContent (s : Part) (o : Offer) : List Block :=
  match o.work with
  | .record q =>
    match s.log.find q with
    | some r => s.recordBlocks r
    | none => []
  | .voidRewrite q =>
    match s.log.find q with
    | some r => [voidHeader r]
    | none => []
  | .anchor =>
    match s.log.anchor.flight with
    | some w => [w.block]
    | none => []
  | .append l p start =>
    match s.bands.entry l p start with
    | some e => s.appendBlocks l e
    | none => []
  | .targetUnit i u => (s.mrg.ctx i).unitBlocks u
  | .forwarded cid =>
    match s.ini.find cid with
    | some c => if c.dir = .dataOut then fitBlocks c.count c.data else []
    | none => []
  | .formatClear _ n => List.replicate n []
  | .formatAnchor =>
    match s.fmt with
    | some f => [formatAnchorBlock f.layout]
    | none => []
  | _ => []

/-! ### The arbiter -/

/-- The class order in force (R115). -/
def classOrder : Level → List ArbClass
  | .normal => [.a, .b, .c, .d, .e, .f]
  | .reclaim => [.a, .b, .c, .d, .e, .f]
  | .pressure => [.a, .e, .b, .c, .d, .f]
  | .full => [.a, .e, .b, .c, .d, .f]

/-- Slot `k` is free. -/
def Port.isFree (p : Port) (k : Nat) : Bool := (p.slots.getD k none).isNone

/-- The lowest-numbered free slot among general slots 0..27. -/
def Port.general (p : Port) : Option Nat := (List.range 28).find? p.isFree

/-- The lowest-numbered free slot among reserved slots 28..31. -/
def Port.reserved (p : Port) : Option Nat := [28, 29, 30, 31].find? p.isFree

/-- The slot a grant to a class takes, if one is free (R114). -/
def Port.slotFor (p : Port) : ArbClass → Option Nat
  | .a => p.reserved.or p.general
  | .e => p.reserved.or p.general
  | _ => p.general

/-- The arbiter considers the offer: its command is one the mode lets it grant (R115), and R116 does not
hold it back. A band write that recovery offers again is the one its band's flag stays set for (R122). -/
def Part.considers (s : Part) (o : Offer) : Bool :=
  !(o.cmd.modifies && (s.sys.mode == .degraded || s.sys.mode == .halted)) &&
  match o.band with
  | some (p, _) => !(s.bands.pband p).writeOut || decide (1 < o.attempt)
  | none => true

/-- The next grant: a slot, and the place of the offer that takes it (R115). -/
def Part.nextGrant (s : Part) : Option (Nat × Nat) :=
  (classOrder s.pace.level).findSome? fun x =>
    match s.port.slotFor x with
    | none => none
    | some k =>
      (s.port.offers.findIdx? fun o => o.cls == x && s.considers o).map fun i => (k, i)

/-- An offer is granted a slot: the command goes to the drive, and a band write sets its band's write
outstanding flag (R114, R116). -/
def Part.grant (s : Part) (k : Nat) (o : Offer) : Part :=
  let first := o.order = 0
  let o := if first then { o with order := s.port.nextOrder } else o
  let blocks := s.writeContent o
  let s :=
    match o.band with
    | some (p, _) => s.onP p fun q => { q with writeOut := true }
    | none => s
  { s with
    port.slots := s.port.slots.set k (some { offer := o }),
    port.nextOrder := if first then s.port.nextOrder + 1 else s.port.nextOrder,
    port.sent := s.port.sent ++ [{ slot := k, cmd := o.cmd, blocks := blocks }] }

/-- A band write ends with a code at its owner (R33, R34, R36, R97, R104). -/
def Part.bandWriteFinal (s : Part) (o : Offer) (code : DriveCode) : Part :=
  match o.work, o.band, o.cmd with
  | .append l p start, _, _ => if code = .good then s.appendGood l p start else s.appendFail l p start
  | .targetUnit i _, some (p, start), .write _ n => s.unitFinal i p start n code
  | _, _, _ => s

/-- The offer's start is its band's wp, where it writes a band (R116). -/
def Part.aligned (s : Part) (o : Offer) : Bool :=
  match o.band with
  | some (p, start) => (s.bands.pband p).wp == start
  | none => true

/-- One grant, or the completion ALIGN_ERROR of a band write that R116 does not grant. -/
def Part.grantOne (s : Part) : Option Part :=
  if s.port.linkUp then
    match s.nextGrant with
    | none => none
    | some (k, i) =>
      match s.port.offers[i]? with
      | none => none
      | some o =>
        let s := { s with port.offers := s.port.offers.eraseIdx i }
        some (if s.aligned o then s.grant k o else s.bandWriteFinal o .alignError)
  else none

/-- Grants are made until none can be (R115). -/
def Part.grantAll (s : Part) : Part := Part.repeatStep Part.grantOne (33 + s.port.offers.length) s

/-! ### Completions -/

/-- A completion of the command in slot `k` (R117): it is handled when the slot is busy with a work that
`mine` names; the slot frees, a band write's flag clears, and `f` acts, unless the completion is to be
discarded (R126). -/
def Part.complete (s : Part) (k : Nat) (mine : Work → Bool) (f : Offer → Part → Part) : Part :=
  match s.port.slots.getD k none with
  | none => s
  | some x =>
    if mine x.offer.work then
      let s := { s with port.slots := s.port.slots.set k none }
      if x.discard then s else f x.offer (s.clearOut x.offer.band)
    else s

/-- A completion that names a free slot is discarded (R117). -/
def Part.staleCompletion (s : Part) (_k : Nat) (_code : DriveCode) : Part := s

/-- The first absolute block of a read. -/
def DriveCmd.start : DriveCmd → Nat
  | .read abs _ => abs
  | .write abs _ => abs
  | _ => 0

/-! ### Recovery of band writes (R122) -/

/-- The offer was aborted by a link reset, or stands in the place of a write that was: it goes ahead of the others
(R121). -/
def Offer.recovered (o : Offer) : Bool := decide (1 < o.attempt) || o.standsIn

/-- Put an offer in its place by order of first grant. -/
def placeOffer (x : Offer) : List Offer → List Offer
  | [] => [x]
  | o :: os => if x.order < o.order then x :: o :: os else o :: placeOffer x os

/-- Recovered offers join ahead of every offer that was not aborted, in the order in which they were first
granted (R121). -/
def Part.rejoin (s : Part) (os : List Offer) : Part :=
  let old := s.port.offers.filter (·.recovered)
  let rest := s.port.offers.filter fun o => !o.recovered
  { s with port.offers := os.foldl (fun l o => placeOffer o l) old ++ rest }

/-- The band write behind the recovery query of band `p`. -/
def Port.recoveringOf (p : Port) (b : Nat) : Option Recovering :=
  p.recovering.find? fun r => r.offer.band.any fun x => x.1 == b

/-- A band's recovery is decided: its write is no longer behind a query. -/
def Part.dropRecovering (s : Part) (b : Nat) : Part :=
  { s with port.recovering := s.port.recovering.filter fun r => !r.offer.band.any fun x => x.1 == b }

/-- The write ends at its owner with a code, write outstanding clearing first (R122). -/
def Part.endRecovery (s : Part) (o : Offer) (code : DriveCode) : Part :=
  (s.clearOut o.band).bandWriteFinal o code

/-- The recovery query of band `p` reports `w` (R122, R124). A write offered again keeps its band's write
outstanding flag set. -/
def Part.recoveryGood (s : Part) (p w : Nat) : Part :=
  let s := s.onP p fun q => { q with wp := w }
  match s.port.recoveringOf p with
  | none => s
  | some r =>
    let s := s.dropRecovering p
    match r.offer.band, r.offer.cmd with
    | some (_, start), .write _ n =>
      if w = start + n then s.endRecovery r.offer .good
      else if w = start ∧ s.sys.mode ≠ .degraded then
        s.rejoin [{ r.offer with attempt := r.offer.attempt + 1 }]
      else s.endRecovery r.offer .aborted
    | _, _ => s

/-- The recovery query of band `p` fails: it is offered once more, then the write is final with the query's
code (R119, R122). The query offered once more keeps its order (notes/assumptions/28.md). -/
def Part.recoveryFailed (s : Part) (p : Nat) (o : Offer) (code : DriveCode) : Part :=
  match s.port.recoveringOf p with
  | none => s
  | some r =>
    if r.errors = 0 then
      let g := fun (x : Recovering) =>
        if x.offer.band.any (fun y => y.1 == p) then { x with errors := 1 } else x
      ({ s with port.recovering := s.port.recovering.map g } : Part).offer
        { queryOffer (.recoveryQuery p) p 1 with order := o.order }
    else (s.dropRecovering p).endRecovery r.offer code

/-- A refresh query of band `p` completes finally (R35, R119). -/
def Part.refreshFinal (s : Part) (p : Nat) (code : DriveCode) (wps : List Nat) : Part :=
  if code = .good then s.onP p fun q => { q with wp := wps.headD 0, refresh := false }
  else s.offer (queryOffer (.refreshQuery p) p 1)

/-! ### Append issue and band resets -/

/-- The head of an append queue is issued (R32). -/
def Part.appendIssue (s : Part) (l : Nat) : Part :=
  match (s.bands.lband l).queue with
  | [] => s
  | e :: _ =>
    let p := s.bands.pband e.band
    if s.sys.mode = .active ∧ p.writeOut = false ∧ e.issued = false then
      if p.wp = e.start then
        let g := fun (x : AppendEntry) =>
          if x.band = e.band ∧ x.start = e.start then { x with issued := true } else x
        (s.onL l fun b => { b with queue := b.queue.map g }).offer
          (bandWriteOffer s.sys.layout .d (.append l e.band e.start) e.band e.start e.len)
      else s.appendFail l e.band e.start
    else s

/-- An append entry for band `p` remains on a queue (R40). -/
def Bands.appending (b : Bands) (p : Nat) : Bool :=
  b.lbt.any fun l => l.queue.any (·.band == p)

/-- The band's reset may be offered (R40). -/
def Part.resettable (s : Part) (p : Nat) : Bool :=
  let b := s.bands.pband p
  b.readers == 0 && !b.writeOut && !s.bands.appending p && !b.resetIssued && s.sys.mode == .active

/-- The offer of a band's reset (class F). -/
def Part.offerReset (s : Part) (p : Nat) : Part :=
  (s.onP p fun b => { b with resetIssued := true }).offer
    { cls := .f, work := .bandReset p, cmd := .bandReset p }

/-- The resets of eligible bands are offered in list order (R40). -/
def Part.offerResets (s : Part) : Part :=
  (s.bands.resetPend.filter s.resettable).foldl Part.offerReset s

/-- A band is RETIRED and BAND_RETIRED raised (R41, R185, R193). -/
def Part.retire (s : Part) (p : Nat) : Part :=
  (s.onP p fun b => { b with st := .retired }).raise .bandRetired (some .drive) none (some p) none none

/-- A band reset completes finally (R41). Where a failed reset empties the reset-pending list and the deadlock check of the
same event enters DEGRADED (R108), no rule orders BAND_RETIRED and MODE_CHANGE; raising BAND_RETIRED first is the model's
choice (notes/assumptions/20.md). -/
def Part.resetFinal (s : Part) (p : Nat) (code : DriveCode) : Part :=
  let s := { s with bands.resetPend := s.bands.resetPend.filter (· != p) }
  let s := s.onP p fun b => { b with resetIssued := false }
  let s :=
    if code = .good then
      let s := s.onP p fun b => { b with st := .free, wp := 0 }
      let s := { s with bands.free := s.bands.free ++ [p] }
      (s.resetFinished p).releaseHold p
    else s.retire p
  s.deadlockCheck

end Sys2Proof.Machine
end

