-- ==== Sys2Proof/Machine/Directives.lean ====
section
/-! DEFINITION. Directives (R174 to R179, R200, R201), what each does, and the arrival of write data: window
blocks (R167, R168), WRITE blocks with the placement event (R8, R135) and OTHER blocks (R144). -/

namespace Sys2Proof.Machine

/-! ### The tests every directive meets (R174) -/

/-- The code names one of the thirteen directives. -/
def Directive.known : Directive → Bool
  | .unknown _ => false
  | _ => true

/-- The directive takes time (the table of R174). -/
def Directive.takesTime : Directive → Bool
  | .setPolicy .. => true
  | .setDisposition .. => true
  | .setRange .. => true
  | .setAlerts _ => true
  | .clean _ => true
  | .drain => true
  | .format .. => true
  | .restart => true
  | _ => false

/-- The mode allows the directive (the table of R174). -/
def Directive.allowedIn : Directive → Mode → Bool
  | .setPolicy .., m => m == .active || m == .halted
  | .setDisposition .., m => m == .active || m == .halted
  | .setRange .., m => m == .active || m == .halted
  | .setAlerts _, m => m == .active || m == .halted
  | .ackAlerts _, m => m != .mounting
  | .clearFlags, m => m != .mounting
  | .answer .., m => m != .mounting
  | .query _, m => m == .active || m == .degraded
  | .stop, m => m == .active || m == .degraded
  | .clean _, m => m == .active
  | .drain, m => m == .active
  | .format .., m => m == .active || m == .halted
  | .restart, m => m == .active || m == .degraded || m == .halted
  | .unknown _, _ => false

/-- The directive becomes the pending one, answered PENDING (R174, R175). R204 gives result data by directive and no word on
a PENDING answer; that it is empty, of a DRAIN and a RESTART too, is the model's choice (notes/assumptions/37.md). -/
def Part.setPending (s : Part) (num : BitVec 32) (code : Byte) : Part :=
  { s.respond num code .pending [] with win.dirPending := some { num := num, code := code } }

/-! ### Settings directives (R176) -/

/-- A settings directive that passed its tests: PENDING in ACTIVE, with a trigger of the anchor writer;
DONE in HALTED (R59, R176). -/
def Part.acceptSettings (s : Part) (num : BitVec 32) (code : Byte) : Part :=
  if s.sys.mode = .active then (s.setPending num code).triggerAnchor
  else (s.respond num code .done []).triggerAnchor

/-- The policy is installed: the level is re-evaluated, and the credit is reset at PRESSURE (R15, R18,
R176). -/
def Part.installPolicy (s : Part) (p : Policy) : Part :=
  let s := ({ s with cfg.policy := p } : Part).evalLevel
  if s.pace.level = .pressure then { s with pace.credit := p.burst, pace.rem := 0 } else s

/-- SET_POLICY (R176). -/
def Part.dirSetPolicy (s : Part) (num : BitVec 32) (p : Policy) : Part :=
  if quantaOk p then (s.installPolicy p).acceptSettings num 1
  else s.respond num 1 .invalid []

/-- SET_DISPOSITION (R132, R176, R201). -/
def Part.dirSetDisposition (s : Part) (num : BitVec 32) (cls disp : Byte) : Part :=
  match clsOf cls, dispOf disp with
  | some c, some d =>
    if dispAllowed c d then
      ({ s with cfg.disp := s.cfg.disp.put c d } : Part).acceptSettings num 2
    else s.respond num 2 .invalid []
  | _, _ => s.respond num 2 .invalid []

/-- The entry an accepted SET_RANGE writes, for `w` = E x D logical blocks (R154). -/
def newRange (w : Nat) (m : RangeMode) (fixed : Bool) (start length : Nat) : RangeEntry where
  start := start
  length := if m = .off then 0 else min length (w - start)
  mode := m
  fixed := fixed

/-- SET_RANGE (R154, R201). A mode byte that names no mode is INVALID, but for a fixed entry, where R154 asks PROTECTED and
R201 INVALID: which of the two it is stays a free value (`Config.fixedBeforeMode`, notes/assumptions/35.md). -/
def Part.dirSetRange (s : Part) (num : BitVec 32) (index mode fixed : Byte) (start length : Nat) : Part :=
  match s.ret.entries[index.toNat]? with
  | none => s.respond num 3 .invalid []
  | some e =>
    match rangeOf mode with
    | none => s.respond num 3 (if e.fixed && Config.fixedBeforeMode then .prot else .invalid) []
    | some m =>
      if e.fixed then s.respond num 3 .prot []
      else if s.logBlocks ≤ start then s.respond num 3 .invalid []
      else if length = 0 ∧ m ≠ .off then s.respond num 3 .invalid []
      else
        let x := newRange s.logBlocks m (fixed != 0) start length
        ({ s with ret.entries := s.ret.entries.set index.toNat x } : Part).acceptSettings num 3

/-- SET_ALERTS (R173, R176). -/
def Part.dirSetAlerts (s : Part) (num : BitVec 32) (mask : Byte) : Part :=
  ({ s with cfg.enables := mask } : Part).acceptSettings num 4

/-! ### Immediate directives (R177) -/

/-- ACK_ALERTS (R177). -/
def Part.dirAckAlerts (s : Part) (num : BitVec 32) (mask : Byte) : Part :=
  ({ s with win.pending := s.win.pending &&& ~~~mask } : Part).respond num 5 .done []

/-- CLEAR_FLAGS (R153, R177). -/
def Part.dirClearFlags (s : Part) (num : BitVec 32) : Part :=
  ({ s with
      ret :=
        { s.ret with
          latch := none, more := false,
          entries := s.ret.entries.map fun (e : RangeEntry) => { e with activity := false } },
      win.overflow := false } : Part).respond num 6 .done []

/-- The result data of QUERY (R81, R177, R204). -/
def Part.queryData (s : Part) (a : Nat) : List Byte :=
  let d := s.sys.layout.dataBlocks
  let l := a / d
  let b := s.bands.lband l
  let e := s.idx.lookup a
  le 4 l ++ [BitVec.ofNat 8 (lstateNum b.st)] ++ leOpt 4 b.phys ++ le 4 b.f ++ le 4 b.pf ++
  [BitVec.ofNat 8 (extKindNum (e.map (·.kind)))] ++ leOpt 6 (e.map (·.seq)) ++
  leOpt 4 (e.bind fun e => if e.kind = .data then some (e.lp + (a - e.start)) else none)

/-- QUERY (R177). That an INVALID answer carries no result data is the model's choice (notes/assumptions/37.md). -/
def Part.dirQuery (s : Part) (num : BitVec 32) (a : Nat) : Part :=
  if s.logBlocks ≤ a then s.respond num 11 .invalid []
  else s.respond num 11 .done (s.queryData a)

/-- The referred command has data-in (R164). -/
def ReferralEntry.dataIn (e : ReferralEntry) : Bool :=
  e.cls == .identify || (e.cls == .other && e.dir == .dataIn)

/-- The checks of ANSWER COMPLETE (R164). -/
def answerOk (e : ReferralEntry) (code : Code) (len : Nat) : Bool :=
  code != .tagConflict && (if e.dataIn then decide (len ≤ Config.maxReply) else len == 0)

/-- The data-in of an ANSWER COMPLETE with GOOD (R164). -/
def answerBlocks (e : ReferralEntry) (reply : List Byte) : List Block :=
  fitBlocks (if e.cls = .identify then 1 else e.count) [reply]

/-- ANSWER COMPLETE applied to an entry (R164). -/
def Part.answerComplete (s : Part) (num : BitVec 32) (e : ReferralEntry) (code : Code) (len : Nat)
    (reply : List Byte) : Part :=
  if answerOk e code len then
    let s := { s with ref := s.ref.drop e.id }
    let s :=
      if e.dataIn = true ∧ code = .good then s.send (.data e.tag (answerBlocks e (reply.take len)))
      else s
    (s.finish e.tag code).respond num 10 .done []
  else s.respond num 10 .invalid []

/-- A released command is taken (R165). -/
def Part.release (s : Part) (tag : Nat) : Part :=
  match s.ini.at tag with
  | none => s
  | some c =>
    if c.cls = .discard ∧ s.sys.mode ≠ .active then s.finish tag .readOnly
    else s.enqueue { c with refer := false }

/-- ANSWER RELEASE applied to an entry (R165). -/
def Part.answerRelease (s : Part) (num : BitVec 32) (e : ReferralEntry) : Part :=
  (({ s with ref := s.ref.drop e.id } : Part).release e.tag).respond num 10 .done []

/-- What ANSWER gets when no entry holds its id (R163). -/
def Part.answerGone (s : Part) (num : BitVec 32) (id : Nat) : Part :=
  s.respond num 10 (if s.ref.expired.contains id then .tooLate else .unknownId) []

/-- ANSWER (R163 to R165, R201): action 1 is COMPLETE, 2 RELEASE (R208). -/
def Part.dirAnswer (s : Part) (num : BitVec 32) (id : Nat) (action code : Byte) (len : Nat)
    (reply : List Byte) : Part :=
  if action = 1 then
    match codeOf code with
    | none => s.respond num 10 .invalid []
    | some c =>
      match s.ref.find id with
      | some e => s.answerComplete num e c len reply
      | none => s.answerGone num id
  else if action = 2 then
    match s.ref.find id with
    | some e => s.answerRelease num e
    | none => s.answerGone num id
  else s.respond num 10 .invalid []

/-- STOP (R111). Its own entry joins the response list before that of the drain is finished
(notes/assumptions/56.md). -/
def Part.dirStop (s : Part) (num : BitVec 32) : Part :=
  let s := s.respond num 9 .done []
  ({ s with mrg.drain := s.mrg.drain.map fun d =>
      { d with cursor := s.sys.layout.logBands, stopped := true } } : Part).drainCheck

/-! ### Merge directives (R109, R110, R178) -/

/-- CLEAN (R109, R178). Which of its answers carry L is the model's choice (R204; notes/assumptions/37.md). -/
def Part.dirClean (s : Part) (num : BitVec 32) (l : Nat) : Part :=
  if s.sys.layout.logBands ≤ l then s.respond num 7 .invalid []
  else if (s.bands.lband l).st = .faulted then s.respond num 7 .failed (le 4 l)
  else if s.extentCount l = 0 then s.respond num 7 .done (le 4 l)
  else if (s.mrg.req l).isSome then
    let g := fun (e : MergeReq) => if e.band = l then { e with clean := true } else e
    ({ s with mrg.reqs := s.mrg.reqs.map g } : Part).setPending num 7
  else if s.mrg.reqs.length < Config.requestCapacity then
    ({ s with mrg.reqs := s.mrg.reqs ++ [{ band := l, urgent := false, clean := true }] } :
      Part).setPending num 7
  else s.respond num 7 .busy []

/-- DRAIN: the drain is in progress, and the start test runs (R88, R110). -/
def Part.dirDrain (s : Part) (num : BitVec 32) : Part :=
  ({ s with mrg.drain := some {} } : Part).setPending num 8 |>.startTest

/-! ### FORMAT and RESTART (R179) -/

/-- A tag is active, window commands apart (R179). -/
def Initiator.busy (i : Initiator) : Bool := !i.plainTags.isEmpty

/-- Context `i` has a drive command outstanding, as R84 counts them: a read or its target write (R179). The write of
one of its records is the staging log's command and does not count (notes/assumptions/59.md). -/
def Part.ctxOutstanding (s : Part) (i : Nat) : Bool :=
  let c := s.mrg.ctx i
  !c.reads.isEmpty || c.unitOut || c.carry.any (fun p => !p.flight.isEmpty)

/-- A merge context counts as busy at the activity test of RESTART (R179). -/
def Part.ctxBusy (s : Part) (i : Nat) : Bool :=
  if s.sys.mode = .degraded then s.ctxOutstanding i else (s.mrg.ctx i).st != .idle

/-- The layout FORMAT's parameters give on the drive identified, when they pass test 3 (R179). -/
def Part.formatLayout (s : Part) (bandBlocks spares logLen : Nat) : Option Layout :=
  match s.sys.drive with
  | none => none
  | some g =>
    let x : Layout :=
      { bandBlocks := bandBlocks, bands := g.bands, spares := spares, conv := g.conv, logLen := logLen }
    if bandBlocks = g.bandBlocks ∧ bandBlocksOk bandBlocks = true ∧ bandsOk g.bands = true ∧
        sparesOk spares = true ∧ logLenOk logLen = true ∧ Config.logBase + logLen ≤ g.conv ∧
        1 ≤ x.logBands then some x
    else none

/-- FORMAT starts (R193): the part enters FORMATTING; from HALTED with the link DOWN the timer starts. -/
def Part.startFormat (s : Part) (x : Layout) : Part :=
  let timer := if s.sys.mode = .halted then (if s.port.linkUp then none else some 0) else s.port.timer
  let halted := s.sys.mode == .halted
  let s := s.enter .formatting .none
  { s with pace := {}, fmt := some { layout := x, fromHalted := halted }, port.timer := timer }

/-- FORMAT (R156, R179). -/
def Part.dirFormat (s : Part) (num : BitVec 32) (bandBlocks spares logLen : Nat) : Part :=
  if s.sys.mode = .active ∧
      (s.ini.busy = true ∨ s.mrg.ctxs.any (·.st != .idle) = true) then s.respond num 12 .busy []
  else if s.ret.entries.any (fun e => e.fixed && e.mode == .hold) then s.respond num 12 .prot []
  else
    match s.formatLayout bandBlocks spares logLen with
    | none => s.respond num 12 .invalid []
    | some x => (s.setPending num 12).startFormat x

/-- RESTART acts (R194, R126, R152, R157). The working copy is kept; until mount loads it the Disposition Table and the
referral timeout in force are the defaults (R132, R148, R160; notes/assumptions/18.md). -/
def Part.startRestart (s : Part) : Part :=
  let timer := if s.sys.mode = .halted then (if s.port.linkUp then none else some 0) else s.port.timer
  let s := { s with win.events := [], win.nextEvent := 0, win.overflow := false }
  let s := s.enter .mounting .none
  let s := s.clearTables.clearPort
  { s with
    cfg.loaded := false, ret := {}, ref := {}, ini.accept := [], mnt := { phase := .wait }
    port.timer := timer }

/-- RESTART (R179). -/
def Part.dirRestart (s : Part) (num : BitVec 32) : Part :=
  if s.mounted = true ∧
      (s.ini.busy = true ∨ (List.range s.mrg.ctxs.length).any s.ctxBusy = true) then
    s.respond num 13 .busy []
  else (s.setPending num 13).startRestart

/-! ### Taking a directive -/

/-- A directive's own tests and effect (step 4 of R174). -/
def Part.applyDirective (s : Part) (num : BitVec 32) (d : Directive) : Part :=
  match d with
  | .setPolicy l h x g p b c t => s.dirSetPolicy num (clampPolicy l h x g p b c t)
  | .setDisposition c x => s.dirSetDisposition num c x
  | .setRange i m f a n => s.dirSetRange num i m f a.toNat n.toNat
  | .setAlerts m => s.dirSetAlerts num m
  | .ackAlerts m => s.dirAckAlerts num m
  | .clearFlags => s.dirClearFlags num
  | .clean l => s.dirClean num l.toNat
  | .drain => s.dirDrain num
  | .stop => s.dirStop num
  | .answer id a c len reply => s.dirAnswer num id.toNat a c len.toNat reply
  | .query a => s.dirQuery num a.toNat
  | .format b r n => s.dirFormat num b.toNat r.toNat n.toNat
  | .restart => s.dirRestart num
  | .unknown c => s.respond num c .invalid []

/-- The tests of R174, in order. That an answer they give carries no result data, whatever the directive, is the model's
choice (R204; notes/assumptions/37.md). -/
def Part.takeDirective (s : Part) (num : BitVec 32) (d : Directive) : Part :=
  if !d.known then s.respond num d.code .invalid []
  else if !d.allowedIn s.sys.mode then s.respond num d.code .notReady []
  else if d.takesTime && s.win.dirPending.isSome then s.respond num d.code .busy []
  else s.applyDirective num d

/-- A directive arrives in a block: the block is kept for the echo of page 2, and the directive taken
(R168, R174). -/
def Part.takeEchoed (s : Part) (block : Block) (num : BitVec 32) (d : Directive) : Part :=
  ({ s with win.echo := toBlock block } : Part).takeDirective num d

/-! ### Window blocks (R167, R168) -/

/-- The page the next block of a tag's window WRITE goes to. -/
def Initiator.windowPage (i : Initiator) (tag : Nat) : Option Nat :=
  match i.at tag with
  | some c => if c.window then some (c.page + c.taken) else none
  | none => none

/-- One more block of a tag's window WRITE has been taken; GOOD follows the last (R167). -/
def Part.windowTaken (s : Part) (tag : Nat) : Part :=
  match s.ini.at tag with
  | none => s
  | some c =>
    let c := { c with taken := c.taken + 1 }
    let s := s.putTag tag (some c)
    if c.taken = c.count then s.finish tag .good else s

/-- The number of the DIRECTIVE page (R168). -/
def directivePage : Nat := 2

/-- The block of a directive arrives on a tag's window WRITE (R167, R168). -/
def Part.directiveBlock (s : Part) (tag : Nat) (block : Block) (num : BitVec 32) (d : Directive) : Part :=
  if s.ini.windowPage tag = some directivePage then
    (s.takeEchoed block num d).windowTaken tag
  else s

/-- A block arrives on a tag's window WRITE to a page whose write is ignored (R168). -/
def Part.ignoredBlock (s : Part) (tag : Nat) : Part :=
  match s.ini.windowPage tag with
  | some k => if k = directivePage then s else s.windowTaken tag
  | none => s

/-- A directive that is the command of its own row: its block is written as R200 lays it out. -/
def Part.directiveRow (s : Part) (tag : Nat) (num : BitVec 32) (d : Directive) : Part :=
  s.directiveBlock tag (encodeDirective num d) num d

/-! ### Write data (R135, R144) -/

/-- The placement event of a WRITE (R8, R135). The tests of R8 are made in the order in which it lists them, so a piece
in a FAULTED band ends the command MEDIUM_ERROR in DEGRADED too (R135, R145; notes/assumptions/58.md). -/
def Part.placeWrite (s : Part) (tag : Nat) (c : Cmd) : Part :=
  let ps := pieces s.sys.layout.dataBlocks c.lba c.count
  if s.anyFaulted ps then s.finish tag .mediumError
  else if s.sys.mode = .degraded then s.finish tag .readOnly
  else (s.placePieces c.cid 0 ps).deadlockCheck

/-- A block of solicited data arrives for a WRITE or a data-out OTHER (R135, R144, R145). -/
def Part.receiveBlock (s : Part) (tag : Nat) (c : Cmd) (block : Block) : Part :=
  let c := { c with data := c.data ++ [toBlock block] }
  if c.data.length < c.count then s.putTag tag (some c)
  else
    let c := { c with st := .working }
    let s := s.putTag tag (some c)
    if c.cls = .write then s.placeWrite tag c
    else if s.sys.mode = .degraded then s.finish tag .readOnly
    else s.forward tag

/-- A block arrives for the command on a tag (R135, R144, R167). -/
def Part.dataBlock (s : Part) (tag : Nat) (block : Block) : Part :=
  match s.ini.at tag with
  | none => s
  | some c =>
    if c.window then
      if s.ini.windowPage tag = some directivePage then
        s.directiveBlock tag block (directiveNum block) (decodeDirective block)
      else s.ignoredBlock tag
    else if c.st = .receiving then s.receiveBlock tag c block
    else s

/-- Data of a forwarded data-in command is passed to the initiator as it arrives; that of a dropped command
is discarded (R118, R146; notes/assumptions/46.md). -/
def Part.forwardData (s : Part) (slot : Nat) (blocks : List Block) : Part :=
  match s.port.slots.getD slot none with
  | none => s
  | some x =>
    match x.offer.work with
    | .forwarded cid =>
      if x.discard then s
      else
        match s.ini.active.find? fun c => c.cid == cid && c.dir == .dataIn with
        | some c =>
          let bs := blocks.map toBlock
          (s.putTag c.tag (some { c with data := c.data ++ bs })).send (.data c.tag bs)
        | none => s
    | _ => s

end Sys2Proof.Machine
end

