-- ==== Sys2Proof/Machine/Mount.lean ====
section
/-! DEFINITION. Mount (R183 to R190): its five phases, replay, claim resolution, and the end of mount. -/

namespace Sys2Proof.Machine

/-! ### Phase IDENTIFY (R183) -/

/-- An offer of a DRIVE_IDENTIFY (class F). -/
def identifyOffer (w : Work) : Offer := { cls := .f, work := w, cmd := .identify }

/-- Every drive slot is free. -/
def Port.idle (p : Port) : Bool := p.slots.all (·.isNone)

/-- Mount begins with phase IDENTIFY, once the link is up and no slot is busy (R183, R194). -/
def Part.mountStart (s : Part) : Part :=
  if s.sys.mode = .mounting ∧ s.mnt.phase = .wait ∧ s.port.linkUp = true ∧ s.port.idle = true then
    ({ s with mnt.phase := .identify } : Part).offer (identifyOffer .mountIdentify)
  else s

/-- The drive's geometry is valid (R183). -/
def geometryOk (g : DriveGeo) : Bool :=
  bandBlocksOk g.bandBlocks && bandsOk g.bands && decide (Config.logBase + 16384 ≤ g.conv)

/-- The queries over bands `p` .. of `n` bands, at most 8,192 each, in ascending order (R112, R183). That each but the last
is over 8,192 bands is the model's choice (notes/assumptions/57.md). -/
def queryRuns : Nat → Nat → Nat → List (Nat × Nat)
  | 0, _, _ => []
  | fuel + 1, p, n =>
    if n = 0 then []
    else
      let k := min Config.driveMax n
      (p, k) :: queryRuns fuel (p + k) (n - k)

/-- The drive's identity is recorded (R148, R183, R191). -/
def Part.recordDrive (s : Part) (g : DriveGeo) (serial : List Byte) : Part :=
  { s with sys.drive := some g, sys.serial := fit 20 0x20 serial }

/-- The DRIVE_IDENTIFY of mount completes finally (R183). That its queries are offered all together is the model's choice
(notes/assumptions/57.md). -/
def Part.mountIdentified (s : Part) (code : DriveCode) (g : DriveGeo) (serial : List Byte) : Part :=
  if code = .good then
    let s := s.recordDrive g serial
    if geometryOk g then
      let runs := queryRuns (g.bands / Config.driveMax + 1) 0 g.bands
      ({ s with mnt.phase := .queries, mnt.wps := List.replicate g.bands none } : Part).offerAll
        (runs.map fun r => queryOffer (.mountQuery r.1 r.2) r.1 r.2)
    else s.enterHalted .geometryMismatch
  else s.offer (identifyOffer .mountIdentify)

/-- The write pointers of bands `p` .. are recorded. -/
def setWps (ws : List (Option Nat)) : Nat → List Nat → List (Option Nat)
  | _, [] => ws
  | p, w :: rest => setWps (ws.set p (some w)) (p + 1) rest

/-- The read of the anchor is offered (R184). -/
def Part.offerAnchorRead (s : Part) : Part := s.offer (readOffer .b .mountAnchor 0 1 none)

/-- A BAND_QUERY of mount completes finally (R119, R183). -/
def Part.mountQueryFinal (s : Part) (p n : Nat) (code : DriveCode) (wps : List Nat) : Part :=
  if code = .good then
    let s := { s with mnt.wps := setWps s.mnt.wps p wps }
    if s.mnt.wps.all (·.isSome) then ({ s with mnt.phase := .anchor } : Part).offerAnchorRead else s
  else s.offer (queryOffer (.mountQuery p n) p n)

/-! ### Replay reads (R186) -/

/-- The read of the header block at the replay position is offered (R186). -/
def Part.offerReplay (s : Part) : Part :=
  ({ s with mnt.header := none } : Part).offer
    (readOffer .b .replayHeader (logAbs s.mnt.pos) 1 none)

/-- Phase REPLAY begins (R186). -/
def Part.startReplay (s : Part) : Part :=
  ({ s with mnt.phase := .replay, mnt.pos := s.log.tail, mnt.seq := s.mnt.tailSeq } : Part).offerReplay

/-- The log ends at the replay position (R186). -/
def Part.endReplay (s : Part) : Part :=
  { s with
    mnt.phase := .resolve, mnt.header := none, log.head := s.mnt.pos, log.nextSeq := s.mnt.seq,
    log.settled := s.mnt.seq - 1 }

/-- The log ends at the replay position, and the mount result is DEGRADED (R82, R186). -/
def Part.endReplayDegraded (s : Part) : Part := ({ s with mnt.degraded := true } : Part).endReplay

/-! ### Phase ANCHOR (R184) and phase HEADERS (R185) -/

/-- The read of a band's first block is offered (R185). -/
def Part.offerHeaderRead (s : Part) (p : Nat) : Part :=
  s.offer (readOffer .b (.mountHeader p) (s.sys.layout.bandStart p) 1 none)

/-- Phase HEADERS begins: bands with wp = 0 are free, the others are read (R185). -/
def Part.startHeaders (s : Part) : Part :=
  let ps := List.range s.bands.pool.length
  let empty := ps.filter fun p => (s.bands.pband p).wp == 0
  let written := ps.filter fun p => (s.bands.pband p).wp != 0
  let g := fun (b : PBand) => if b.wp = 0 then { b with st := PState.free } else b
  let s := { s with
    bands.pool := s.bands.pool.map g, bands.free := empty, mnt.phase := .headers,
    mnt.headersOpen := written }
  let s := written.foldl Part.offerHeaderRead s
  if written.isEmpty then s.startReplay else s

/-- The settings and the retention ranges are loaded into the working copy (R155, R173, R184). -/
def Part.loadSettings (s : Part) (a : AnchorData) : Part :=
  { s with
    cfg := { policy := a.policy, disp := a.disp, enables := a.enables, loaded := true }, ret.entries := a.ranges }

/-- The stored geometry is the drive's (R184 test 4). -/
def Part.geometryMatches (s : Part) (a : AnchorData) : Bool :=
  s.sys.drive == some { bands := a.layout.bands, bandBlocks := a.layout.bandBlocks, conv := a.layout.conv } &&
  decide (Config.logBase + a.layout.logLen ≤ a.layout.conv)

/-- The tables mount builds after test 4 (R184). -/
def Part.buildTables (s : Part) (a : AnchorData) : Part :=
  { s with
    sys.layout := a.layout,
    bands := { lbt := List.replicate a.layout.logBands {},
               pool := s.mnt.wps.map fun w => { wp := w.getD 0 } },
    log.tail := a.tail, log.reclaim := a.tail, mnt.tailSeq := a.tailSeq }

/-- The anchor block, judged (R184). -/
def Part.judgeAnchor (s : Part) (b : Block) : Part :=
  if bytesAt b 0 8 ≠ sigAnchor then s.enterHalted .blank
  else
    match parseAnchor b with
    | none => s.enterHalted .anchorBad
    | some a =>
      if checkMatches b 205 [] && anchorInRange a then
        let s := s.loadSettings a
        if s.geometryMatches a then (s.buildTables a).startHeaders
        else s.enterHalted .geometryMismatch
      else s.enterHalted .anchorBad

/-- The mount read of the anchor completes finally (R184). -/
def Part.anchorReadFinal (s : Part) (code : DriveCode) (b : Block) : Part :=
  if code = .good then s.judgeAnchor b
  else if s.mnt.anchorErrors = 0 then ({ s with mnt.anchorErrors := 1 } : Part).offerAnchorRead
  else s.enterHalted .anchorBad

/-- What a header that was read says of its band: its candidate, when it is valid (R185). -/
def Part.headerCandidate (s : Part) (p : Nat) (b : Block) : Option Candidate :=
  match parseBandHeader b with
  | none => none
  | some (l, base, mark) =>
    if l < s.sys.layout.logBands then some { p := p, band := l, base := base, mark := mark } else none

/-- A header read of band `p` has had its final completion; the last one begins replay (R185, R186). -/
def Part.headerDone (s : Part) (p : Nat) : Part :=
  let s := { s with mnt.headersOpen := s.mnt.headersOpen.filter (· != p) }
  if s.mnt.headersOpen.isEmpty then s.startReplay else s

/-- A band header read completes finally (R185). -/
def Part.headerReadFinal (s : Part) (p : Nat) (code : DriveCode) (b : Block) : Part :=
  if code = .good then
    match s.headerCandidate p b with
    | some c => ({ s with mnt.candidates := s.mnt.candidates ++ [c] } : Part).headerDone p
    | none =>
      (({ s with mnt.invalid := s.mnt.invalid ++ [p] } : Part).onP p fun q =>
        { q with st := .resetPending }).headerDone p
  else if s.mnt.headersRetried.contains p then (s.retire p).headerDone p
  else ({ s with mnt.headersRetried := s.mnt.headersRetried ++ [p] } : Part).offerHeaderRead p

/-! ### Phase REPLAY (R186, R187) -/

/-- The length agrees with the kind (R43, R186). -/
def lengthOk (logLen : Nat) (r : Rec) : Bool :=
  match r.kind with
  | .data => decide (1 ≤ r.n ∧ r.n ≤ Config.recordData ∧ r.len = 1 + r.n)
  | .discard => r.len == 1
  | .commit => r.len == 1
  | .pad => decide (r.pos + r.len = logLen ∧ 1 ≤ r.len ∧ r.len ≤ Config.recordData)
  | .void => decide (1 ≤ r.len ∧ r.len ≤ Config.recordData + 1)

/-- The fields the kind carries lie in their ranges (R186). -/
def fieldsOk (g : Layout) (r : Rec) : Bool :=
  match r.kind with
  | .data => r.band.any fun l => decide (l < g.logBands)
  | .discard => r.band.any fun l => decide (l < g.logBands)
  | .commit =>
    (r.band.any fun l => decide (l < g.logBands)) &&
    (r.oldBand.all fun p => decide (p < g.bands)) && (r.newBand.all fun p => decide (p < g.bands)) &&
    decide (r.snapSeq < r.seq) && decide (r.newFill ≤ g.dataBlocks)
  | .pad => true
  | .void => true

/-- The tests of R186 but for the check value and the room in the record table. -/
def Part.replayable (s : Part) (r : Rec) : Bool :=
  let g := s.sys.layout
  r.seq == s.mnt.seq && lengthOk g.logLen r && decide (r.pos + r.len ≤ g.logLen) && fieldsOk g r &&
  decide (s.mnt.blocks + r.len ≤ g.logLen)

/-- The effect of an accepted record on the index (R82), and the notes kept of it (R187). -/
def Part.replayEffect (s : Part) (r : Rec) : Part :=
  let d := s.sys.layout.dataBlocks
  match r.kind, r.band with
  | .data, some l => s.insertExtent (r.extent d l)
  | .discard, some l =>
    if r.full then
      let s := s.removeExtents fun e => e.start / d == l
      { s with mnt.floors := (l, r.seq) :: s.mnt.floors.filter (·.1 != l) }
    else s.insertExtent (r.extent d l)
  | .commit, some l =>
    let s := s.removeExtents (upTo d l r.snapSeq)
    { s with mnt.notes :=
        { band := l, newBand := r.newBand, snapSeq := r.snapSeq } ::
          s.mnt.notes.filter (·.band != l) }
  | _, _ => s

/-- A record is accepted: it enters the table as SETTLED and takes effect, and the walk goes on (R186, R187). An
insertion that leaves more extents than the index has entries ends it (R82; notes/assumptions/51.md). -/
def Part.acceptRecord (s : Part) (r : Rec) : Part :=
  let r := { r with st := RecState.settled, live := 0 }
  let t := ({ s with log.table := s.log.table ++ [r] } : Part).replayEffect r
  if Config.indexCapacity < t.idx.extents.length then s.endReplayDegraded
  else
    let t := { t with
      mnt.pos := s.sys.layout.nextPos r.pos r.len, mnt.seq := s.mnt.seq + 1,
      mnt.blocks := s.mnt.blocks + r.len, mnt.records := s.mnt.records + 1 }
    if t.mnt.blocks = s.sys.layout.logLen then t.endReplay else t.offerReplay

/-- A record read whole is judged by its check value and the room in the table (R65, R186). -/
def Part.judgeRecord (s : Part) (b : Block) (r : Rec) (data : List Block) : Part :=
  if !checkMatches b (checkOffset r.kind) data then s.endReplay
  else if Config.recordCapacity ≤ s.log.table.length then s.endReplayDegraded
  else s.acceptRecord r

/-- The record a header block at the replay position says, when it passes the tests that need no data. -/
def Part.replayRecord (s : Part) (b : Block) : Option Rec :=
  match parseRecord b s.mnt.pos with
  | none => none
  | some r => if s.replayable r then some r else none

/-- A header block read at the replay position (R186): the data blocks of a DATA record are read next, by a command of their
own (notes/assumptions/57.md). -/
def Part.replayHeaderRead (s : Part) (b : Block) : Part :=
  match s.replayRecord b with
  | none => s.endReplay
  | some r =>
    if r.kind = .data then
      ({ s with mnt.header := some b } : Part).offer
        (readOffer .b .replayData (logAbs (r.pos + 1)) r.n none)
    else s.judgeRecord b r []

/-- The data blocks of the record whose header waits (R186). -/
def Part.replayDataRead (s : Part) (bs : List Block) : Part :=
  match s.mnt.header with
  | none => s
  | some b =>
    match s.replayRecord b with
    | none => s.endReplay
    | some r => s.judgeRecord b r (fitBlocks r.n bs)

/-- A replay read completes finally, in phase REPLAY of a mount (R186). -/
def Part.replayFinal (s : Part) (w : Work) (code : DriveCode) (bs : List Block) : Part :=
  if s.sys.mode ≠ .mounting ∨ s.mnt.phase ≠ .replay then s
  else if code = .good then
    match w with
    | .replayHeader => s.replayHeaderRead (bs.headD [])
    | .replayData => s.replayDataRead bs
    | _ => s
  else s.endReplayDegraded

/-! ### Claims (R188) -/

/-- What claim resolution finds for a logical band. -/
structure Claim where
  winner : Option Candidate := none
  faulted : Bool := false
  floor : Nat := 0
  losers : List Candidate := []
  deriving DecidableEq, Repr

/-- The better of two candidates by base seq, the highest (`hi`) or the lowest; equal bases go to the
lower band (R188 rule 3). -/
def betterClaim (hi : Bool) (x y : Candidate) : Candidate :=
  if x.base = y.base then (if y.p < x.p then y else x)
  else if hi = decide (x.base < y.base) then y else x

/-- The best of a list of candidates. -/
def bestClaim (hi : Bool) : List Candidate → Option Candidate
  | [] => none
  | c :: cs => some (cs.foldl (betterClaim hi) c)

/-- Rule 3 of R188 over the remaining candidates. -/
def ruleThree (tailSeq : Nat) (cs : List Candidate) : Option Candidate :=
  let cs := cs.filter fun c => !c.mark || decide (c.base + 2 ≤ tailSeq)
  let old := cs.filter fun c => decide (c.base < tailSeq)
  if old.isEmpty then bestClaim false cs else bestClaim true old

/-- The claim on logical band `l`, by the four rules of R188. -/
def resolveClaim (tailSeq nextSeq df : Nat) (note : Option CommitNote) (cs : List Candidate) : Claim :=
  let note := note.filter fun n => decide (df ≤ n.snapSeq)
  let floor := match note with
    | some n => max df n.snapSeq
    | none => df
  let left := cs.filter fun c => decide (c.base < nextSeq ∧ floor ≤ c.base)
  let winner := match note.bind (·.newBand), note with
    | some p, some n => left.find? fun c => c.p == p && c.base == n.snapSeq
    | _, _ => ruleThree tailSeq left
  { winner := winner
    faulted := winner.isNone && (note.bind (·.newBand)).isSome
    floor := floor
    losers := cs.filter fun c => winner != some c }

/-- The claim on logical band `l` from what mount has gathered. -/
def Part.claim (s : Part) (l : Nat) : Claim :=
  resolveClaim s.mnt.tailSeq s.log.nextSeq
    (match s.mnt.floors.find? (·.1 == l) with
      | some x => x.2
      | none => 0)
    (s.mnt.notes.find? (·.band == l)) (s.mnt.candidates.filter (·.band == l))

/-! ### Setting up (R189) -/

/-- The band's entry for its claim (R189); `w` is the winner's write pointer. -/
def Claim.entry (c : Claim) (d w : Nat) : LBand :=
  match c.winner with
  | some x =>
    { st := if w - 1 = d then .full else .filling, phys := some x.p, f := w - 1, pf := w - 1,
      floor := x.base }
  | none => { st := if c.faulted then .faulted else .empty, floor := c.floor }

/-- One logical band is set up (R188, R189). -/
def Part.setUpBand (s : Part) (l : Nat) : Part :=
  let c := s.claim l
  let w := match c.winner with
    | some x => (s.bands.pband x.p).wp
    | none => 0
  let s := s.onL l fun _ => c.entry s.sys.layout.dataBlocks w
  let s := match c.winner with
    | some x => s.onP x.p fun q => { q with st := .mapped, owner := some l }
    | none => s
  let s := c.losers.foldl (fun s x => s.onP x.p fun q => { q with st := .resetPending }) s
  if c.faulted then s.raise .bandFaulted (some .drive) (some l) none none none else s

/-- The replayed COMMIT of the loser's band that names it as old band, the latest (R189). -/
def Log.commitAwaiting (g : Log) (c : Candidate) : Option Rec :=
  (g.table.filter fun r =>
    r.kind == .commit && r.band == some c.band && r.oldBand == some c.p).getLast?

/-- The lowest-seq replayed full DISCARD of the loser's band above its base (R189). -/
def Log.discardAwaiting (g : Log) (c : Candidate) : Option Rec :=
  g.table.find? fun r =>
    r.kind == .discard && r.full && r.band == some c.band && decide (c.base < r.seq)

/-- The record that awaits a loser (R189). -/
def Log.awaiter (g : Log) (c : Candidate) : Option Rec :=
  match g.commitAwaiting c with
  | some r => some r
  | none => (g.discardAwaiting c).filter fun r => decide (r.awaited.length < 2)

/-- A loser becomes an awaited band, or takes a target hold, or neither (R58, R189). -/
def Part.assignLoser (s : Part) (c : Candidate) : Part :=
  match s.log.awaiter c with
  | some r => s.onRec r.seq fun r => { r with awaited := r.awaited ++ [c.p] }
  | none => if c.mark then { s with log.holds := s.log.holds ++ [(c.p, c.base)] } else s

/-- The losers of claim resolution, in ascending p. -/
def Part.losers (s : Part) (cs : List Claim) : List Candidate :=
  let all := cs.flatMap (·.losers)
  (List.range s.bands.pool.length).filterMap fun p => all.find? (·.p == p)

/-- The live counts of replayed COMMIT and full DISCARD records (R189). -/
def Rec.awaitedLive (r : Rec) : Rec :=
  if r.kind = .commit ∨ (r.kind = .discard ∧ r.full = true) then { r with live := r.awaited.length }
  else r

/-- Phase RESOLVE but for the end of mount (R83, R188, R189). -/
def Part.resolveClaims (s : Part) : Part :=
  let ls := List.range s.bands.lbt.length
  let claims := ls.map s.claim
  let d := s.sys.layout.dataBlocks
  let s := ls.foldl Part.setUpBand s
  let s := s.removeExtents fun e => decide (e.seq ≤ (s.bands.lband (e.start / d)).floor)
  let s := (s.losers claims).foldl Part.assignLoser s
  { s with
    log.table := s.log.table.map Rec.awaitedLive, log.reclaim := s.log.tail, log.occ := s.mnt.blocks,
    bands.resetPend := (List.range s.bands.pool.length).filter fun p =>
      (s.bands.pband p).st == .resetPending }

/-! ### The end of mount (R190) -/

/-- A RESTART that started the mount finishes (R179, R190). -/
def Part.finishRestart (s : Part) : Part :=
  if s.pendingIs [restartCode] then
    s.finishDirective (if s.sys.mode = .active then .done else .failed)
      [BitVec.ofNat 8 (modeNum s.sys.mode)]
  else s

/-- The number of mapped logical bands. -/
def Bands.mappedCount (b : Bands) : Nat := (b.lbt.filter (·.phys.isSome)).length

/-- In ACTIVE, the bands at their extent limit are offered, in ascending order (R73, R190; notes/assumptions/19.md). -/
def Part.offerLimits (s : Part) : Part :=
  if s.sys.mode = .active then
    (List.range s.bands.lbt.length).foldl
      (fun s l => if (s.bands.lband l).st = .faulted then s else s.offerLimit l) s
  else s

/-- Mount ends (R190); the order of its events is notes/assumptions/20.md. -/
def Part.endMount (s : Part) : Part :=
  let records := s.mnt.records
  let s := s.enter (if s.mnt.degraded then .degraded else .active) .none
  let s := { s with mnt := {}, pace := {} }
  let s := s.raise .mountDone (some .mode) none none (some s.bands.mappedCount) (some records)
  ((s.evalLevel.evalPressure).offerLimits).finishRestart

/-- Claim resolution, when replay has finished (R188 to R190). -/
def Part.claimResolution (s : Part) : Part :=
  if s.sys.mode = .mounting ∧ s.mnt.phase = .resolve then s.resolveClaims.endMount else s

end Sys2Proof.Machine
end

