-- ==== Sys2Proof/Machine/Format.lean ====
section
/-! DEFINITION. FORMAT (R193), step by step, after its taking (R179). -/

namespace Sys2Proof.Machine

/-- FORMAT fails: the part enters HALTED, and the FORMAT finishes FAILED (R193). -/
def Part.failFormat (s : Part) (h : HaltReason) : Part := s.enterHalted h

/-- No slot is busy, no offer waits, and nothing awaits recovery (R193 step 1). -/
def Port.quiet (p : Port) : Bool :=
  p.idle && p.offers.isEmpty && p.awaiting.isEmpty && p.recovering.isEmpty

/-- The quiesce step ends: every table is cleared, and the identify is offered (R193). -/
def Part.formatQuiesced (s : Part) : Part :=
  match s.fmt with
  | none => s
  | some f =>
    if f.step = .quiesce ∧ (f.fromHalted = true ∨ s.port.quiet = true) then
      ({ s.clearTables with fmt := some { f with step := .identify } } : Part).offer
        (identifyOffer .formatIdentify)
    else s

/-- The log-clearing writes from log block `k` over `n` blocks, at most 8,192 each (R193 step 3). -/
def clearRuns : Nat → Nat → Nat → List (Nat × Nat)
  | 0, _, _ => []
  | fuel + 1, k, n =>
    if n = 0 then []
    else
      let m := min Config.driveMax n
      (k, m) :: clearRuns fuel (k + m) (n - m)

/-- The offer of a log-clearing write (class A). -/
def clearOffer (k n : Nat) : Offer := writeOffer .a (.formatClear k n) (logAbs k) n

/-- Change FORMAT's progress. -/
def Part.onFmt (s : Part) (g : Format → Format) : Part := { s with fmt := s.fmt.map g }

/-- The DRIVE_IDENTIFY of FORMAT completes finally (R193 step 2); the log-clearing writes of step 3 are offered together, each
as long as may be (notes/assumptions/57.md). -/
def Part.formatIdentified (s : Part) (code : DriveCode) (g : DriveGeo) (serial : List Byte) : Part :=
  if code = .good then
    let s := s.recordDrive g serial
    match s.fmt with
    | none => s
    | some f =>
      if g = { bands := f.layout.bands, bandBlocks := f.layout.bandBlocks, conv := f.layout.conv } then
        let runs := clearRuns (f.layout.logLen / Config.driveMax + 1) 0 f.layout.logLen
        (s.onFmt fun f => { f with step := .clear, clearsOpen := runs.map (·.1) }).offerAll
          (runs.map fun r => clearOffer r.1 r.2)
      else s.failFormat .geometryMismatch
  else s.offer (identifyOffer .formatIdentify)

/-- The resets of every band are offered in ascending p (R193 step 4). That they are offered all together, and none waits
for the one before it, is the model's choice (notes/assumptions/57.md). -/
def Part.startResets (s : Part) (bands : Nat) : Part :=
  (s.onFmt fun f => { f with step := .resets, resetsOpen := List.range bands }).offerAll
    ((List.range bands).map fun p => { cls := .f, work := .formatReset p, cmd := .bandReset p })

/-- A log-clearing write completes finally (R193 step 3). -/
def Part.formatCleared (s : Part) (k n : Nat) (code : DriveCode) : Part :=
  match s.fmt with
  | none => s
  | some f =>
    if code = .good then
      let s := s.onFmt fun f => { f with clearsOpen := f.clearsOpen.filter (· != k) }
      if (f.clearsOpen.filter (· != k)).isEmpty then s.startResets f.layout.bands else s
    else if f.clearsRetried.contains k then s.failFormat .anchorBad
    else (s.onFmt fun f => { f with clearsRetried := f.clearsRetried ++ [k] }).offer (clearOffer k n)

/-- FORMAT's anchor write is offered (R193 step 5). -/
def Part.offerFormatAnchor (s : Part) : Part := s.offer (writeOffer .a .formatAnchor 0 1)

/-- A reset of FORMAT completes finally (R193 step 4). -/
def Part.formatReset (s : Part) (p : Nat) (code : DriveCode) : Part :=
  match s.fmt with
  | none => s
  | some f =>
    let left := f.resetsOpen.filter (· != p)
    let s := s.onFmt fun f =>
      { f with resetsOpen := left, retired := if code = .good then f.retired else f.retired ++ [p] }
    let s := if code = .good then s
      else s.raise .bandRetired (some .drive) none (some p) none none
    if left.isEmpty then (s.onFmt fun f => { f with step := .anchor }).offerFormatAnchor else s

/-- The band map after FORMAT (R21, R26, R28). -/
def Format.bands (f : Format) : Bands where
  lbt := List.replicate f.layout.logBands {}
  pool := (List.range f.layout.bands).map fun p =>
    { st := if f.retired.contains p then .retired else .free }
  free := (List.range f.layout.bands).filter fun p => !f.retired.contains p

/-- FORMAT completes (R193). -/
def Part.formatDone (s : Part) (f : Format) : Part :=
  let s := s.clearTables
  let s := { s with
    sys.layout := f.layout, bands := f.bands, log := { nextSeq := 1 }, cfg := { loaded := true },
    ret.entries := List.replicate 8 {} }
  ((s.enter .active .none).evalLevel).finishDirective .done []

/-- FORMAT's anchor write completes finally (R193 step 5). -/
def Part.formatAnchored (s : Part) (code : DriveCode) : Part :=
  match s.fmt with
  | none => s
  | some f =>
    if code = .good then s.formatDone f
    else if f.anchorErrors = 0 then (s.onFmt fun f => { f with anchorErrors := 1 }).offerFormatAnchor
    else s.failFormat .anchorBad

end Sys2Proof.Machine
end

