-- ==== Sys2Proof/Machine/Link.lean ====
section
/-! DEFINITION. The drive link (R120 to R125), the pins and the tick (R182, R209). -/

namespace Sys2Proof.Machine

/-! ### Link reset and link up -/

/-- The busy slots. -/
def Port.busySlots (p : Port) : List Slot := p.slots.filterMap id

/-- The link-down timer runs in any mode but OFFLINE and HALTED (R125). -/
def Part.timed (s : Part) : Bool := s.sys.mode != .offline && s.sys.mode != .halted

/-- A drive-port link reset (R120): every busy slot's command is aborted; those that are not to be
discarded await recovery. In OFFLINE, and while the link is DOWN, it is no event. -/
def Part.linkReset (s : Part) : Part :=
  if s.port.linkUp = true ∧ s.sys.mode ≠ .offline then
    let xs := s.port.busySlots
    let kept := (xs.filter fun x => !x.discard).map (·.offer)
    let timer := if s.timed then some 0 else none
    let s := { s with
      port.slots := List.replicate 32 none, port.awaiting := s.port.awaiting ++ kept,
      port.linkUp := false, port.timer := timer }
    s.raise .driveLink (some .drive) none none (some xs.length) (some (driveNum .aborted))
  else s

/-- A read or forwarded command whose ABORTED is final goes to its owner (R121). -/
def Part.abortedFinal (s : Part) (o : Offer) : Part :=
  match o.work with
  | .fgRead cid i => s.fgReadFinal cid i o.cmd.start o.pin .aborted []
  | .forwarded cid => s.forwardedFinal cid .aborted
  | .mergeRead i off n => s.mergeReadFinal i off n o.pin .aborted []
  | .carryRead i k => s.carryReadFinal i k o.pin .aborted []
  | .mountAnchor => s.anchorReadFinal .aborted []
  | .mountHeader p => s.headerReadFinal p .aborted []
  | .replayHeader => s.replayFinal .replayHeader .aborted []
  | .replayData => s.replayFinal .replayData .aborted []
  | _ => s

/-- The command is one whose recovery its attempt count limits (R121). -/
def DriveCmd.limited : DriveCmd → Bool
  | .read .. => true
  | .forwarded .. => true
  | _ => false

/-- A forwarded command with data-in is reissued: the data of its aborted attempt is discarded (R118). -/
def Part.retractData (s : Part) : Work → Part
  | .forwarded cid =>
    match s.ini.active.find? fun c => c.cid == cid && c.dir == .dataIn && !c.data.isEmpty with
    | some c => (s.putTag c.tag (some { c with data := [] })).send (.retract c.tag)
    | none => s
  | _ => s

/-- A command awaiting recovery is handled by its kind (R121, R122, R124). A recovery query has the place of the write it
stands in for, at a further abort too (notes/assumptions/28.md). -/
def Part.recover (s : Part) (o : Offer) : Part :=
  if o.cmd.limited then
    if 2 ≤ o.attempt then s.abortedFinal o
    else (s.retractData o.work).rejoin [{ o with attempt := o.attempt + 1 }]
  else
    match o.band with
    | some (p, _) =>
      ({ s with port.recovering := s.port.recovering ++ [{ offer := o }] } : Part).rejoin
        [{ queryOffer (.recoveryQuery p) p 1 with order := o.order, standsIn := true }]
    | none =>
      if s.sys.mode = .degraded ∧ o.cmd.modifies = true then s.reportWithdrawn o
      else s.rejoin [{ o with attempt := o.attempt + 1 }]

/-- Every command awaiting recovery is handled, in order of first grant (R121), their final completions and events among
that (notes/assumptions/20.md). -/
def Part.recoverAll (s : Part) : Part :=
  let os := s.port.awaiting.foldl (fun l o => placeOffer o l) []
  os.foldl Part.recover { s with port.awaiting := [] }

/-- The drive link comes up (R121, R181, R182). -/
def Part.linkUp (s : Part) : Part :=
  if s.port.linkUp then s
  else
    let s := { s with port.linkUp := true, port.timer := none }
    if s.sys.mode = .offline then
      { s.enter .mounting .none with mnt := { phase := .wait } }
    else (s.recoverAll).barrierParts

/-- The link-down timer has counted 300 ticks (R125). -/
def Part.linkExpiry (s : Part) : Part :=
  if s.port.linkUp = false ∧ s.timed = true ∧ s.port.timer.any (fun t => decide (Config.linkDownTicks ≤ t)) = true then
    s.enterHalted .driveLost
  else s

/-! ### Pins and the tick -/

/-- RESET_N is asserted (R182): the part holds no state. What it has sent on its links remains sent. -/
def Part.assertReset (s : Part) : Part :=
  { sys := { inReset := true }, ini := { sent := s.ini.sent }, port := { sent := s.port.sent } }

/-- RESET_N is released (R5, R182). -/
def Part.releaseReset (s : Part) (windowEn : Bool) : Part :=
  { sys := { windowEn := windowEn }, ini := { sent := s.ini.sent }, port := { sent := s.port.sent } }

/-- The 100 ms tick (R125, R160, R209): the referral timers fall, and the link-down timer advances. -/
def Part.tick (s : Part) : Part :=
  let g := fun (e : ReferralEntry) => { e with ticks := e.ticks - 1 }
  { s with
    ref.queue := s.ref.queue.map g,
    port.timer :=
      if s.port.linkUp = false ∧ s.timed = true then
        s.port.timer.map fun t => min Config.linkDownTicks (t + 1)
      else s.port.timer }

end Sys2Proof.Machine
end

