-- ==== Sys2Proof/Machine/Run.lean ====
section
/-! DEFINITION. What the meanings of the commands share: the part acts only while RESET_N is released, and
every command ends in a next state. -/

namespace Sys2Proof.Machine

/-- While RESET_N is asserted the part answers on neither link and holds no state (R182): no command but
its release has an effect. -/
def Part.awake (s : Part) (f : Part → Part) : Part := if s.sys.inReset then s else f s

/-- The outcome of a command whose effect on the part is `f`. -/
def State.act (s : State) (f : Part → Part) : Host.Outcome State Fault Refusal :=
  .next { s with part := s.part.awake f }

/-- The admission of held records for as long as the head can be admitted (R16, R17). -/
def Part.admission (s : Part) : Part := Part.repeatStep Part.admitHead s.ini.hold.length s

/-- Internal records that wait are positioned for as long as the first has room (R17, R98). -/
def Part.positionInternal (s : Part) : Part :=
  Part.repeatStep Part.positionWaiting s.log.waiting.length s

/-- The write pointers of a query's answer: `n` values of 0..S (R112). -/
def Part.fitWps (s : Part) (n : Nat) (wps : List Nat) : List Nat :=
  let top := match s.sys.drive with
    | some g => g.bandBlocks
    | none => 0
  (wps.take n).map (min top) ++ List.replicate (n - wps.length) 0

/-- A BAND_QUERY completes finally, for the block that asked (R119). -/
def Part.queryFinal (s : Part) (o : Offer) (code : DriveCode) (wps : List Nat) : Part :=
  match o.work with
  | .refreshQuery p => s.refreshFinal p code (s.fitWps 1 wps)
  | .recoveryQuery p =>
    if code = .good then s.recoveryGood p ((s.fitWps 1 wps).headD 0) else s.recoveryFailed p o code
  | .mountQuery p n => s.mountQueryFinal p n code (s.fitWps n wps)
  | _ => s

/-- The work is a BAND_QUERY. -/
def Work.isQuery : Work → Bool
  | .refreshQuery _ => true
  | .recoveryQuery _ => true
  | .mountQuery _ _ => true
  | _ => false

/-- The work is a read of replay. -/
def Work.isReplay : Work → Bool
  | .replayHeader => true
  | .replayData => true
  | _ => false

/-- A DRIVE_IDENTIFY completes finally, for mount or FORMAT (R183, R193). -/
def Part.identifyFinal (s : Part) (o : Offer) (code : DriveCode) (g : DriveGeo) (serial : List Byte) :
    Part :=
  match o.work with
  | .mountIdentify => s.mountIdentified code g serial
  | .formatIdentify => s.formatIdentified code g serial
  | _ => s

/-- A write of a target unit completes finally (R97, R100, R104). -/
def Part.bandWriteDone (s : Part) (o : Offer) (code : DriveCode) : Part :=
  s.bandWriteFinal o (finalCode code)

end Sys2Proof.Machine
end

