-- ==== Sys2Proof/Machine/CmdBand.lean ====
section
/-! DEFINITION. The commands of the band map: appends, queries, resets, the free list (chapter 2, R119). -/

namespace Sys2Proof.Machine

/-- APPEND_ISSUE (R32). -/
def execAppendIssue (band : BitVec 32) (s : State) : Host.Outcome State Fault Refusal :=
  s.act (·.appendIssue band.toNat)

/-- APPEND_WRITE_COMPLETE (R33, R34, R36). -/
def execAppendWriteComplete (slot : Fin 32) (code : DriveCode) (s : State) :
    Host.Outcome State Fault Refusal :=
  s.act fun p => p.complete slot
    (fun w => match w with
      | .append _ _ _ => true
      | _ => false)
    fun o p => p.bandWriteFinal o (finalCode code)

/-- BAND_QUERY_COMPLETE (R119, R122, R183). -/
def execBandQueryComplete (slot : Fin 32) (code : DriveCode) (wps : List Nat) (s : State) :
    Host.Outcome State Fault Refusal :=
  s.act fun p => p.complete slot Work.isQuery fun o p => p.queryFinal o (finalCode code) wps

/-- BAND_RESET_OFFER (R40). -/
def execBandResetOffer (s : State) : Host.Outcome State Fault Refusal := s.act Part.offerResets

/-- BAND_RESET_COMPLETE (R41). -/
def execBandResetComplete (slot : Fin 32) (code : DriveCode) (s : State) :
    Host.Outcome State Fault Refusal :=
  s.act fun p => p.complete slot
    (fun w => match w with
      | .bandReset _ => true
      | _ => false)
    fun o p => match o.work with
      | .bandReset b => p.resetFinal b (finalCode code)
      | _ => p

/-- TARGET_BAND_HANDED (R29). -/
def execTargetBandHanded (s : State) : Host.Outcome State Fault Refusal := s.act Part.handBand

end Sys2Proof.Machine
end

