-- ==== Sys2Proof/Machine/CmdDirective.lean ====
section
/-! DEFINITION. The directives (R174 to R179, R200, R201): each row is the arrival of its block on a window
WRITE, at page 2. -/

namespace Sys2Proof.Machine

/-- DIRECTIVE_UNKNOWN_CODE (R174). -/
def execDirectiveUnknownCode (tag : Fin 32) (num : BitVec 32) (code : Byte) (s : State) :
    Host.Outcome State Fault Refusal :=
  s.act (·.directiveRow tag num (.unknown code))

/-- SET_POLICY (R176). -/
def execSetPolicy (tag : Fin 32) (num : BitVec 32) (lowQ highQ hardQ : Byte) (gap : BitVec 16)
    (paceQ : Byte) (burst : BitVec 16) (contexts timeout : Byte) (s : State) :
    Host.Outcome State Fault Refusal :=
  s.act (·.directiveRow tag num (.setPolicy lowQ highQ hardQ gap paceQ burst contexts timeout))

/-- SET_DISPOSITION (R132, R176). -/
def execSetDisposition (tag : Fin 32) (num : BitVec 32) (cls disp : Byte) (s : State) :
    Host.Outcome State Fault Refusal :=
  s.act (·.directiveRow tag num (.setDisposition cls disp))

/-- SET_RANGE (R154). -/
def execSetRange (tag : Fin 32) (num : BitVec 32) (index mode fixed : Byte) (start length : BitVec 64)
    (s : State) : Host.Outcome State Fault Refusal :=
  s.act (·.directiveRow tag num (.setRange index mode fixed start length))

/-- SET_ALERTS (R173, R176). -/
def execSetAlerts (tag : Fin 32) (num : BitVec 32) (mask : Byte) (s : State) :
    Host.Outcome State Fault Refusal :=
  s.act (·.directiveRow tag num (.setAlerts mask))

/-- ACK_ALERTS (R177). -/
def execAckAlerts (tag : Fin 32) (num : BitVec 32) (mask : Byte) (s : State) :
    Host.Outcome State Fault Refusal :=
  s.act (·.directiveRow tag num (.ackAlerts mask))

/-- CLEAR_FLAGS (R153, R177). -/
def execClearFlags (tag : Fin 32) (num : BitVec 32) (s : State) : Host.Outcome State Fault Refusal :=
  s.act (·.directiveRow tag num .clearFlags)

/-- QUERY (R177). -/
def execQuery (tag : Fin 32) (num : BitVec 32) (lba : BitVec 64) (s : State) :
    Host.Outcome State Fault Refusal :=
  s.act (·.directiveRow tag num (.query lba))

/-- ANSWER with action COMPLETE (R163, R164). -/
def execAnswerComplete (tag : Fin 32) (num : BitVec 32) (id : BitVec 16) (code : Byte) (len : BitVec 16)
    (reply : List Byte) (s : State) : Host.Outcome State Fault Refusal :=
  s.act (·.directiveRow tag num (.answer id 1 code len reply))

/-- ANSWER with action RELEASE (R163, R165). -/
def execAnswerRelease (tag : Fin 32) (num : BitVec 32) (id : BitVec 16) (s : State) :
    Host.Outcome State Fault Refusal :=
  s.act (·.directiveRow tag num (.answer id 2 0 0 []))

/-- ANSWER_UNKNOWN_ACTION (R201). -/
def execAnswerUnknownAction (tag : Fin 32) (num : BitVec 32) (id : BitVec 16) (action : Byte)
    (s : State) : Host.Outcome State Fault Refusal :=
  s.act (·.directiveRow tag num (.answer id action 0 0 []))

/-- STOP (R111). -/
def execStop (tag : Fin 32) (num : BitVec 32) (s : State) : Host.Outcome State Fault Refusal :=
  s.act (·.directiveRow tag num .stop)

/-- CLEAN (R109, R178). -/
def execClean (tag : Fin 32) (num : BitVec 32) (band : BitVec 32) (s : State) :
    Host.Outcome State Fault Refusal :=
  s.act (·.directiveRow tag num (.clean band))

/-- DRAIN (R110, R178). -/
def execDrain (tag : Fin 32) (num : BitVec 32) (s : State) : Host.Outcome State Fault Refusal :=
  s.act (·.directiveRow tag num .drain)

/-- FORMAT (R156, R179, R193). -/
def execFormat (tag : Fin 32) (num : BitVec 32) (bandBlocks : BitVec 32) (spares : BitVec 16)
    (logLen : BitVec 32) (s : State) : Host.Outcome State Fault Refusal :=
  s.act (·.directiveRow tag num (.format bandBlocks spares logLen))

/-- RESTART (R179, R194). -/
def execRestart (tag : Fin 32) (num : BitVec 32) (s : State) : Host.Outcome State Fault Refusal :=
  s.act (·.directiveRow tag num .restart)

end Sys2Proof.Machine
end

