-- ==== Sys2Proof/Machine/CmdDrive.lean ====
section
/-! DEFINITION. The commands of the drive port's arbiter, stale completions, and the completions of the
initiator's own drive commands (R115 to R118). -/

namespace Sys2Proof.Machine

/-- DRIVE_GRANT (R115, R116). -/
def execDriveGrant (s : State) : Host.Outcome State Fault Refusal := s.act Part.grantAll

/-- DRIVE_STALE_COMPLETION (R117). -/
def execDriveStaleCompletion (slot : Fin 32) (code : DriveCode) (s : State) :
    Host.Outcome State Fault Refusal :=
  s.act (·.staleCompletion slot code)

/-- FOREGROUND_READ_COMPLETE (R118, R139). -/
def execForegroundReadComplete (slot : Fin 32) (code : DriveCode) (blocks : List Block) (s : State) :
    Host.Outcome State Fault Refusal :=
  s.act fun p => p.complete slot
    (fun w => match w with
      | .fgRead _ _ => true
      | _ => false)
    fun o p => match o.work with
      | .fgRead cid i => p.fgReadFinal cid i o.cmd.start o.pin (finalCode code) blocks
      | _ => p

/-- FORWARDED_DATA_IN (R118). -/
def execForwardedDataIn (slot : Fin 32) (blocks : List Block) (s : State) :
    Host.Outcome State Fault Refusal :=
  s.act (·.forwardData slot blocks)

/-- FORWARDED_COMMAND_COMPLETE (R118). -/
def execForwardedCommandComplete (slot : Fin 32) (code : DriveCode) (s : State) :
    Host.Outcome State Fault Refusal :=
  s.act fun p => p.complete slot
    (fun w => match w with
      | .forwarded _ => true
      | _ => false)
    fun o p => match o.work with
      | .forwarded cid => p.forwardedFinal cid (finalCode code)
      | _ => p

end Sys2Proof.Machine
end

