-- ==== Sys2Proof/Machine/CmdInitiator.lean ====
section
/-! DEFINITION. The commands of the initiator port: frames, write data, the accept queue, statuses (chapters
7 to 9). -/

namespace Sys2Proof.Machine

/-- READ (R130, R138). -/
def execRead (tag : Fin 32) (lba : BitVec 64) (count : BitVec 32) (s : State) :
    Host.Outcome State Fault Refusal :=
  s.act (·.readFrame tag lba.toNat count.toNat)

/-- WRITE (R130, R135). -/
def execWrite (tag : Fin 32) (lba : BitVec 64) (count : BitVec 32) (s : State) :
    Host.Outcome State Fault Refusal :=
  s.act (·.writeFrame tag lba.toNat count.toNat)

/-- DISCARD (R130, R141). -/
def execDiscard (tag : Fin 32) (lba : BitVec 64) (count : BitVec 32) (s : State) :
    Host.Outcome State Fault Refusal :=
  s.act (·.discardFrame tag lba.toNat count.toNat)

/-- FLUSH (R130, R140). -/
def execFlush (tag : Fin 32) (s : State) : Host.Outcome State Fault Refusal := s.act (·.flushFrame tag)

/-- IDENTIFY (R130, R143). -/
def execIdentify (tag : Fin 32) (s : State) : Host.Outcome State Fault Refusal :=
  s.act (·.identifyFrame tag)

/-- OTHER (R130, R144). -/
def execOther (tag : Fin 32) (opcode : Byte) (params : List Byte) (dir : Byte) (count : BitVec 32)
    (s : State) : Host.Outcome State Fault Refusal :=
  s.act (·.otherFrame tag opcode params dir count.toNat)

/-- FRAME_UNKNOWN_CLASS (R127). A class code that names a class is no such frame. -/
def execFrameUnknownClass (tag : Fin 32) (cls : Byte) (s : State) : Host.Outcome State Fault Refusal :=
  s.act fun p => if (clsOf cls).isSome then p else p.unknownFrame tag

/-- EVENTS_PAGE_READ (R167, R171): a READ frame of one block, window page 1. -/
def execEventsPageRead (tag : Fin 32) (s : State) : Host.Outcome State Fault Refusal :=
  s.act fun p => p.readFrame tag (p.logBlocks + 1) 1

/-- WRITE_DATA_BLOCK (R135, R144, R167). -/
def execWriteDataBlock (tag : Fin 32) (block : Block) (s : State) : Host.Outcome State Fault Refusal :=
  s.act (·.dataBlock tag block)

/-- WINDOW_WRITE_IGNORED (R168). -/
def execWindowWriteIgnored (tag : Fin 32) (_block : Block) (s : State) :
    Host.Outcome State Fault Refusal :=
  s.act (·.ignoredBlock tag)

/-- ACCEPT_QUEUE_TAKE (R134). -/
def execAcceptQueueTake (s : State) : Host.Outcome State Fault Refusal := s.act Part.serveAccept

/-- COMMAND_STATUS (R137). -/
def execCommandStatus (tag : Fin 32) (s : State) : Host.Outcome State Fault Refusal :=
  s.act (·.commandStatus tag)

/-- FLUSH_DONE (R140). -/
def execFlushDone (tag : Fin 32) (s : State) : Host.Outcome State Fault Refusal :=
  s.act (·.flushDone tag)

end Sys2Proof.Machine
end

