-- ==== Sys2Proof/Machine/CmdLog.lean ====
section
/-! DEFINITION. The commands of the staging log: admission, positions, completions, settlement, reclaim and
the anchor (chapter 3). -/

namespace Sys2Proof.Machine

/-- ADMISSION (R16, R17). -/
def execAdmission (s : State) : Host.Outcome State Fault Refusal := s.act Part.admission

/-- INTERNAL_RECORD_POSITION (R17, R98). -/
def execInternalRecordPosition (s : State) : Host.Outcome State Fault Refusal :=
  s.act Part.positionInternal

/-- RECORD_WRITE_COMPLETE (R49, R53). -/
def execRecordWriteComplete (slot : Fin 32) (code : DriveCode) (s : State) :
    Host.Outcome State Fault Refusal :=
  s.act fun p => p.complete slot
    (fun w => match w with
      | .record _ => true
      | _ => false)
    fun o p => match o.work with
      | .record q => p.recordFinal q (finalCode code)
      | _ => p

/-- VOID_REWRITE_COMPLETE (R53, R54). -/
def execVoidRewriteComplete (slot : Fin 32) (code : DriveCode) (s : State) :
    Host.Outcome State Fault Refusal :=
  s.act fun p => p.complete slot
    (fun w => match w with
      | .voidRewrite _ => true
      | _ => false)
    fun o p => match o.work with
      | .voidRewrite q => p.voidFinal q (finalCode code)
      | _ => p

/-- SETTLEMENT (R50 to R52). -/
def execSettlement (s : State) : Host.Outcome State Fault Refusal := s.act Part.settle

/-- RECLAIM_ADVANCE (R56). -/
def execReclaimAdvance (s : State) : Host.Outcome State Fault Refusal := s.act Part.reclaimAdvance

/-- ANCHOR_WRITE_COMPLETE (R60, R61). -/
def execAnchorWriteComplete (slot : Fin 32) (code : DriveCode) (s : State) :
    Host.Outcome State Fault Refusal :=
  s.act fun p => p.complete slot (· == .anchor) fun _ p => p.anchorFinal (finalCode code)

end Sys2Proof.Machine
end

