-- ==== Sys2Proof/Machine/CmdMerge.lean ====
section
/-! DEFINITION. The commands of the merge engine and of carry-forward (chapter 5, R62). -/

namespace Sys2Proof.Machine

/-- MERGE_START (R88), with the deadlock check (R108). -/
def execMergeStart (s : State) : Host.Outcome State Fault Refusal := s.act Part.deadlockCheck

/-- MERGE_SNAPSHOT (R93, R94). -/
def execMergeSnapshot (ctx : Fin 2) (s : State) : Host.Outcome State Fault Refusal :=
  s.act (·.snapshot ctx)

/-- MERGE_READ_ISSUE (R96). -/
def execMergeReadIssue (ctx : Fin 2) (s : State) : Host.Outcome State Fault Refusal :=
  s.act (·.issueRead ctx)

/-- MERGE_READ_COMPLETE (R96, R100, R105). -/
def execMergeReadComplete (slot : Fin 32) (code : DriveCode) (blocks : List Block) (s : State) :
    Host.Outcome State Fault Refusal :=
  s.act fun p => p.complete slot
    (fun w => match w with
      | .mergeRead _ _ _ => true
      | _ => false)
    fun o p => match o.work with
      | .mergeRead i off n => p.mergeReadFinal i off n o.pin (finalCode code) blocks
      | _ => p

/-- TARGET_UNIT_OFFER (R97). -/
def execTargetUnitOffer (ctx : Fin 2) (s : State) : Host.Outcome State Fault Refusal :=
  s.act (·.offerUnit ctx)

/-- TARGET_UNIT_COMPLETE (R97, R100, R104). -/
def execTargetUnitComplete (slot : Fin 32) (code : DriveCode) (s : State) :
    Host.Outcome State Fault Refusal :=
  s.act fun p => p.complete slot
    (fun w => match w with
      | .targetUnit _ _ => true
      | _ => false)
    fun o p => p.bandWriteDone o code

/-- CONTEXT_IDLE (R100). -/
def execContextIdle (ctx : Fin 2) (s : State) : Host.Outcome State Fault Refusal :=
  s.act (·.releaseCtx ctx)

/-- CARRY_FORWARD_READ_COMPLETE (R62, R64). -/
def execCarryForwardReadComplete (slot : Fin 32) (code : DriveCode) (blocks : List Block) (s : State) :
    Host.Outcome State Fault Refusal :=
  s.act fun p => p.complete slot
    (fun w => match w with
      | .carryRead _ _ => true
      | _ => false)
    fun o p => match o.work with
      | .carryRead i k => p.carryReadFinal i k o.pin (finalCode code) blocks
      | _ => p

end Sys2Proof.Machine
end

