-- ==== Sys2Proof/Machine/CmdMount.lean ====
section
/-! DEFINITION. The commands of mount and FORMAT (chapter 11). -/

namespace Sys2Proof.Machine

/-- MOUNT_START (R183, R194). -/
def execMountStart (s : State) : Host.Outcome State Fault Refusal := s.act Part.mountStart

/-- DRIVE_IDENTIFY_COMPLETE (R183, R193). -/
def execDriveIdentifyComplete (slot : Fin 32) (code : DriveCode) (bands bandBlocks conv : Nat)
    (_model serial : List Byte) (s : State) : Host.Outcome State Fault Refusal :=
  s.act fun p => p.complete slot (fun w => w == .mountIdentify || w == .formatIdentify) fun o p =>
    p.identifyFinal o (finalCode code) { bands := bands, bandBlocks := bandBlocks, conv := conv } serial

/-- MOUNT_ANCHOR_READ_COMPLETE (R184). -/
def execMountAnchorReadComplete (slot : Fin 32) (code : DriveCode) (block : Block) (s : State) :
    Host.Outcome State Fault Refusal :=
  s.act fun p => p.complete slot (· == .mountAnchor) fun _ p => p.anchorReadFinal (finalCode code) block

/-- MOUNT_HEADER_READ_COMPLETE (R185). -/
def execMountHeaderReadComplete (slot : Fin 32) (code : DriveCode) (block : Block) (s : State) :
    Host.Outcome State Fault Refusal :=
  s.act fun p => p.complete slot
    (fun w => match w with
      | .mountHeader _ => true
      | _ => false)
    fun o p => match o.work with
      | .mountHeader b => p.headerReadFinal b (finalCode code) block
      | _ => p

/-- REPLAY_READ_COMPLETE (R186, R187). -/
def execReplayReadComplete (slot : Fin 32) (code : DriveCode) (blocks : List Block) (s : State) :
    Host.Outcome State Fault Refusal :=
  s.act fun p => p.complete slot Work.isReplay fun o p => p.replayFinal o.work (finalCode code) blocks

/-- CLAIM_RESOLUTION (R188 to R190). -/
def execClaimResolution (s : State) : Host.Outcome State Fault Refusal := s.act Part.claimResolution

/-- FORMAT_QUIESCE_DONE (R193 step 1). -/
def execFormatQuiesceDone (s : State) : Host.Outcome State Fault Refusal := s.act Part.formatQuiesced

/-- FORMAT_LOG_CLEAR_COMPLETE (R193 step 3). -/
def execFormatLogClearComplete (slot : Fin 32) (code : DriveCode) (s : State) :
    Host.Outcome State Fault Refusal :=
  s.act fun p => p.complete slot
    (fun w => match w with
      | .formatClear _ _ => true
      | _ => false)
    fun o p => match o.work with
      | .formatClear k n => p.formatCleared k n (finalCode code)
      | _ => p

/-- FORMAT_BAND_RESET_COMPLETE (R193 step 4). -/
def execFormatBandResetComplete (slot : Fin 32) (code : DriveCode) (s : State) :
    Host.Outcome State Fault Refusal :=
  s.act fun p => p.complete slot
    (fun w => match w with
      | .formatReset _ => true
      | _ => false)
    fun o p => match o.work with
      | .formatReset b => p.formatReset b (finalCode code)
      | _ => p

/-- FORMAT_ANCHOR_WRITE_COMPLETE (R193 step 5). -/
def execFormatAnchorWriteComplete (slot : Fin 32) (code : DriveCode) (s : State) :
    Host.Outcome State Fault Refusal :=
  s.act fun p => p.complete slot (· == .formatAnchor) fun _ p => p.formatAnchored (finalCode code)

end Sys2Proof.Machine
end

