-- ==== Sys2Proof/Machine/CmdSystem.lean ====
section
/-! DEFINITION. The commands of the pins, the tick and the links (R120, R121, R125, R146, R160, R161, R182,
R209). -/

namespace Sys2Proof.Machine

/-- RESET_N_ASSERT (R182). -/
def execResetNAssert (s : State) : Host.Outcome State Fault Refusal :=
  .next { s with part := s.part.assertReset }

/-- RESET_N_RELEASE (R5, R182). -/
def execResetNRelease (windowEn : Bool) (s : State) : Host.Outcome State Fault Refusal :=
  .next { s with part := s.part.releaseReset windowEn }

/-- TICK (R209). -/
def execTick (s : State) : Host.Outcome State Fault Refusal := s.act Part.tick

/-- LINK_DOWN_TIMER_EXPIRY (R125). -/
def execLinkDownTimerExpiry (s : State) : Host.Outcome State Fault Refusal := s.act Part.linkExpiry

/-- REFERRAL_EXPIRY_FIRST (R160). -/
def execReferralExpiryFirst (id : BitVec 16) (s : State) : Host.Outcome State Fault Refusal :=
  s.act (·.expireFirst id.toNat)

/-- REFERRAL_EXPIRY_LATE (R161). -/
def execReferralExpiryLate (id : BitVec 16) (s : State) : Host.Outcome State Fault Refusal :=
  s.act (·.expireLate id.toNat)

/-- DRIVE_PORT_LINK_RESET (R120). -/
def execDrivePortLinkReset (s : State) : Host.Outcome State Fault Refusal := s.act Part.linkReset

/-- DRIVE_LINK_UP (R121, R181). -/
def execDriveLinkUp (s : State) : Host.Outcome State Fault Refusal := s.act Part.linkUp

/-- UPSTREAM_LINK_RESET (R146, R166). -/
def execUpstreamLinkReset (s : State) : Host.Outcome State Fault Refusal := s.act Part.upstreamReset

end Sys2Proof.Machine
end

