-- ==== Sys2Proof/Machine/Dispatch.lean ====
section
/-! DEFINITION. The meaning of each command: one arm per constructor of Instr. -/

namespace Sys2Proof.Machine

/-- The effect of a command on everything but the queue. -/
def exec (i : Instr) (s : State) : Host.Outcome State Fault Refusal :=
  match i with
  | .resetNAssert => Sys2Proof.Machine.execResetNAssert s
  | .resetNRelease windowEn => Sys2Proof.Machine.execResetNRelease windowEn s
  | .tick => Sys2Proof.Machine.execTick s
  | .linkDownTimerExpiry => Sys2Proof.Machine.execLinkDownTimerExpiry s
  | .referralExpiryFirst id => Sys2Proof.Machine.execReferralExpiryFirst id s
  | .referralExpiryLate id => Sys2Proof.Machine.execReferralExpiryLate id s
  | .drivePortLinkReset => Sys2Proof.Machine.execDrivePortLinkReset s
  | .driveLinkUp => Sys2Proof.Machine.execDriveLinkUp s
  | .upstreamLinkReset => Sys2Proof.Machine.execUpstreamLinkReset s
  | .read tag lba count => Sys2Proof.Machine.execRead tag lba count s
  | .write tag lba count => Sys2Proof.Machine.execWrite tag lba count s
  | .discard tag lba count => Sys2Proof.Machine.execDiscard tag lba count s
  | .flush tag => Sys2Proof.Machine.execFlush tag s
  | .identify tag => Sys2Proof.Machine.execIdentify tag s
  | .other tag opcode params dir count => Sys2Proof.Machine.execOther tag opcode params dir count s
  | .frameUnknownClass tag cls => Sys2Proof.Machine.execFrameUnknownClass tag cls s
  | .eventsPageRead tag => Sys2Proof.Machine.execEventsPageRead tag s
  | .writeDataBlock tag block => Sys2Proof.Machine.execWriteDataBlock tag block s
  | .windowWriteIgnored tag block => Sys2Proof.Machine.execWindowWriteIgnored tag block s
  | .directiveUnknownCode tag num code => Sys2Proof.Machine.execDirectiveUnknownCode tag num code s
  | .setPolicy tag num lowQ highQ hardQ gap paceQ burst contexts timeout => Sys2Proof.Machine.execSetPolicy tag num lowQ highQ hardQ gap paceQ burst contexts timeout s
  | .setDisposition tag num cls disp => Sys2Proof.Machine.execSetDisposition tag num cls disp s
  | .setRange tag num index mode fixed start length => Sys2Proof.Machine.execSetRange tag num index mode fixed start length s
  | .setAlerts tag num mask => Sys2Proof.Machine.execSetAlerts tag num mask s
  | .ackAlerts tag num mask => Sys2Proof.Machine.execAckAlerts tag num mask s
  | .clearFlags tag num => Sys2Proof.Machine.execClearFlags tag num s
  | .query tag num lba => Sys2Proof.Machine.execQuery tag num lba s
  | .answerComplete tag num id code len reply => Sys2Proof.Machine.execAnswerComplete tag num id code len reply s
  | .answerRelease tag num id => Sys2Proof.Machine.execAnswerRelease tag num id s
  | .stop tag num => Sys2Proof.Machine.execStop tag num s
  | .clean tag num band => Sys2Proof.Machine.execClean tag num band s
  | .drain tag num => Sys2Proof.Machine.execDrain tag num s
  | .format tag num bandBlocks spares logLen => Sys2Proof.Machine.execFormat tag num bandBlocks spares logLen s
  | .restart tag num => Sys2Proof.Machine.execRestart tag num s
  | .acceptQueueTake => Sys2Proof.Machine.execAcceptQueueTake s
  | .admission => Sys2Proof.Machine.execAdmission s
  | .internalRecordPosition => Sys2Proof.Machine.execInternalRecordPosition s
  | .driveGrant => Sys2Proof.Machine.execDriveGrant s
  | .driveStaleCompletion slot code => Sys2Proof.Machine.execDriveStaleCompletion slot code s
  | .foregroundReadComplete slot code blocks => Sys2Proof.Machine.execForegroundReadComplete slot code blocks s
  | .forwardedDataIn slot blocks => Sys2Proof.Machine.execForwardedDataIn slot blocks s
  | .forwardedCommandComplete slot code => Sys2Proof.Machine.execForwardedCommandComplete slot code s
  | .recordWriteComplete slot code => Sys2Proof.Machine.execRecordWriteComplete slot code s
  | .voidRewriteComplete slot code => Sys2Proof.Machine.execVoidRewriteComplete slot code s
  | .settlement => Sys2Proof.Machine.execSettlement s
  | .reclaimAdvance => Sys2Proof.Machine.execReclaimAdvance s
  | .anchorWriteComplete slot code => Sys2Proof.Machine.execAnchorWriteComplete slot code s
  | .appendIssue band => Sys2Proof.Machine.execAppendIssue band s
  | .appendWriteComplete slot code => Sys2Proof.Machine.execAppendWriteComplete slot code s
  | .bandQueryComplete slot code wps => Sys2Proof.Machine.execBandQueryComplete slot code wps s
  | .bandResetOffer => Sys2Proof.Machine.execBandResetOffer s
  | .bandResetComplete slot code => Sys2Proof.Machine.execBandResetComplete slot code s
  | .targetBandHanded => Sys2Proof.Machine.execTargetBandHanded s
  | .mergeStart => Sys2Proof.Machine.execMergeStart s
  | .mergeSnapshot ctx => Sys2Proof.Machine.execMergeSnapshot ctx s
  | .mergeReadIssue ctx => Sys2Proof.Machine.execMergeReadIssue ctx s
  | .mergeReadComplete slot code blocks => Sys2Proof.Machine.execMergeReadComplete slot code blocks s
  | .targetUnitOffer ctx => Sys2Proof.Machine.execTargetUnitOffer ctx s
  | .targetUnitComplete slot code => Sys2Proof.Machine.execTargetUnitComplete slot code s
  | .contextIdle ctx => Sys2Proof.Machine.execContextIdle ctx s
  | .carryForwardReadComplete slot code blocks => Sys2Proof.Machine.execCarryForwardReadComplete slot code blocks s
  | .commandStatus tag => Sys2Proof.Machine.execCommandStatus tag s
  | .flushDone tag => Sys2Proof.Machine.execFlushDone tag s
  | .mountStart => Sys2Proof.Machine.execMountStart s
  | .driveIdentifyComplete slot code bands bandBlocks conv model serial => Sys2Proof.Machine.execDriveIdentifyComplete slot code bands bandBlocks conv model serial s
  | .mountAnchorReadComplete slot code block => Sys2Proof.Machine.execMountAnchorReadComplete slot code block s
  | .mountHeaderReadComplete slot code block => Sys2Proof.Machine.execMountHeaderReadComplete slot code block s
  | .replayReadComplete slot code blocks => Sys2Proof.Machine.execReplayReadComplete slot code blocks s
  | .claimResolution => Sys2Proof.Machine.execClaimResolution s
  | .formatQuiesceDone => Sys2Proof.Machine.execFormatQuiesceDone s
  | .formatLogClearComplete slot code => Sys2Proof.Machine.execFormatLogClearComplete slot code s
  | .formatBandResetComplete slot code => Sys2Proof.Machine.execFormatBandResetComplete slot code s
  | .formatAnchorWriteComplete slot code => Sys2Proof.Machine.execFormatAnchorWriteComplete slot code s
  | .answerUnknownAction tag num id action => Sys2Proof.Machine.execAnswerUnknownAction tag num id action s

end Sys2Proof.Machine
end

