-- ==== Sys2Proof/Safety.lean ====
section
/-! DEFINITION. What a sound state of the part is: the bounds the manual puts on its tables and counters,
the mode with its halt reason, the reserved drive slots, the order of the index, the count of the log's blocks and the
command contexts. Every run keeps them (see the obligations). -/

namespace Sys2Proof.Machine

/-- The tables the manual gives a fixed size have it (R84, R114, R128, R149). -/
def Part.sized (p : Part) : Prop :=
  p.ini.tags.length = 32 ∧ p.port.slots.length = 32 ∧ p.ret.entries.length = 8 ∧ p.mrg.ctxs.length = 2

/-- The tables and counters the manual bounds are within their bounds (R18, R86, R157, R162, R170, R175). -/
def Part.bounded (p : Part) : Prop :=
  p.win.events.length ≤ 64 ∧ p.win.responses.length ≤ 8 ∧
  p.ref.queue.length ≤ 4 ∧ p.ref.expired.length ≤ 4 ∧ p.mrg.reqs.length ≤ 64 ∧
  p.pace.credit ≤ 65535 ∧ p.pace.rem ≤ 3 ∧ p.cfg.policy.burst ≤ 65535

/-- The halt reason is none in every mode but HALTED, and is given there (R181). -/
def Part.reasoned (p : Part) : Prop := p.sys.halt ≠ .none ↔ p.sys.mode = .halted

/-- The reserved slots 28..31 hold only commands of classes A and E (R114). -/
def Part.reservedKept (p : Part) : Prop :=
  ∀ k x, 28 ≤ k → p.port.slots.getD k none = some x → x.offer.cls = .a ∨ x.offer.cls = .e

/-- The extents stand in start order, share no block, and each covers at least one (R67, R68). -/
def Part.indexOrdered (p : Part) : Prop :=
  p.idx.extents.Pairwise (fun a b => a.stop ≤ b.start) ∧ ∀ e ∈ p.idx.extents, 1 ≤ e.len

/-- The occupancy is the total length of the records the table holds (R42); while the part is MOUNTING the blocks
replay has accepted are (R186), and in OFFLINE there is no record. -/
def Part.blocksCounted (p : Part) : Prop :=
  let held := (p.log.table.map (·.len)).sum
  (p.sys.mode = .offline → p.log.table = []) ∧ (p.sys.mode = .mounting → p.mnt.blocks = held) ∧
  (p.sys.mode ≠ .mounting → p.log.occ = held)

/-- A context holds a command of its own tag, a window command in a context is a WRITE (R128, R167), and no two
commands, active or detached, share the model's identity, which is below the counter (R140, R147). -/
def Part.commandsSound (p : Part) : Prop :=
  (∀ k c, p.ini.at k = some c →
    c.tag = k ∧ c.cid < p.ini.nextCid ∧ (c.window = true → c.cls = .write) ∧
    (∀ l x, p.ini.at l = some x → x.cid = c.cid → l = k) ∧ ∀ x ∈ p.ini.detached, x.cid ≠ c.cid) ∧
  ∀ x ∈ p.ini.detached, x.cid < p.ini.nextCid

/-- Nothing waits or runs that an entry into DEGRADED would end (R37, R55, R107, R110, R115, R145). -/
def Part.quiet (p : Part) : Prop :=
  p.ini.hold = [] ∧ p.ini.accept = [] ∧ p.port.offers = [] ∧ p.mrg.reqs = [] ∧ p.mrg.drain = none ∧
  (∀ l ∈ p.bands.lbt, l.queue = []) ∧ (∀ r ∈ p.log.table, r.barrier = none) ∧
  ∀ c ∈ p.mrg.ctxs, (c.st = .idle ∨ c.st = .release) ∧ c.clean = false

/-- Drive slot `k` runs the command of offer `o`, and its completion will be handed on (R114, R117, R126). -/
def Port.runs (p : Port) (k : Nat) (o : Offer) : Prop := p.slots.getD k none = some { offer := o }

end Sys2Proof.Machine
end

