-- ==== Sys2Proof/WellFormed.lean ====
section
/-! DEFINITION. Well-formed commands: the operands lie in the forms in which the rules let them arrive. -/

namespace Sys2Proof

/-- A block has at most 4,096 bytes (00_scope.md 4.2). -/
def blockOk (b : Block) : Bool := decide (b.length ≤ blockBytes)

/-- The blocks of one drive command: at most 8,192 (R112). -/
def blocksOk (bs : List Block) : Bool := decide (bs.length ≤ Config.driveMax) && bs.all blockOk

/-- The bytes an ANSWER's reply can have: those of the block from offset 16 on (R200). -/
def replyRoom : Nat := blockBytes - 16

/-- The command is well formed. -/
def wellFormed : Instr → Bool
  | .resetNAssert => true
  | .resetNRelease _ => true
  | .tick => true
  | .linkDownTimerExpiry => true
  | .referralExpiryFirst id => id != 0
  | .referralExpiryLate id => id != 0
  | .drivePortLinkReset => true
  | .driveLinkUp => true
  | .upstreamLinkReset => true
  | .read _ _ _ => true
  | .write _ _ _ => true
  | .discard _ _ _ => true
  | .flush _ => true
  | .identify _ => true
  | .other _ _ params _ _ => params.length == 16
  | .frameUnknownClass _ cls => (Machine.clsOf cls).isNone
  | .eventsPageRead _ => true
  | .writeDataBlock _ b => blockOk b
  | .windowWriteIgnored _ b => blockOk b
  | .directiveUnknownCode _ _ code => code == 0 || decide (13 < code.toNat)
  | .setPolicy _ _ _ _ _ _ _ _ _ _ => true
  | .setDisposition _ _ _ _ => true
  | .setRange _ _ _ _ _ _ _ => true
  | .setAlerts _ _ _ => true
  | .ackAlerts _ _ _ => true
  | .clearFlags _ _ => true
  | .query _ _ _ => true
  | .answerComplete _ _ _ _ len reply => reply.length == min len.toNat replyRoom
  | .answerRelease _ _ _ => true
  | .stop _ _ => true
  | .clean _ _ _ => true
  | .drain _ _ => true
  | .format _ _ _ _ _ => true
  | .restart _ _ => true
  | .acceptQueueTake => true
  | .admission => true
  | .internalRecordPosition => true
  | .driveGrant => true
  | .driveStaleCompletion _ _ => true
  | .foregroundReadComplete _ _ bs => blocksOk bs
  | .forwardedDataIn _ bs => blocksOk bs
  | .forwardedCommandComplete _ _ => true
  | .recordWriteComplete _ _ => true
  | .voidRewriteComplete _ _ => true
  | .settlement => true
  | .reclaimAdvance => true
  | .anchorWriteComplete _ _ => true
  | .appendIssue _ => true
  | .appendWriteComplete _ _ => true
  | .bandQueryComplete _ _ wps => decide (wps.length ≤ Config.driveMax)
  | .bandResetOffer => true
  | .bandResetComplete _ _ => true
  | .targetBandHanded => true
  | .mergeStart => true
  | .mergeSnapshot _ => true
  | .mergeReadIssue _ => true
  | .mergeReadComplete _ _ bs => blocksOk bs
  | .targetUnitOffer _ => true
  | .targetUnitComplete _ _ => true
  | .contextIdle _ => true
  | .carryForwardReadComplete _ _ bs => blocksOk bs
  | .commandStatus _ => true
  | .flushDone _ => true
  | .mountStart => true
  | .driveIdentifyComplete _ _ _ _ _ model serial =>
    decide (model.length ≤ 40) && decide (serial.length ≤ 20)
  | .mountAnchorReadComplete _ _ b => blockOk b
  | .mountHeaderReadComplete _ _ b => blockOk b
  | .replayReadComplete _ _ bs => blocksOk bs
  | .claimResolution => true
  | .formatQuiesceDone => true
  | .formatLogClearComplete _ _ => true
  | .formatBandResetComplete _ _ => true
  | .formatAnchorWriteComplete _ _ => true
  | .answerUnknownAction _ _ _ action => action != 1 && action != 2

end Sys2Proof
end

