-- ==== Sys2Proof/Certificates/Slice0/Obligations.lean ====
section
/-! DEFINITION. The statements about the model, for the provers. `p` is the part and `q` the commands that
wait behind the one that runs. A record update on the right of an equation is the frame: what it does not
name is unchanged. -/

open Sys2Proof Sys2Proof.Machine

/-! ### The block as a whole -/

/-- A step takes the command at the front of the queue; an empty queue idles (notes/assumptions/1.md). -/
def Obligations.StepRunsTheFrontCommand : Prop :=
  ∀ (c : Instr) (p : Part) (q : List Instr),
    step ⟨p, c :: q⟩ = exec c ⟨p, q⟩ ∧ step ⟨p, []⟩ = .next ⟨p, []⟩

/-- The state after the release of RESET_N is as the reset tables say, and meets every invariant that every step
keeps (R182 and the tables it collects). RESET_N: its assertion and its release leave that state, but for the pin, the
sampled strap and the record of what has been sent (notes/assumptions/4.md); in between no other command acts
(R182). -/
def Obligations.ResetStateAndPins : Prop :=
  (let p := State.reset.part
   State.reset.pending = [] ∧
   p.sys.mode = .offline ∧ p.sys.halt = .none ∧ p.sys.drive = none ∧ p.sys.serial = List.replicate 20 0x20 ∧
   p.cfg.policy = { lowQ := 128, highQ := 192, hardQ := 240, gap := 256, paceQ := 4, burst := 2048,
                    contexts := 2, timeout := 50 } ∧
   p.cfg.disp = { read := .translate, write := .translate, discard := .translate, flush := .translate,
                  identify := .translate, other := .reject } ∧
   p.cfg.enables = 0xFF ∧ p.win.pending = 0 ∧
   p.ret.entries = List.replicate 8 { start := 0, length := 0, mode := .off, fixed := false,
                                      activity := false, count := 0 } ∧
   p.ret.latch = none ∧ p.ret.more = false ∧
   p.win.events = [] ∧ p.win.nextEvent = 0 ∧ p.win.overflow = false ∧ p.win.responses = [] ∧
   p.win.echo = [] ∧ p.win.dirPending = none ∧
   p.ref.queue = [] ∧ p.ref.expired = [] ∧ p.ref.nextId = 1 ∧
   p.ini.tags = List.replicate 32 none ∧ p.ini.accept = [] ∧ p.ini.hold = [] ∧
   p.pace = { level := .normal, credit := 0, rem := 0 } ∧
   p.bands.lbt = [] ∧ p.bands.pool = [] ∧ p.bands.free = [] ∧ p.bands.resetPend = [] ∧
   p.log.table = [] ∧ p.log.occ = 0 ∧ p.idx.extents = [] ∧ p.mrg.reqs = [] ∧
   p.mrg.ctxs.map (·.st) = [.idle, .idle] ∧
   p.port.linkUp = false ∧ p.port.timer = none ∧ p.port.slots = List.replicate 32 none ∧
   p.port.offers = [] ∧ p.port.awaiting = []) ∧
  (∀ (p : Part) (q : List Instr) (w : Bool),
     (let r := State.reset.part
      exec .resetNAssert ⟨p, q⟩ =
        .next ⟨{ r with sys.inReset := true, ini.sent := p.ini.sent, port.sent := p.port.sent }, q⟩ ∧
      exec (.resetNRelease w) ⟨p, q⟩ =
        .next ⟨{ r with sys.windowEn := w, ini.sent := p.ini.sent, port.sent := p.port.sent }, q⟩) ∧
     ∀ c : Instr, p.sys.inReset = true → c ≠ .resetNAssert → (∀ v, c ≠ .resetNRelease v) →
       exec c ⟨p, q⟩ = .next ⟨p, q⟩) ∧
  (let p := State.reset.part
   p.sized ∧ p.bounded ∧ p.reasoned ∧ p.reservedKept ∧ p.indexOrdered ∧ p.blocksCounted ∧ p.commandsSound)

/-- TICK: each referral's ticks remaining falls by 1, and the link-down timer advances while it runs, in a mode
other than OFFLINE and HALTED with the link DOWN, and stops at 300 (R125, R160, R209; notes/assumptions/9.md). The
two expiries of a referral's timer: at FIRST the entry becomes LATE with the timer armed again and REFERRAL_LATE
raised (R160); at LATE the entry leaves, the command is sent ABORTED, the id joins the front of the expired-id list
and REFERRAL_TIMEOUT is raised (R161, R162). -/
def Obligations.TimersTickAndReferralsExpire : Prop :=
  (∀ (p : Part) (q : List Instr), p.sys.inReset = false →
     exec .tick ⟨p, q⟩ =
       .next ⟨{ p with
         ref.queue := p.ref.queue.map fun (e : ReferralEntry) => { e with ticks := e.ticks - 1 }
         port.timer :=
           if p.port.linkUp = false ∧ p.sys.mode ≠ .offline ∧ p.sys.mode ≠ .halted then
             p.port.timer.map fun t => min 300 (t + 1)
           else p.port.timer }, q⟩) ∧
  (∀ (p : Part) (q : List Instr) (id : BitVec 16) (e : ReferralEntry), p.sys.inReset = false →
     p.ref.find id.toNat = some e → e.ticks = 0 →
     (e.stage = .first →
       exec (.referralExpiryFirst id) ⟨p, q⟩ =
         .next ⟨{ p with
           ref.queue := p.ref.queue.map fun (x : ReferralEntry) =>
             if x.id = id.toNat then { x with stage := .late, ticks := p.cfg.timeoutInForce } else x
           win := p.win.raise .referralLate (some .referral) none none (some id.toNat) none }, q⟩ ∧
       exec (.referralExpiryLate id) ⟨p, q⟩ = .next ⟨p, q⟩) ∧
     (e.stage = .late →
       exec (.referralExpiryLate id) ⟨p, q⟩ =
         .next ⟨{ p with
           ref := { p.ref with
             queue := p.ref.queue.filter (fun x => x.id != id.toNat)
             expired := (id.toNat :: p.ref.expired.filter (· != id.toNat)).take 4 }
           ini := p.ini.finish e.tag .aborted
           win := p.win.raise .referralTimeout (some .referral) none none (some id.toNat) none }, q⟩ ∧
       exec (.referralExpiryFirst id) ⟨p, q⟩ = .next ⟨p, q⟩))

/-- LINK_DOWN_TIMER_EXPIRY at 300 ticks: the part enters HALTED with DRIVE_LOST; every table, offer and command awaiting
recovery is cleared, the completions of the busy slots will be discarded (notes/assumptions/30.md), every command but the
window's is sent NOT_READY, in the order of their tags (notes/assumptions/53.md), and its context is FREE, and no directive
stays pending (R125, R145, R191). Before 300 ticks it
changes nothing. UPSTREAM_LINK_RESET: every context becomes FREE with no status sent, the accept queue and the hold queue
empty, the hold queue of the entries of detached commands too (notes/assumptions/24.md); what the drive has been given, the
records, the append queues and the logical bands are as they were (R37, R136, R146, R147). In both the referrals end: their
ids join the front of the expired-id list one after another, none twice and at most 4 in all (R162, R166). -/
def Obligations.HaltAndUpstreamResetDropEveryCommand : Prop :=
  ∀ (p : Part) (q : List Instr), p.sys.inReset = false →
    let expired := p.ref.queue.foldl (fun l e => (e.id :: l.filter (· != e.id)).take 4) p.ref.expired
    (∀ t : Nat, p.port.linkUp = false → p.sys.mode ≠ .offline → p.sys.mode ≠ .halted → p.port.timer = some t →
      (t < 300 → exec .linkDownTimerExpiry ⟨p, q⟩ = .next ⟨p, q⟩) ∧
      (300 ≤ t → ∃ u : Part, exec .linkDownTimerExpiry ⟨p, q⟩ = .next ⟨u, q⟩ ∧
        u.sys = { p.sys with mode := .halted, halt := .driveLost, layout := {} } ∧
        u.bands = {} ∧ u.log = {} ∧ u.idx = {} ∧ u.mrg = {} ∧ u.pace = {} ∧ u.mnt = {} ∧ u.fmt = none ∧
        u.ini.hold = [] ∧ u.ini.accept = [] ∧ u.ini.detached = [] ∧
        u.ini.sent = p.ini.sent ++ p.ini.plainTags.map (fun k => .status k .notReady) ∧
        (p.commandsSound →
          (∀ k, (∀ c, p.ini.at k = some c → c.window = false) → u.ini.at k = none) ∧
          ∀ k c, p.ini.at k = some c → c.window = true → ∃ ws, u.ini.at k = some { c with waits := ws }) ∧
        u.port.offers = [] ∧ u.port.awaiting = [] ∧ u.port.recovering = [] ∧ u.port.timer = none ∧
        u.port.slots = p.port.slots.map (Option.map fun x => { x with discard := true }) ∧
        u.ref = { p.ref with queue := [], expired := expired } ∧ u.win.dirPending = none ∧
        u.cfg = p.cfg ∧ u.ret = p.ret)) ∧
    ∃ u : Part, exec .upstreamLinkReset ⟨p, q⟩ = .next ⟨u, q⟩ ∧
      u.ini.tags = List.replicate 32 none ∧ u.ini.accept = [] ∧ u.ini.hold = [] ∧
      u.ini.sent = p.ini.sent ∧ u.ini.nextCid = p.ini.nextCid ∧
      u.ref = { p.ref with queue := [], expired := expired } ∧
      u.port.slots = p.port.slots ∧ u.port.sent = p.port.sent ∧ u.port.awaiting = p.port.awaiting ∧
      (∀ o ∈ p.port.offers, o.work.ofCommand = none ∨ 1 < o.attempt → o ∈ u.port.offers) ∧
      u.bands.lbt = p.bands.lbt ∧ u.log.table.map (·.seq) = p.log.table.map (·.seq) ∧
      u.log.occ = p.log.occ ∧ u.log.head = p.log.head ∧ u.log.tail = p.log.tail ∧
      u.sys = p.sys ∧ u.cfg = p.cfg ∧ u.ret = p.ret ∧ u.win = p.win ∧ u.pace = p.pace ∧
      u.idx = p.idx ∧ u.mrg = p.mrg

/-- DRIVE_PORT_LINK_RESET while the link is UP outside OFFLINE: every busy slot's command is aborted and its slot
freed, those not marked for discard await recovery, the link is DOWN, the timer starts from 0 except in HALTED, and
DRIVE_LINK carries the number aborted (R120, R125, R126), the slots marked for discard counted too; while the link is DOWN
it is no event (notes/assumptions/29.md). DRIVE_LINK_UP while the link is DOWN: the timer stops; from OFFLINE the part enters
MOUNTING, with the first MODE_CHANGE, and waits for its mount to begin (R181, R182). In another mode each command that
awaits recovery goes ahead of every offer that was not aborted, in order of first grant (R121): a read or forwarded command
once, the data its aborted attempt has passed being taken back (R118, notes/assumptions/46.md), and at its second attempt it
ends ABORTED; a log record's or anchor's write, a reset, a query and an identify every time; for a band write a recovery
query, its write outstanding flag kept (R122). In DEGRADED no write or reset goes again: a record is a barrier of R55, a VOID
rewrite's one of R54, the anchor writer idles with its directive FAILED, and a reset is no longer issued (R124). -/
def Obligations.DriveLinkGoesDownAndUp : Prop :=
  (∀ (p : Part) (q : List Instr), p.sys.inReset = false → p.sys.mode ≠ .offline →
     (p.port.linkUp = true →
       exec .drivePortLinkReset ⟨p, q⟩ =
         .next ⟨{ p with
           port := { p.port with
             slots := List.replicate 32 none
             awaiting := p.port.awaiting ++
               ((p.port.slots.filterMap id).filter (fun x => !x.discard)).map (·.offer)
             linkUp := false
             timer := if p.sys.mode = .halted then none else some 0 }
           win := p.win.raise .driveLink (some .drive) none none
             (some (p.port.slots.filterMap id).length) (some 3) }, q⟩) ∧
     (p.port.linkUp = false → exec .drivePortLinkReset ⟨p, q⟩ = .next ⟨p, q⟩)) ∧
  (∀ (p : Part) (q : List Instr), p.sys.inReset = false → p.port.linkUp = false →
     (p.sys.mode = .offline →
       exec .driveLinkUp ⟨p, q⟩ =
         .next ⟨{ p with
           sys := { p.sys with mode := .mounting, halt := .none }
           port := { p.port with linkUp := true, timer := none }
           mnt := { phase := .wait }
           win := p.win.raise .modeChange (some .mode) none none none (some 1) }, q⟩)) ∧
  (∀ (p : Part) (q : List Instr) (o : Offer), p.sys.inReset = false → p.port.linkUp = false →
     p.sys.mode ≠ .offline → p.log.table.all (fun r => r.barrier.isNone) = true →
     (∀ y ∈ p.port.offers, y.recovered = false) →
     let up := { p.port with linkUp := true, timer := none, awaiting := [] }
     let next := fun (x : Offer) => { x with attempt := x.attempt + 1 }
     let again := { p with port := { up with offers := next o :: p.port.offers } }
     let plain := fun (x : Offer) =>
       x.cmd.limited = false ∧ x.band = none ∧ (p.sys.mode ≠ .degraded ∨ x.cmd.modifies = false)
     (∀ x : Offer, p.port.awaiting = [o, x] → plain o → plain x → x.order < o.order → 1 ≤ x.attempt →
       exec .driveLinkUp ⟨p, q⟩ =
         .next ⟨{ p with port := { up with offers := next x :: next o :: p.port.offers } }, q⟩) ∧
     (p.port.awaiting = [o] →
       (plain o → exec .driveLinkUp ⟨p, q⟩ = .next ⟨again, q⟩) ∧
       (∀ b s, o.cmd.limited = false → o.band = some (b, s) →
         exec .driveLinkUp ⟨p, q⟩ =
           .next ⟨{ p with
             port := { up with
               recovering := p.port.recovering ++ [{ offer := o }]
               offers := { cls := .f, work := .recoveryQuery b, cmd := .bandQuery b 1, order := o.order
                           standsIn := true } :: p.port.offers } }, q⟩) ∧
       (o.cmd.limited = true → o.attempt = 1 →
         ((∀ c ∈ p.ini.active, o.work = .forwarded c.cid → c.dir = .dataIn → c.data = []) →
           exec .driveLinkUp ⟨p, q⟩ = .next ⟨again, q⟩) ∧
         ∀ (tag : Nat) (c : Cmd), p.commandsSound → p.ini.at tag = some c → o.work = .forwarded c.cid →
           c.dir = .dataIn → c.data ≠ [] →
           exec .driveLinkUp ⟨p, q⟩ =
             .next ⟨{ again with
               ini := { p.ini with
                 tags := p.ini.tags.set tag (some { c with data := [] })
                 sent := p.ini.sent ++ [.retract tag] } }, q⟩) ∧
       (∀ (tag : Nat) (c : Cmd), o.cmd.limited = true → 2 ≤ o.attempt → p.ini.at tag = some c → c.tag = tag →
         (∀ t x, p.ini.at t = some x → x.cid = c.cid → t = tag) → p.ini.detached = [] → c.fail = none →
         (∀ (g : Seg) (a n ph : Nat), o.work = .fgRead c.cid 0 → o.cmd = .read a n → o.pin = some (.band ph) →
           c.segs = [g] → c.cursor = 0 → g.outcome = none →
           exec .driveLinkUp ⟨p, q⟩ =
             .next ⟨{ p with
               port := up
               bands.pool := p.bands.pool.modify ph fun b => { b with readers := b.readers - 1 }
               ini.tags := p.ini.tags.set tag (some
                 { c with segs := [{ g with outcome := some false, data := [] }], fail := some .mediumError })
               win := p.win.raise .driveLink (some .drive) none none (some a) (some 3) }, q⟩) ∧
         (o.work = .forwarded c.cid → c.parts = [.pending] →
           exec .driveLinkUp ⟨p, q⟩ =
             .next ⟨{ p with
               port := up
               ini.tags := p.ini.tags.set tag (some
                 { c with parts := [.failed .mediumError], fail := some .mediumError }) }, q⟩)) ∧
       (∀ (i : Fin 2) (off n l : Nat), o.cmd.limited = true → 2 ≤ o.attempt → o.work = .mergeRead i off n →
         p.mrg.ctxs.length = 2 → (p.mrg.ctx i).st = .copy → (p.mrg.ctx i).band = some l →
         l < p.bands.lbt.length → ∃ u : Part, exec .driveLinkUp ⟨p, q⟩ = .next ⟨u, q⟩ ∧
           (u.mrg.ctx i).st = .release ∧ (u.bands.lband l).st = .faulted) ∧
       (p.sys.mode = .degraded → o.cmd.modifies = true → o.band = none →
         (∀ (b : Barrier) (code : Code) (seq : Nat),
           o.work = .record seq ∧ b = .r55 ∧ code = .readOnly ∨
             o.work = .voidRewrite seq ∧ b = .r54 ∧ code = .mediumError →
           ∃ u : Part, exec .driveLinkUp ⟨p, q⟩ = .next ⟨u, q⟩ ∧
             u = { p with
               port := up
               log.table := p.log.table.map fun r => if r.seq = seq then { r with barrier := some b } else r
               ini := u.ini } ∧
             u.ini.sent = p.ini.sent ∧ u.ini.hold = p.ini.hold ∧
             ∀ (tag k : Nat) (c : Cmd) (r : Rec), r ∈ p.log.table → r.seq = seq → r.st = .issued →
               r.origin = .cmd c.cid k → p.ini.at tag = some c → c.parts.getD k .done = .pending →
               ∃ c', u.ini.at tag = some c' ∧ c'.parts.getD k .done = .failed code) ∧
         (∀ w, o.work = .anchor → p.log.anchor.flight = some w →
           exec .driveLinkUp ⟨p, q⟩ =
             .next ⟨{ p with
               port := up
               log.anchor := { p.log.anchor with flight := none }
               win := if w.dir.isSome = true ∧ p.pendingSettings = w.dir then p.win.finish .failed []
                 else p.win }, q⟩) ∧
         (∀ b, o.work = .bandReset b →
           exec .driveLinkUp ⟨p, q⟩ =
             .next ⟨{ p with
               port := up
               bands.pool := p.bands.pool.modify b fun x => { x with resetIssued := false } }, q⟩))))

/-! ### Frames, statuses and blocks of the initiator (chapters 7, 8 and 10) -/

/-- A frame on a tag that is not FREE is refused TAG_CONFLICT and changes no other state, whatever its class and fields
(R129); a frame whose class code names no class is refused INVALID_FIELD on a FREE tag (R127). The limits of a READ, WRITE
or DISCARD frame on a FREE tag, in their order, with W = E x D, 0 unless mounted, and the capacity C: each failing limit
gives its completion code and changes nothing else, but for the window commands of step 2 (R5, R6); and a WRITE or DISCARD
that passes them in DEGRADED is refused READ_ONLY (R131). -/
def Obligations.FramesAreRefusedInOrder : Prop :=
  (∀ (p : Part) (q : List Instr) (tag : Fin 32), p.sys.inReset = false →
     let refused := fun (c : Code) =>
       (.next ⟨{ p with ini.sent := p.ini.sent ++ [.status tag c] }, q⟩ :
         Host.Outcome State Fault Refusal)
     ((p.ini.at tag).isSome = true →
       ∀ (lba : BitVec 64) (count : BitVec 32) (opcode dir cls : Byte) (params : List Byte),
         exec (.read tag lba count) ⟨p, q⟩ = refused .tagConflict ∧
         exec (.write tag lba count) ⟨p, q⟩ = refused .tagConflict ∧
         exec (.discard tag lba count) ⟨p, q⟩ = refused .tagConflict ∧
         exec (.flush tag) ⟨p, q⟩ = refused .tagConflict ∧
         exec (.identify tag) ⟨p, q⟩ = refused .tagConflict ∧
         exec (.other tag opcode params dir count) ⟨p, q⟩ = refused .tagConflict ∧
         exec (.eventsPageRead tag) ⟨p, q⟩ = refused .tagConflict ∧
         (clsOf cls = none → exec (.frameUnknownClass tag cls) ⟨p, q⟩ = refused .tagConflict)) ∧
     (p.ini.at tag = none → ∀ cls : Byte, clsOf cls = none →
       exec (.frameUnknownClass tag cls) ⟨p, q⟩ = refused .invalidField)) ∧
  (∀ (p : Part) (q : List Instr) (tag : Fin 32) (lba : BitVec 64) (count : BitVec 32),
     p.sys.inReset = false → p.ini.at tag = none →
     let mounted := p.sys.mode = .active ∨ p.sys.mode = .degraded
     ∀ w : Nat,
       (mounted → w = (p.sys.layout.bands - p.sys.layout.spares) * (p.sys.layout.bandBlocks - 1)) →
       (¬ mounted → w = 0) →
     let refused := fun (c : Code) =>
       (.next ⟨{ p with ini.sent := p.ini.sent ++ [.status tag c] }, q⟩ :
         Host.Outcome State Fault Refusal)
     let n := count.toNat
     let a := lba.toNat
     let inWindow := p.sys.windowEn = true ∧ w ≤ a ∧ a + n ≤ w + 256
     ((n = 0 ∨ 1024 < n) →
       exec (.read tag lba count) ⟨p, q⟩ = refused .invalidField ∧
       exec (.write tag lba count) ⟨p, q⟩ = refused .invalidField) ∧
     ((n = 0 ∨ inWindow) → exec (.discard tag lba count) ⟨p, q⟩ = refused .invalidField) ∧
     (1 ≤ n → ¬ inWindow → ¬ mounted →
       exec (.discard tag lba count) ⟨p, q⟩ = refused .notReady ∧
       (n ≤ 1024 →
         exec (.read tag lba count) ⟨p, q⟩ = refused .notReady ∧
         exec (.write tag lba count) ⟨p, q⟩ = refused .notReady)) ∧
     (1 ≤ n → mounted → (if p.sys.windowEn then w + 256 else w) < a + n →
       exec (.discard tag lba count) ⟨p, q⟩ = refused .outOfRange ∧
       (n ≤ 1024 →
         exec (.read tag lba count) ⟨p, q⟩ = refused .outOfRange ∧
         exec (.write tag lba count) ⟨p, q⟩ = refused .outOfRange)) ∧
     (1 ≤ n → mounted → p.sys.windowEn = true → a < w → w < a + n → a + n ≤ w + 256 →
       exec (.discard tag lba count) ⟨p, q⟩ = refused .invalidField ∧
       (n ≤ 1024 →
         exec (.read tag lba count) ⟨p, q⟩ = refused .invalidField ∧
         exec (.write tag lba count) ⟨p, q⟩ = refused .invalidField)) ∧
     (1 ≤ n → p.sys.mode = .degraded → a + n ≤ w →
       exec (.discard tag lba count) ⟨p, q⟩ = refused .readOnly ∧
       (n ≤ 1024 → exec (.write tag lba count) ⟨p, q⟩ = refused .readOnly)))

/-- A READ that no extent overlaps, taken at once. Within one logical band: below the fill of a mapped band it
is one BAND segment: one class B read of the band's blocks, the band pinned, the context WORKING with its
frames; in a band with no physical band it is answered at once with zero blocks and GOOD, its context FREE
(R7, R19, R20, R133, R138, R139). Across the end of a logical band it has two pieces, the second from offset 0 of the next
band: each gives its segments in order, so two bands are pinned and read, two unmapped ones are answered at once, and the
zeros of a first piece are sent before the read of the second completes. -/
def Obligations.ReadOfUnstagedBlocksIsResolved : Prop :=
  ∀ (p : Part) (q : List Instr) (tag : Fin 32) (lba : BitVec 64) (count : BitVec 32),
    p.sys.inReset = false → p.ini.at tag = none → p.ini.tags.length = 32 →
    (p.sys.mode = .active ∨ p.sys.mode = .degraded) →
    1 ≤ count.toNat → count.toNat ≤ 1024 →
    p.ini.accept = [] → count.toNat ≤ p.ini.freeFrames →
    let g := p.sys.layout
    let d := g.bandBlocks - 1
    let l := lba.toNat / d
    let o := lba.toNat % d
    lba.toNat + count.toNat ≤ (g.bands - g.spares) * d →
    let from' := fun (ph o : Nat) => g.conv + ph * g.bandBlocks + 1 + o
    let seg := fun (ph o n : Nat) =>
      ({ kind := .band, abs := from' ph o, n := n, pin := some (.band ph) } : Seg)
    let read := fun (i ph o n : Nat) =>
      ({ cls := .b, work := .fgRead p.ini.nextCid i, cmd := .read (from' ph o) n, pin := some (.band ph) } : Offer)
    let pinned := fun (ph : Nat) (pool : List PBand) =>
      pool.modify ph fun b => { b with readers := b.readers + 1 }
    let cmd : Cmd :=
      { cid := p.ini.nextCid, tag := tag, cls := .read, lba := lba.toNat, count := count.toNat,
        st := .working, frames := count.toNat }
    let zeros := ∃ u : Part, exec (.read tag lba count) ⟨p, q⟩ = .next ⟨u, q⟩ ∧
      u.ini.sent = p.ini.sent ++ [.data tag (List.replicate count.toNat []), .status tag .good] ∧
      u.ini.at tag = none ∧ u.ini.accept = p.ini.accept ∧ u.ini.hold = p.ini.hold ∧
      u = { p with ini := u.ini }
    (o + count.toNat ≤ d → p.idx.supply d l o count.toNat = [] →
      (∀ ph, (p.bands.lband l).phys = some ph → o + count.toNat ≤ (p.bands.lband l).f →
        exec (.read tag lba count) ⟨p, q⟩ =
          .next ⟨{ p with
            ini.nextCid := p.ini.nextCid + 1
            ini.tags := p.ini.tags.set tag (some { cmd with segs := [seg ph o count.toNat] })
            bands.pool := pinned ph p.bands.pool
            port.offers := p.port.offers ++ [read 0 ph o count.toNat] }, q⟩) ∧
      ((p.bands.lband l).phys = none → zeros)) ∧
    (d < o + count.toNat → o + count.toNat ≤ 2 * d →
      let n := d - o
      let m := o + count.toNat - d
      p.idx.supply d l o n = [] → p.idx.supply d (l + 1) 0 m = [] →
      ((p.bands.lband l).phys = none → (p.bands.lband (l + 1)).phys = none → zeros) ∧
      ∀ ph', (p.bands.lband (l + 1)).phys = some ph' → m ≤ (p.bands.lband (l + 1)).f →
        (∀ ph, (p.bands.lband l).phys = some ph → d ≤ (p.bands.lband l).f →
          exec (.read tag lba count) ⟨p, q⟩ =
            .next ⟨{ p with
              ini.nextCid := p.ini.nextCid + 1
              ini.tags := p.ini.tags.set tag (some { cmd with segs := [seg ph o n, seg ph' 0 m] })
              bands.pool := pinned ph' (pinned ph p.bands.pool)
              port.offers := p.port.offers ++ [read 0 ph o n, read 1 ph' 0 m] }, q⟩) ∧
        ((p.bands.lband l).phys = none →
          exec (.read tag lba count) ⟨p, q⟩ =
            .next ⟨{ p with
              ini := { p.ini with
                nextCid := p.ini.nextCid + 1
                tags := p.ini.tags.set tag (some { cmd with
                  segs := [{ kind := .beyondFill, abs := 0, n := n, pin := none, outcome := some true,
                             data := List.replicate n [] }, seg ph' 0 m]
                  cursor := 1 })
                sent := p.ini.sent ++ [.data tag (List.replicate n [])] }
              bands.pool := pinned ph' p.bands.pool
              port.offers := p.port.offers ++ [read 1 ph' 0 m] }, q⟩))

/-- A WRITE accepted in ACTIVE, with its frames free and nothing waiting ahead of it: all its blocks are
solicited and its context is RECEIVING; the OBSERVE entries it touches note it (R133, R134, R135, R150,
R151). It is placed only when its last block arrives. -/
def Obligations.WriteAcceptedSolicitsItsData : Prop :=
  ∀ (p : Part) (q : List Instr) (tag : Fin 32) (lba : BitVec 64) (count : BitVec 32),
    p.sys.inReset = false → p.ini.at tag = none → p.ini.tags.length = 32 →
    p.sys.mode = .active → 1 ≤ count.toNat → count.toNat ≤ 1024 →
    p.ini.accept = [] → count.toNat ≤ p.ini.freeFrames →
    lba.toNat + count.toNat ≤
      (p.sys.layout.bands - p.sys.layout.spares) * (p.sys.layout.bandBlocks - 1) →
    p.ret.held lba.toNat count.toNat = none →
    let cmd : Cmd :=
      { cid := p.ini.nextCid, tag := tag, cls := .write, lba := lba.toNat, count := count.toNat,
        st := .receiving, frames := count.toNat }
    exec (.write tag lba count) ⟨p, q⟩ =
      .next ⟨{ p with
        ini.nextCid := p.ini.nextCid + 1
        ini.tags := p.ini.tags.set tag (some cmd)
        ini.sent := p.ini.sent ++ [.solicit tag count.toNat]
        ret.entries := p.ret.entries.map fun (e : RangeEntry) =>
          if e.mode = .observe ∧ lba.toNat < e.start + e.length ∧ e.start < lba.toNat + count.toNat then
            { e with activity := true, count := min 65535 (e.count + 1) }
          else e }, q⟩

/-- The retention check of a WRITE or DISCARD in ACTIVE: a touched HOLD entry refuses it PROTECTED; an empty
latch takes the refusal and raises REFUSED, a valid one only sets "more" (R150, R152). -/
def Obligations.HoldRangeRefusesAndLatches : Prop :=
  ∀ (p : Part) (q : List Instr) (tag : Fin 32) (lba : BitVec 64) (count : BitVec 32) (i : Nat),
    p.sys.inReset = false → p.ini.at tag = none → p.sys.mode = .active →
    1 ≤ count.toNat → count.toNat ≤ 1024 →
    lba.toNat + count.toNat ≤
      (p.sys.layout.bands - p.sys.layout.spares) * (p.sys.layout.bandBlocks - 1) →
    p.cfg.dispInForce.discard = .translate →
    p.ret.held lba.toNat count.toNat = some i →
    let seen := p.ret.entries.map fun (e : RangeEntry) =>
      if e.mode = .observe ∧ lba.toNat < e.start + e.length ∧ e.start < lba.toNat + count.toNat then
        { e with activity := true, count := min 65535 (e.count + 1) }
      else e
    let stored := fun (c : Cls) => ({ p with
      ret := { p.ret with
        entries := seen
        latch := some { tag := tag, cls := c, lba := lba.toNat, count := count.toNat, index := i } }
      win := p.win.raise .refused (some .protection)
        (some (lba.toNat / (p.sys.layout.bandBlocks - 1))) none (some count.toNat) (some i)
      ini.sent := p.ini.sent ++ [.status tag .prot] } : Part)
    (p.ret.latch = none →
      exec (.write tag lba count) ⟨p, q⟩ = .next ⟨stored .write, q⟩ ∧
      exec (.discard tag lba count) ⟨p, q⟩ = .next ⟨stored .discard, q⟩) ∧
    (p.ret.latch ≠ none →
      let kept := ({ p with
        ret := { p.ret with entries := seen, more := true }
        ini.sent := p.ini.sent ++ [.status tag .prot] } : Part)
      exec (.write tag lba count) ⟨p, q⟩ = .next ⟨kept, q⟩ ∧
      exec (.discard tag lba count) ⟨p, q⟩ = .next ⟨kept, q⟩)

/-- A DISCARD of part of one band that is not FAULTED, taken with TRANSLATE: no record is built where the
offsets lie at or above pf with nothing staged, unsettled or held over them, and GOOD is sent at once;
otherwise one partial DISCARD record joins the tail of the hold queue as the command's one part (R136,
R141, R142). A DISCARD of any pieces, the head, whole bands and the tail (R7): a piece in a FAULTED band ends it MEDIUM_ERROR;
else each piece gives its record in order as the next part, full for a whole band, but for a part of a band as above and for
a whole band that is EMPTY with nothing staged, unsettled or held; with no record it is GOOD. -/
def Obligations.PartialDiscardIsSettledOutOrHeld : Prop :=
  ∀ (p : Part) (q : List Instr) (tag : Fin 32) (lba : BitVec 64) (count : BitVec 32),
    p.sys.inReset = false → p.ini.at tag = none → p.ini.tags.length = 32 → p.sys.mode = .active →
    1 ≤ count.toNat → p.cfg.dispInForce.discard = .translate → p.ret.entries.all (·.mode == .off) = true →
    let d := p.sys.layout.bandBlocks - 1
    let l := lba.toNat / d
    let o := lba.toNat % d
    lba.toNat + count.toNat ≤ (p.sys.layout.bands - p.sys.layout.spares) * d →
    let ended := fun (code : Code) => ∃ u : Part, exec (.discard tag lba count) ⟨p, q⟩ = .next ⟨u, q⟩ ∧
      u.ini.sent = p.ini.sent ++ [.status tag code] ∧ u.ini.at tag = none ∧
      u.ini.hold = p.ini.hold ∧ u = { p with ini := u.ini }
    let held := fun (es : List HoldEntry) => exec (.discard tag lba count) ⟨p, q⟩ =
      .next ⟨{ p with
        ini.nextCid := p.ini.nextCid + 1
        ini.tags := p.ini.tags.set tag (some
          { cid := p.ini.nextCid, tag := tag, cls := .discard, lba := lba.toNat,
            count := count.toNat, st := .working, parts := es.map fun _ => .pending })
        ini.hold := p.ini.hold ++ es }, q⟩
    (o + count.toNat ≤ d → count.toNat < d → (p.bands.lband l).st ≠ .faulted →
      let clear := (p.bands.lband l).pf ≤ o ∧ p.idx.overlaps d l o count.toNat = false ∧
        (p.bands.lband l).unsettled = 0 ∧ p.ini.hold.all (·.band != l) = true
      (clear → ended .good) ∧
      (¬ clear →
        held [{ kind := .discard, full := false, band := l, off := o, n := count.toNat,
                cid := p.ini.nextCid, part := 0 }])) ∧
    (let ps := pieces d lba.toNat count.toNat
     let settled := fun (x : Nat × Nat × Nat) =>
       (p.bands.lband x.1).unsettled == 0 && p.ini.hold.all (·.band != x.1) &&
         !p.idx.overlaps d x.1 x.2.1 x.2.2 &&
         (if x.2.1 = 0 ∧ x.2.2 = d then (p.bands.lband x.1).st == .empty
          else decide ((p.bands.lband x.1).pf ≤ x.2.1))
     let left := ps.filter fun x => !settled x
     ((∃ x ∈ ps, (p.bands.lband x.1).st = .faulted) → ended .mediumError) ∧
     ((∀ x ∈ ps, (p.bands.lband x.1).st ≠ .faulted) →
       (left = [] → ended .good) ∧
       (left ≠ [] →
         held (left.mapIdx fun k x =>
           { kind := .discard, full := decide (x.2.1 = 0 ∧ x.2.2 = d), band := x.1, off := x.2.1, n := x.2.2,
             cid := p.ini.nextCid, part := k }))))

/-- FLUSH taken with TRANSLATE records the accepted WRITEs and DISCARDs without a status, a window WRITE among them (section
7.2; notes/assumptions/25.md), and sends GOOD when that set is empty: at once, or at FLUSH_DONE (R140). COMMAND_STATUS sends a command's status once every part and segment
is final: the first failure code, or GOOD; the context becomes FREE and the command leaves the set of every FLUSH;
while a part is pending it changes nothing (R137, R140). -/
def Obligations.StatusesWaitForPartsAndSets : Prop :=
  (∀ (p : Part) (q : List Instr) (tag : Fin 32), p.sys.inReset = false → p.ini.tags.length = 32 →
     (p.ini.at tag = none → (p.sys.mode = .active ∨ p.sys.mode = .degraded) →
       p.cfg.dispInForce.flush = .translate →
       let set := (p.ini.active.filter fun c => c.cls == .write || c.cls == .discard).map (·.cid)
       (set = [] → ∃ u : Part, exec (.flush tag) ⟨p, q⟩ = .next ⟨u, q⟩ ∧
         u.ini.sent = p.ini.sent ++ [.status tag .good] ∧ u.ini.at tag = none ∧
         u = { p with ini := u.ini }) ∧
       (set ≠ [] →
         exec (.flush tag) ⟨p, q⟩ =
           .next ⟨{ p with
             ini.nextCid := p.ini.nextCid + 1
             ini.tags := p.ini.tags.set tag (some
               { cid := p.ini.nextCid, tag := tag, cls := .flush, st := .working, waits := set }) }, q⟩)) ∧
     (∀ c, p.ini.at tag = some c → c.cls = .flush → c.st = .working →
       (c.waits = [] →
         exec (.flushDone tag) ⟨p, q⟩ = .next ⟨{ p with ini := p.ini.finish tag .good }, q⟩) ∧
       (c.waits ≠ [] → exec (.flushDone tag) ⟨p, q⟩ = .next ⟨p, q⟩))) ∧
  (∀ (p : Part) (q : List Instr) (tag : Fin 32) (c : Cmd),
     p.sys.inReset = false → p.ini.tags.length = 32 → p.ini.at tag = some c → c.st = .working →
     c.window = false → (c.cls = .read ∨ c.cls = .write ∨ c.cls = .discard ∨ c.cls = .other) →
     let final := c.parts.all (· != .pending) = true ∧ c.segs.all (fun g => g.outcome.isSome) = true
     (¬ final → exec (.commandStatus tag) ⟨p, q⟩ = .next ⟨p, q⟩) ∧
     (final → ∃ u : Part, exec (.commandStatus tag) ⟨p, q⟩ = .next ⟨u, q⟩ ∧
       u.ini.sent = p.ini.sent ++
         [.status tag (match c.fail with
           | none => .good
           | some x => x)] ∧
       u.ini.at tag = none ∧
       (∀ k d, k ≠ tag.val → p.ini.at k = some d →
         u.ini.at k = some { d with waits := d.waits.filter (· != c.cid) }) ∧
       u.ini.accept = p.ini.accept ∧ u.ini.hold = p.ini.hold ∧ u = { p with ini := u.ini }))

/-- IDENTIFY with TRANSLATE, or in an unmounted mode, is answered at once with the capability record and GOOD, and
its context is FREE (R131, R143, R207). The part revision is a free value (notes/assumptions/5.md). OTHER under PASS
with no data is offered to the drive unchanged, as one class B command (R132, R144); under REJECT, or with data-out
under REFER, it is refused UNSUPPORTED (R132). -/
def Obligations.IdentifyAndOtherAreAnswered : Prop :=
  (∀ (p : Part) (q : List Instr) (tag : Fin 32), p.sys.inReset = false → p.ini.tags.length = 32 →
     p.ini.at tag = none → p.sys.serial.length = 20 →
     ((p.sys.mode = .active ∨ p.sys.mode = .degraded) → p.cfg.dispInForce.identify = .translate) →
     let w := if p.sys.mode = .active ∨ p.sys.mode = .degraded then
       (p.sys.layout.bands - p.sys.layout.spares) * (p.sys.layout.bandBlocks - 1) else 0
     let capacity := w + (if p.sys.windowEn then 256 else 0)
     let model := ['C', 'O', 'R', 'S', 'I', 'L', 'A', 'N', ' ', 'S', 'B', '2', '4', '0'].map
       fun c => BitVec.ofNat 8 c.toNat
     let record := le 8 capacity ++ le 4 4096 ++ [32, 0] ++ le 2 1024 ++
       (model ++ List.replicate 26 0x20) ++ p.sys.serial ++ le 2 Config.partRevision.toNat
     ∃ u : Part, exec (.identify tag) ⟨p, q⟩ = .next ⟨u, q⟩ ∧
       u.ini.sent = p.ini.sent ++ [.data tag [toBlock record], .status tag .good] ∧
       u.ini.at tag = none ∧ u = { p with ini := u.ini }) ∧
  (∀ (p : Part) (q : List Instr) (tag : Fin 32) (opcode dir : Byte) (params : List Byte)
     (count : BitVec 32),
     p.sys.inReset = false → p.ini.tags.length = 32 → p.ini.at tag = none →
     (p.sys.mode = .active ∨ p.sys.mode = .degraded) → params.length = 16 →
     (dir = 0 → count = 0 → p.cfg.dispInForce.other = .pass →
       exec (.other tag opcode params dir count) ⟨p, q⟩ =
         .next ⟨{ p with
           ini.nextCid := p.ini.nextCid + 1
           ini.tags := p.ini.tags.set tag (some
             { cid := p.ini.nextCid, tag := tag, cls := .other, opcode := opcode, params := params,
               dir := .noData, st := .working, parts := [.pending] })
           port.offers := p.port.offers ++
             [{ cls := .b, work := .forwarded p.ini.nextCid,
                cmd := .forwarded opcode params .noData 0 }] }, q⟩) ∧
     ((dir = 0 ∧ count = 0 ∨ (dir = 1 ∨ dir = 2) ∧ 1 ≤ count.toNat ∧ count.toNat ≤ 1024) →
       (p.cfg.dispInForce.other = .reject ∨ p.cfg.dispInForce.other = .refer ∧ dir = 2) →
       exec (.other tag opcode params dir count) ⟨p, q⟩ =
         .next ⟨{ p with ini.sent := p.ini.sent ++ [.status tag .unsupported] }, q⟩))

/-- The control window. A one-block read of the EVENTS page returns the count, the overflow flag and the oldest records, at
most 32, and removes exactly those; GOOD follows, and nothing else changes; with the queue empty the STATUS fields follow the
count (R167, R171, R203). A READ within the window returns its pages in order, each as it stands, and GOOD; pages 7 to 255
are zeros, and only page 1 removes anything (R167, R168). A WRITE within it is accepted WORKING, in every mode and with no
frame taken, and its blocks are solicited (R167). ALERT_N is low while a class is both pending and enabled, but not while
RESET_N is asserted (R173, R182). The fields of the STATUS, EVENTS, RESPONSES, REFERRALS and RANGES pages stand at the
offsets of their tables, little-endian, an absent one all ones (R195, R202 to R206); in the unmounted modes those of the log,
the pool, the index and the merge engine are 0 (R169). That the number of the pending directive is 0 while none is pending is
the model's choice (notes/assumptions/55.md). -/
def Obligations.WindowPagesAreServed : Prop :=
  (∀ (p : Part) (q : List Instr) (tag : Fin 32), p.sys.inReset = false → p.ini.at tag = none →
     p.sys.windowEn = true →
     let taken := p.win.events.take 32
     let body := if taken = [] then p.statusBytes else taken.flatMap Event.bytes
     let block := toBlock (le 1 taken.length ++ [if p.win.overflow then 1 else 0] ++
       List.replicate 6 0 ++ body)
     exec (.eventsPageRead tag) ⟨p, q⟩ =
       .next ⟨{ p with
         win.events := p.win.events.drop 32
         ini.sent := p.ini.sent ++ [.data tag [block], .status tag .good] }, q⟩) ∧
  (∀ (p : Part) (q : List Instr) (tag : Fin 32) (lba : BitVec 64) (count : BitVec 32) (w k : Nat),
     p.sys.inReset = false → p.ini.at tag = none → p.sys.windowEn = true →
     (p.sys.mode = .active ∨ p.sys.mode = .degraded →
       w = (p.sys.layout.bands - p.sys.layout.spares) * (p.sys.layout.bandBlocks - 1)) →
     (p.sys.mode ≠ .active → p.sys.mode ≠ .degraded → w = 0) →
     lba.toNat = w + k → 1 ≤ count.toNat → k + count.toNat ≤ 256 →
     let n := count.toNat
     let page := fun (j : Nat) => toBlock (match j with
       | 0 => p.statusBytes
       | 1 => p.eventsBytes
       | 2 => p.win.echo
       | 3 => p.win.responsesBytes
       | 4 => p.ref.bytes
       | 5 => p.ret.bytes
       | 6 => p.capabilityBytes
       | _ => [])
     exec (.read tag lba count) ⟨p, q⟩ =
       .next ⟨{ p with
         win.events := if k ≤ 1 ∧ 1 < k + n then p.win.events.drop 32 else p.win.events
         ini.sent := p.ini.sent ++
           [.data tag ((List.range n).map fun j => page (k + j)), .status tag .good] }, q⟩ ∧
     exec (.write tag lba count) ⟨p, q⟩ =
       .next ⟨{ p with
         ini.nextCid := p.ini.nextCid + 1
         ini.tags := p.ini.tags.set tag (some
           { cid := p.ini.nextCid, tag := tag, cls := .write, lba := lba.toNat, count := n, st := .working,
             window := true, page := k })
         ini.sent := p.ini.sent ++ [.solicit tag n] }, q⟩) ∧
  (∀ p : Part, p.alertLow = true ↔ p.sys.inReset = false ∧
     ∃ k, k < 8 ∧ p.win.pending.getLsbD k = true ∧ p.cfg.enables.getLsbD k = true) ∧
  (∀ p : Part,
     let mounted := p.sys.mode = .active ∨ p.sys.mode = .degraded
     let has := fun (b : Block) (o w x : Nat) => field b o w = x % 256 ^ w
     let hasOpt := fun (b : Block) (o w : Nat) (x : Option Nat) =>
       field b o w = (match x with
         | some n => n % 256 ^ w
         | none => 256 ^ w - 1)
     let flag := fun (b : Block) (o : Nat) (x : Bool) => byteAt b o = if x then 1 else 0
     let status := toBlock p.statusBytes
     let events := toBlock p.eventsBytes
     let responses := toBlock p.win.responsesBytes
     let referrals := toBlock p.ref.bytes
     let ranges := toBlock p.ret.bytes
     (has status 0 1 (modeNum p.sys.mode) ∧ has status 1 1 (haltNum p.sys.halt) ∧
       (mounted → has status 2 1 (levelNum p.pace.level) ∧ flag status 3 p.idx.pressure ∧
         has status 4 4 p.log.occ ∧ has status 8 4 p.sys.layout.logLen ∧ has status 12 4 p.log.head ∧
         has status 16 4 p.log.reclaim ∧ has status 20 4 p.log.tail ∧ has status 24 6 p.log.nextSeq ∧
         has status 30 6 p.log.settled ∧ has status 36 2 p.log.table.length ∧ has status 38 4 p.bands.free.length ∧
         has status 42 4 (p.bands.pool.countP (·.st == .resetPending)) ∧
         has status 46 4 (p.bands.pool.countP (·.st == .retired)) ∧
         has status 50 1 (p.bands.pool.countP (·.st == .target)) ∧ has status 51 1 p.mrg.reqs.length ∧
         has status 52 4 p.idx.extents.length ∧ has status 56 4 p.idx.reserved ∧
         (∀ i : Fin 2,
           let o := 60 + 13 * i.val
           let c := p.mrg.ctx i
           has status o 1 (ctxNum c.st) ∧ hasOpt status (o + 1) 4 c.band ∧
           (c.carry = none → has status (o + 5) 4 c.copied ∧ has status (o + 9) 4 c.newFill) ∧
           ∀ x, c.carry = some x → has status (o + 5) 4 x.blocksRead ∧
             ∀ r, p.log.find x.seq = some r → has status (o + 9) 4 (if r.kind = .data then r.live else 0)) ∧
         flag status 86 p.mrg.drain.isSome) ∧
       (¬ mounted → (∀ k, 2 ≤ k → k < 87 → (k < 61 ∨ 64 < k) → (k < 74 ∨ 77 < k) → byteAt status k = 0) ∧
         hasOpt status 61 4 none ∧ hasOpt status 74 4 none) ∧
       has status 87 4 p.ini.hold.length ∧ has status 91 1 p.ini.accept.length ∧
       has status 92 1 p.ref.queue.length ∧ byteAt status 93 = p.win.pending ∧ byteAt status 94 = p.cfg.enables ∧
       (p.win.pending = 0 → has status 95 1 255) ∧
       (∀ k, k < 8 → p.win.pending.getLsbD k = true → (∀ j, j < k → p.win.pending.getLsbD j = false) →
         has status 95 1 k) ∧
       flag status 96 p.ret.latch.isSome ∧ flag status 97 p.ret.more ∧ has status 98 1 p.win.events.length ∧
       flag status 99 p.win.overflow ∧ has status 100 2 p.win.nextEvent.toNat ∧
       flag status 102 p.win.dirPending.isSome ∧
       has status 103 4 ((p.win.dirPending.map (·.num.toNat)).getD 0)) ∧
     (has events 0 1 (min 32 p.win.events.length) ∧ flag events 1 p.win.overflow ∧
       (p.win.events = [] → ∀ k, k < 107 → byteAt events (8 + k) = byteAt status k) ∧
       ∀ i e, i < 32 → p.win.events[i]? = some e →
         let o := 8 + 20 * i
         let bit := fun (x : Option Nat) (n : Nat) => if x = none then 0 else n
         has events o 2 e.num.toNat ∧ has events (o + 2) 1 (eventNum e.kind) ∧
         has events (o + 3) 1 (bit e.band 1 + bit e.phys 2 + bit e.count 4 + bit e.code 8) ∧
         hasOpt events (o + 4) 4 e.band ∧ hasOpt events (o + 8) 4 e.phys ∧ hasOpt events (o + 12) 6 e.count ∧
         hasOpt events (o + 18) 2 e.code) ∧
     (has responses 0 1 p.win.responses.length ∧
       ∀ i x, i < 8 → p.win.responses[i]? = some x →
         let o := 8 + 40 * i
         has responses o 4 x.num.toNat ∧ byteAt responses (o + 4) = x.code ∧
         has responses (o + 5) 1 (resultNum x.result) ∧ has responses (o + 6) 2 x.data.length ∧
         ∀ k, k < 32 → byteAt responses (o + 8 + k) = x.data.getD k 0) ∧
     (has referrals 0 1 p.ref.queue.length ∧ has referrals 1 1 p.ref.expired.length ∧
       has referrals 2 2 p.ref.nextId ∧ (∀ j, j < 4 → has referrals (4 + 2 * j) 2 (p.ref.expired.getD j 0)) ∧
       ∀ i e, i < 4 → p.ref.queue[i]? = some e →
         let o := 16 + 48 * i
         has referrals o 2 e.id ∧ has referrals (o + 2) 1 e.tag ∧ has referrals (o + 3) 1 (clsNum e.cls) ∧
         has referrals (o + 4) 1 (stageNum e.stage) ∧ has referrals (o + 5) 1 e.ticks ∧
         has referrals (o + 6) 1 (dirNum e.dir) ∧ byteAt referrals (o + 7) = e.opcode ∧
         has referrals (o + 8) 8 e.lba ∧ has referrals (o + 16) 4 e.count ∧
         ∀ k, k < 16 → byteAt referrals (o + 20 + k) = e.params.getD k 0) ∧
     ((∀ i e, i < 8 → p.ret.entries[i]? = some e →
         let o := 32 * i
         has ranges o 8 e.start ∧ has ranges (o + 8) 8 e.length ∧ has ranges (o + 16) 1 (rangeNum e.mode) ∧
         flag ranges (o + 17) e.fixed ∧ flag ranges (o + 18) e.activity ∧ has ranges (o + 20) 2 e.count) ∧
       (p.ret.latch = none → ∀ k, 256 ≤ k → byteAt ranges k = 0) ∧
       ∀ l, p.ret.latch = some l →
         has ranges 256 1 1 ∧ flag ranges 257 p.ret.more ∧ has ranges 258 1 l.tag ∧ has ranges 259 1 (clsNum l.cls) ∧
         has ranges 260 1 l.index ∧ has ranges 264 8 l.lba ∧ has ranges 272 4 l.count))

/-- A solicited block joins the command's frames in order, and a block short of the last changes nothing else
(R135); the last block of a data-out OTHER under PASS offers it to the drive (R144); a block to an ignored window
page is counted, and GOOD follows the last block of its command (R167, R168). Any block of a window WRITE is counted
so: the statements about directives name it `windowTaken`. -/
def Obligations.BlocksAreTakenInOrder : Prop :=
  (∀ (p : Part) (q : List Instr) (tag : Fin 32) (block : Block) (c : Cmd),
     p.sys.inReset = false → p.ini.at tag = some c →
     (c.window = false → c.st = .receiving → c.data.length + 1 < c.count →
       exec (.writeDataBlock tag block) ⟨p, q⟩ =
         .next ⟨{ p with
           ini.tags := p.ini.tags.set tag (some { c with data := c.data ++ [toBlock block] }) }, q⟩) ∧
     (c.window = false → c.st = .receiving → c.data.length + 1 = c.count → c.cls = .other →
       p.sys.mode = .active →
       exec (.writeDataBlock tag block) ⟨p, q⟩ =
         .next ⟨{ p with
           ini.tags := p.ini.tags.set tag (some
             { c with data := c.data ++ [toBlock block], st := .working, parts := [.pending] })
           port.offers := p.port.offers ++
             [{ cls := .b, work := .forwarded c.cid,
                cmd := .forwarded c.opcode c.params c.dir c.count }] }, q⟩) ∧
     (c.window = true → c.page + c.taken ≠ 2 →
       (c.taken + 1 ≠ c.count →
         exec (.windowWriteIgnored tag block) ⟨p, q⟩ =
           .next ⟨{ p with
             ini.tags := p.ini.tags.set tag (some { c with taken := c.taken + 1 }) }, q⟩) ∧
       (c.taken + 1 = c.count →
         ∃ u : Part, exec (.windowWriteIgnored tag block) ⟨p, q⟩ = .next ⟨u, q⟩ ∧
           u.ini.sent = p.ini.sent ++ [.status tag .good] ∧ u.ini.at tag = none ∧
           u = { p with ini := u.ini }))) ∧
  (∀ (p : Part) (tag : Nat) (c : Cmd), p.ini.at tag = some c →
     (c.taken + 1 ≠ c.count →
       p.windowTaken tag = { p with ini.tags := p.ini.tags.set tag (some { c with taken := c.taken + 1 }) }) ∧
     (c.taken + 1 = c.count → p.windowTaken tag = { p with ini := p.ini.finish tag .good }))

/-- ACCEPT_QUEUE_TAKE serves the queue from the head alone (R134): an empty queue changes nothing, and while what the head
waits for is not there nothing changes, whatever waits behind it. When it is there the head leaves the queue and is taken, and
the new head is tested at the same event, on the part as the take leaves it. A READ, a WRITE or an OTHER with data waits for
its frames (R133): a WRITE and an OTHER with data-out are then RECEIVING with their blocks solicited (R135, R144); an OTHER with
data-in is offered to the drive (R144); a READ is resolved (R19), its pins are taken and its reads offered to class B, the zeros
ahead of its first read are sent, and one of zeros alone ends GOOD at once (R20, R138, R139). A command to be referred waits for
fewer than 4 entries: its entry joins the Referral Queue and REFERRAL_NEW is raised (R157, R158, R159). -/
def Obligations.AcceptQueueServesItsHead : Prop :=
  ∀ (p : Part) (q : List Instr), p.sys.inReset = false →
    (p.ini.accept = [] → exec .acceptQueueTake ⟨p, q⟩ = .next ⟨p, q⟩) ∧
    ∀ (tag : Fin 32) (c : Cmd) (rest : List Nat), p.ini.accept = tag.val :: rest → p.ini.at tag = some c →
      let waits := exec .acceptQueueTake ⟨p, q⟩ = .next ⟨p, q⟩
      let takenAs := fun (t : Part) =>
        exec .acceptQueueTake ⟨p, q⟩ = exec .acceptQueueTake ⟨t, q⟩ ∧
        (rest = [] → exec .acceptQueueTake ⟨p, q⟩ = .next ⟨t, q⟩)
      let holding := fun (x : Cmd) => p.ini.tags.set tag (some x)
      (c.refer = false → (c.cls = .read ∨ c.cls = .write ∨ c.cls = .other ∧ c.dir ≠ .noData) →
        (p.ini.freeFrames < c.count → waits) ∧
        (c.count ≤ p.ini.freeFrames →
          (c.cls = .write ∨ c.cls = .other ∧ c.dir = .dataOut →
            takenAs { p with ini := { p.ini with
              accept := rest
              tags := holding { c with st := .receiving, frames := c.count }
              sent := p.ini.sent ++ [.solicit tag c.count] } }) ∧
          (c.cls = .other → c.dir = .dataIn →
            takenAs { p with
              ini := { p.ini with
                accept := rest
                tags := holding { c with st := .working, frames := c.count, parts := [.pending] } }
              port.offers := p.port.offers ++
                [{ cls := .b, work := .forwarded c.cid,
                   cmd := .forwarded c.opcode c.params c.dir c.count }] }) ∧
          (c.cls = .read →
            let segs := (pieces (p.sys.layout.bandBlocks - 1) c.lba c.count).flatMap p.resolve
            let ahead := segs.takeWhile (·.outcome == some true)
            let sent := if ahead = [] then [] else [InitOut.data tag (ahead.flatMap (·.data))]
            ((∃ g ∈ segs, g.outcome = none) →
              takenAs { p with
                ini := { p.ini with
                  accept := rest
                  tags := holding
                    { c with st := .working, frames := c.count, segs := segs, cursor := ahead.length }
                  sent := p.ini.sent ++ sent }
                bands.pool := p.bands.pool.mapIdx fun n x =>
                  { x with readers := x.readers + segs.countP (·.pin == some (.band n)) }
                log.table := p.log.table.map fun r =>
                  { r with readers := r.readers + segs.countP (·.pin == some (.record r.seq)) }
                port.offers := p.port.offers ++ (segs.zipIdx.filter (·.1.pin.isSome)).map fun g =>
                  { cls := .b, work := .fgRead c.cid g.2, cmd := .read g.1.abs g.1.n, pin := g.1.pin } }) ∧
            ((∀ g ∈ segs, g.outcome = some true ∧ g.pin = none) →
              ∃ u : Part, takenAs u ∧ u.ini.sent = p.ini.sent ++ sent ++ [.status tag .good] ∧
                u.ini.at tag = none ∧ u.ini.accept = rest ∧ u.ini.hold = p.ini.hold ∧
                u = { p with ini := u.ini })))) ∧
      (c.refer = true →
        (4 ≤ p.ref.queue.length → waits) ∧
        (p.ref.queue.length < 4 → ∃ n : Nat, n ≠ 0 ∧ n ≠ p.ref.nextId ∧ (∀ e ∈ p.ref.queue, e.id ≠ n) ∧
          takenAs { p with
            ini := { p.ini with
              accept := rest
              tags := holding { c with st := .referred, refer := false } }
            ref :=
              { queue := p.ref.queue ++
                  [{ id := p.ref.nextId, tag := tag, cls := c.cls, lba := c.lba, count := c.count,
                     opcode := c.opcode, params := c.params, dir := c.dir, stage := .first,
                     ticks := p.cfg.timeoutInForce }]
                nextId := n
                expired := p.ref.expired.filter (· != p.ref.nextId) }
            win := p.win.raise .referralNew (some .referral)
              (if c.cls = .discard then some (c.lba / (p.sys.layout.bandBlocks - 1)) else none) none
              (some p.ref.nextId) (some (clsNum c.cls)) }))

/-! ### Directives (chapter 10) -/

/-- The tests of R174 in their order, for a directive block at its page: a code that names no directive is
INVALID in every mode; a directive is NOT_READY in each mode in which the table does not take it; one that takes time is BUSY
in a mode that takes it while one is pending. ANSWER with an unknown action is INVALID before its id is looked up (R201). The
block stays as the echo of page 2 (R168), and nothing else changes. -/
def Obligations.DirectiveTestsInOrder : Prop :=
  ∀ (p : Part) (q : List Instr) (tag : Fin 32) (num : BitVec 32), p.sys.inReset = false →
    p.ini.windowPage tag = some 2 →
    let answered := fun (d : Directive) (r : Result) =>
      (.next ⟨({ p with win := ({ p.win with echo := encodeDirective num d } : Window).respond num d.code r [] } :
        Part).windowTaken tag, q⟩ : Host.Outcome State Fault Refusal)
    (∀ code : Byte, code = 0 ∨ 13 < code.toNat →
      exec (.directiveUnknownCode tag num code) ⟨p, q⟩ = answered (.unknown code) .invalid) ∧
    (p.sys.mode ≠ .mounting → ∀ (id : BitVec 16) (action : Byte), action ≠ 1 → action ≠ 2 →
      exec (.answerUnknownAction tag num id action) ⟨p, q⟩ =
        answered (.answer id action 0 0 []) .invalid) ∧
    (∀ (a b c d e f : Byte) (g h : BitVec 16) (l n : BitVec 32) (x y : BitVec 64) (reply : List Byte),
      let m := p.sys.mode
      let pending := p.win.dirPending ≠ none
      (¬ (m = .active ∨ m = .halted) →
        exec (.setPolicy tag num a b c g d h e f) ⟨p, q⟩ = answered (.setPolicy a b c g d h e f) .notReady ∧
        exec (.setDisposition tag num a b) ⟨p, q⟩ = answered (.setDisposition a b) .notReady ∧
        exec (.setRange tag num a b c x y) ⟨p, q⟩ = answered (.setRange a b c x y) .notReady ∧
        exec (.setAlerts tag num a) ⟨p, q⟩ = answered (.setAlerts a) .notReady ∧
        exec (.format tag num l g n) ⟨p, q⟩ = answered (.format l g n) .notReady) ∧
      (m = .mounting →
        exec (.ackAlerts tag num a) ⟨p, q⟩ = answered (.ackAlerts a) .notReady ∧
        exec (.clearFlags tag num) ⟨p, q⟩ = answered .clearFlags .notReady ∧
        exec (.answerComplete tag num g a h reply) ⟨p, q⟩ = answered (.answer g 1 a h reply) .notReady ∧
        exec (.answerRelease tag num g) ⟨p, q⟩ = answered (.answer g 2 0 0 []) .notReady ∧
        exec (.answerUnknownAction tag num g a) ⟨p, q⟩ = answered (.answer g a 0 0 []) .notReady) ∧
      (¬ (m = .active ∨ m = .degraded) →
        exec (.query tag num x) ⟨p, q⟩ = answered (.query x) .notReady ∧
        exec (.stop tag num) ⟨p, q⟩ = answered .stop .notReady) ∧
      (m ≠ .active →
        exec (.clean tag num l) ⟨p, q⟩ = answered (.clean l) .notReady ∧
        exec (.drain tag num) ⟨p, q⟩ = answered .drain .notReady) ∧
      (¬ (m = .active ∨ m = .degraded ∨ m = .halted) →
        exec (.restart tag num) ⟨p, q⟩ = answered .restart .notReady) ∧
      (pending → m = .active ∨ m = .halted →
        exec (.setPolicy tag num a b c g d h e f) ⟨p, q⟩ = answered (.setPolicy a b c g d h e f) .busy ∧
        exec (.setDisposition tag num a b) ⟨p, q⟩ = answered (.setDisposition a b) .busy ∧
        exec (.setRange tag num a b c x y) ⟨p, q⟩ = answered (.setRange a b c x y) .busy ∧
        exec (.setAlerts tag num a) ⟨p, q⟩ = answered (.setAlerts a) .busy ∧
        exec (.format tag num l g n) ⟨p, q⟩ = answered (.format l g n) .busy) ∧
      (pending → m = .active →
        exec (.clean tag num l) ⟨p, q⟩ = answered (.clean l) .busy ∧
        exec (.drain tag num) ⟨p, q⟩ = answered .drain .busy) ∧
      (pending → m = .active ∨ m = .degraded ∨ m = .halted →
        exec (.restart tag num) ⟨p, q⟩ = answered .restart .busy))

/-- The settings directives: the working copy changes at once. In ACTIVE the directive becomes the pending one; with the anchor
writer at rest an anchor write that holds the new settings and carries the directive is offered to class A at block 0, and with
a write in flight the dirty flag is set instead (R59, R132, R154, R173, R176). In HALTED the directive is DONE at once and the
dirty flag is set (notes/assumptions/38.md), E x D being 0 there (R154). SET_POLICY clamps each field and re-evaluates the
level, and where that is PRESSURE the credit is the new BURST (R15, R18); no start test runs in its own step
(notes/assumptions/14.md). That a SET_POLICY in HALTED evaluates no level is the model's choice, where R15 and R176 re-evaluate
on every SET_POLICY (notes/assumptions/16.md). A class or disposition byte that names nothing, a disposition that its class does
not allow, quanta out of order, an index above 7, a mode byte that names nothing, a start at or above E x D and a length of 0
with a mode other than OFF are INVALID, and a fixed range is PROTECTED (R154, R201); a fixed range with a mode byte that names
nothing is one of the two, R154 and R201 disagreeing (notes/assumptions/35.md). Any fixed byte but 0 sets the flag
(notes/assumptions/22.md). -/
def Obligations.SettingsAreStoredThroughTheAnchor : Prop :=
  ∀ (p : Part) (q : List Instr) (tag : Fin 32) (num : BitVec 32), p.sys.inReset = false →
    p.ini.windowPage tag = some 2 → (p.sys.mode = .active ∨ p.sys.mode = .halted) → p.win.dirPending = none →
    let w := if p.sys.mode = .active then
      (p.sys.layout.bands - p.sys.layout.spares) * (p.sys.layout.bandBlocks - 1) else 0
    let stored := fun (d : Directive) (s : Part) =>
      let pending := { s with
        win := { ({ s.win with echo := encodeDirective num d } : Window).respond num d.code .pending [] with
          dirPending := some { num := num, code := d.code } } }
      (.next ⟨(
        if p.sys.mode = .halted then
          { s with
            win := ({ s.win with echo := encodeDirective num d } : Window).respond num d.code .done []
            log.anchor := { p.log.anchor with dirty := true } }
        else if p.log.anchor.flight = none then
          { pending with
            log.anchor := { p.log.anchor with
              flight := some
                { tail := p.log.reclaim, tailSeq := p.log.reclaimSeq, block := encodeAnchor s.anchorData,
                  dir := some num }
              dirty := false }
            port.offers := p.port.offers ++ [{ cls := .a, work := .anchor, cmd := .write 0 1 }] }
        else { pending with log.anchor := { p.log.anchor with dirty := true } } :
        Part).windowTaken tag, q⟩ : Host.Outcome State Fault Refusal)
    let refused := fun (d : Directive) (r : Result) =>
      (.next ⟨({ p with win := ({ p.win with echo := encodeDirective num d } : Window).respond num d.code r [] } :
        Part).windowTaken tag, q⟩ : Host.Outcome State Fault Refusal)
    (∀ mask : Byte, exec (.setAlerts tag num mask) ⟨p, q⟩ =
      stored (.setAlerts mask) { p with cfg.enables := mask }) ∧
    (∀ (cls disp : Byte) (c : Cls) (d : Disp), clsOf cls = some c → dispOf disp = some d →
      exec (.setDisposition tag num cls disp) ⟨p, q⟩ =
        if dispAllowed c d then stored (.setDisposition cls disp) { p with cfg.disp := p.cfg.disp.put c d }
        else refused (.setDisposition cls disp) .invalid) ∧
    (∀ cls disp : Byte, clsOf cls = none ∨ dispOf disp = none →
      exec (.setDisposition tag num cls disp) ⟨p, q⟩ = refused (.setDisposition cls disp) .invalid) ∧
    (∀ (index mode fixed : Byte) (start length : BitVec 64),
      let d : Directive := .setRange index mode fixed start length
      (p.ret.entries.length = 8 → 7 < index.toNat →
        exec (.setRange tag num index mode fixed start length) ⟨p, q⟩ = refused d .invalid) ∧
      (∀ e : RangeEntry, rangeOf mode = none → p.ret.entries[index.toNat]? = some e →
        (e.fixed = false →
          exec (.setRange tag num index mode fixed start length) ⟨p, q⟩ = refused d .invalid) ∧
        (e.fixed = true →
          exec (.setRange tag num index mode fixed start length) ⟨p, q⟩ = refused d .prot ∨
          exec (.setRange tag num index mode fixed start length) ⟨p, q⟩ = refused d .invalid))) ∧
    (∀ (index mode fixed : Byte) (start length : BitVec 64) (m : RangeMode) (e : RangeEntry),
      rangeOf mode = some m → p.ret.entries[index.toNat]? = some e →
      exec (.setRange tag num index mode fixed start length) ⟨p, q⟩ =
        if e.fixed = true then refused (.setRange index mode fixed start length) .prot
        else if w ≤ start.toNat ∨ length = 0 ∧ m ≠ .off then
          refused (.setRange index mode fixed start length) .invalid
        else
          stored (.setRange index mode fixed start length)
            { p with
              ret.entries := p.ret.entries.set index.toNat
                { start := start.toNat
                  length := if m = .off then 0 else min length.toNat (w - start.toNat)
                  mode := m, fixed := fixed != 0, activity := false, count := 0 } }) ∧
    (∀ (lowQ highQ hardQ paceQ contexts timeout : Byte) (gap burst : BitVec 16),
      let pol : Policy :=
        { lowQ := max 16 (min 248 lowQ.toNat), highQ := max 16 (min 248 highQ.toNat)
          hardQ := max 16 (min 248 hardQ.toNat), gap := min 4096 gap.toNat
          paceQ := max 1 (min 8 paceQ.toNat), burst := burst.toNat
          contexts := max 1 (min 2 contexts.toNat), timeout := max 1 timeout.toNat }
      let d : Directive := .setPolicy lowQ highQ hardQ gap paceQ burst contexts timeout
      (¬ (pol.lowQ < pol.highQ ∧ pol.highQ < pol.hardQ) →
        exec (.setPolicy tag num lowQ highQ hardQ gap paceQ burst contexts timeout) ⟨p, q⟩ =
          refused d .invalid) ∧
      (pol.lowQ < pol.highQ → pol.highQ < pol.hardQ →
        let done := fun (s : Part) =>
          exec (.setPolicy tag num lowQ highQ hardQ gap paceQ burst contexts timeout) ⟨p, q⟩ = stored d s
        let s := { p with cfg.policy := pol }
        let full := { s with pace := { level := .pressure, credit := pol.burst, rem := 0 } }
        let t := fun (quanta : Nat) => p.sys.layout.logLen * quanta / 256
        (p.sys.mode = .halted → p.pace.level ≠ .pressure → done s) ∧
        (p.sys.mode = .active →
          (p.pace.level = .normal ∨ p.pace.level = .reclaim → p.log.occ < t pol.lowQ →
            done { s with pace.level := .normal }) ∧
          (p.pace.level = .pressure → t pol.highQ - p.sys.layout.logLen / 32 ≤ p.log.occ →
            p.log.occ < t pol.hardQ → done full) ∧
          (p.pace.level ≠ .pressure → t pol.highQ ≤ p.log.occ ∨ p.pace.level = .full → p.log.occ < t pol.hardQ →
            done { full with
              win := p.win.raise .levelChange (some .log) none none (some p.log.occ) (some 2) }) ∧
          (p.pace.level = .pressure → p.log.occ < t pol.highQ - p.sys.layout.logLen / 32 →
            done { s with pace := { level := .reclaim, credit := 0, rem := 0 } }) ∧
          (p.pace.level = .normal ∨ p.pace.level = .reclaim → t pol.lowQ ≤ p.log.occ →
            p.log.occ < t pol.highQ → done { s with pace.level := .reclaim }) ∧
          (p.pace.level = .full → t pol.hardQ ≤ p.log.occ → done s) ∧
          (p.pace.level ≠ .full → t pol.hardQ ≤ p.log.occ →
            done { s with
              pace.level := .full
              win := p.win.raise .levelChange (some .log) none none (some p.log.occ) (some 3) }))))

/-- ACK_ALERTS clears the pending flags its mask names (R173, R177). QUERY answers from the band map and the
index, with the log block of the content for a DATA extent (R81, R177, R204); a block at or past E x D is
INVALID. -/
def Obligations.AlertsAreAcknowledgedAndBlocksQueried : Prop :=
  ∀ (p : Part) (q : List Instr) (tag : Fin 32) (num : BitVec 32), p.sys.inReset = false →
    p.ini.windowPage tag = some 2 →
    (∀ mask : Byte, p.sys.mode ≠ .mounting →
      exec (.ackAlerts tag num mask) ⟨p, q⟩ =
        .next ⟨({ p with win :=
          ({ p.win with echo := encodeDirective num (.ackAlerts mask)
                        pending := p.win.pending &&& ~~~mask } : Window).respond num 5 .done [] } :
          Part).windowTaken tag, q⟩) ∧
    (∀ lba : BitVec 64, (p.sys.mode = .active ∨ p.sys.mode = .degraded) →
      let d := p.sys.layout.bandBlocks - 1
      let l := lba.toNat / d
      let answered := fun (r : Result) (data : List Byte) =>
        (.next ⟨({ p with win :=
          ({ p.win with echo := encodeDirective num (.query lba) } : Window).respond num 11 r data } :
          Part).windowTaken tag, q⟩ : Host.Outcome State Fault Refusal)
      let entry := p.bands.lband l
      let band := le 4 l ++ [BitVec.ofNat 8 (lstateNum entry.st)] ++
        (match entry.phys with
          | some ph => le 4 ph
          | none => List.replicate 4 0xFF) ++ le 4 entry.f ++ le 4 entry.pf
      ((p.sys.layout.bands - p.sys.layout.spares) * d ≤ lba.toNat →
        exec (.query tag num lba) ⟨p, q⟩ = answered .invalid []) ∧
      (lba.toNat < (p.sys.layout.bands - p.sys.layout.spares) * d →
        (p.idx.lookup lba.toNat = none →
          exec (.query tag num lba) ⟨p, q⟩ = answered .done (band ++ [0] ++ List.replicate 10 0xFF)) ∧
        (∀ e, p.idx.lookup lba.toNat = some e → e.kind = .zero →
          exec (.query tag num lba) ⟨p, q⟩ =
            answered .done (band ++ [2] ++ le 6 e.seq ++ List.replicate 4 0xFF)) ∧
        (∀ e, p.idx.lookup lba.toNat = some e → e.kind = .data →
          exec (.query tag num lba) ⟨p, q⟩ =
            answered .done (band ++ [1] ++ le 6 e.seq ++ le 4 (e.lp + (lba.toNat - e.start))))))

/-- CLEAR_FLAGS: the latch empties, "more" and the activity flags clear; counts, settings and the PROTECTION
pending flag stay; DONE at once, with no anchor write. A HOLD refusal taken after it fills the latch and raises
REFUSED again (R153). Of the window it also clears the overflow flag (R177). -/
def Obligations.ClearFlagsEmptiesTheLatch : Prop :=
  ∀ (p : Part) (q : List Instr) (tag : Fin 32) (num : BitVec 32), p.sys.inReset = false →
    p.ini.windowPage tag = some 2 → p.sys.mode ≠ .mounting →
    let t := ({ p with
      ret := { entries := p.ret.entries.map fun (e : RangeEntry) => { e with activity := false }
               latch := none, more := false }
      win := ({ p.win with echo := encodeDirective num .clearFlags, overflow := false } :
        Window).respond num 6 .done [] } : Part).windowTaken tag
    exec (.clearFlags tag num) ⟨p, q⟩ = .next ⟨t, q⟩ ∧
    t.win.pending = p.win.pending ∧ t.port = p.port ∧ t.log = p.log ∧
    ∀ (k : Fin 32) (lba : BitVec 64) (count : BitVec 32) (i : Nat),
      t.ini.at k = none → p.sys.mode = .active → 1 ≤ count.toNat → count.toNat ≤ 1024 →
      lba.toNat + count.toNat ≤
        (p.sys.layout.bands - p.sys.layout.spares) * (p.sys.layout.bandBlocks - 1) →
      p.ret.held lba.toNat count.toNat = some i →
      ∃ u : Part, exec (.write k lba count) ⟨t, q⟩ = .next ⟨u, q⟩ ∧
        u.ret.latch = some { tag := k, cls := .write, lba := lba.toNat, count := count.toNat, index := i } ∧
        u.ret.more = false ∧
        u.win = t.win.raise .refused (some .protection)
          (some (lba.toNat / (p.sys.layout.bandBlocks - 1))) none (some count.toNat) (some i) ∧
        u.ini.sent = t.ini.sent ++ [.status k .prot]

/-- ANSWER COMPLETE on a live id: the entry leaves, a data-in command answered GOOD has its blocks sent and one
answered with another code has none, the referred command gets the code as its status, and DONE is answered; a length on a command without data-in, one
over 3,840, and TAG_CONFLICT are INVALID (R164). An id on no entry is TOO_LATE when it has expired, else
UNKNOWN_ID (R163). -/
def Obligations.AnswerCompletesTheReferredCommand : Prop :=
  ∀ (p : Part) (q : List Instr) (tag : Fin 32) (num : BitVec 32) (id len : BitVec 16) (code : Byte)
    (reply : List Byte) (k : Code), p.sys.inReset = false → p.ini.windowPage tag = some 2 →
    p.sys.mode ≠ .mounting → codeOf code = some k →
    let win := fun (r : Result) =>
      ({ p.win with echo := encodeDirective num (.answer id 1 code len reply) } : Window).respond num 10 r []
    let refused := fun (r : Result) =>
      (.next ⟨({ p with win := win r } : Part).windowTaken tag, q⟩ : Host.Outcome State Fault Refusal)
    (∀ e, p.ref.find id.toNat = some e →
      let dataIn := e.cls = .identify ∨ e.cls = .other ∧ e.dir = .dataIn
      (k = .tagConflict ∨ dataIn ∧ 3840 < len.toNat ∨ ¬ dataIn ∧ len ≠ 0 →
        exec (.answerComplete tag num id code len reply) ⟨p, q⟩ = refused .invalid) ∧
      (k ≠ .tagConflict → ¬ dataIn → len = 0 →
        exec (.answerComplete tag num id code len reply) ⟨p, q⟩ =
          .next ⟨({ p with
            ref.queue := p.ref.queue.filter (fun x => x.id != id.toNat)
            ini := p.ini.finish e.tag k
            win := win .done } : Part).windowTaken tag, q⟩) ∧
      (k ≠ .good → k ≠ .tagConflict → dataIn → len.toNat ≤ 3840 →
        exec (.answerComplete tag num id code len reply) ⟨p, q⟩ =
          .next ⟨({ p with
            ref.queue := p.ref.queue.filter (fun x => x.id != id.toNat)
            ini := p.ini.finish e.tag k
            win := win .done } : Part).windowTaken tag, q⟩) ∧
      (k = .good → dataIn → len.toNat ≤ 3840 →
        let n := if e.cls = .identify then 1 else e.count
        exec (.answerComplete tag num id code len reply) ⟨p, q⟩ =
          .next ⟨({ p with
            ref.queue := p.ref.queue.filter (fun x => x.id != id.toNat)
            ini := ({ p.ini with sent := p.ini.sent ++
              [.data e.tag (fitBlocks n [reply.take len.toNat])] } : Initiator).finish e.tag .good
            win := win .done } : Part).windowTaken tag, q⟩)) ∧
    (p.ref.find id.toNat = none →
      exec (.answerComplete tag num id code len reply) ⟨p, q⟩ =
        refused (if id.toNat ∈ p.ref.expired then .tooLate else .unknownId))

/-- A DISCARD, FLUSH, IDENTIFY or OTHER without data-out, taken under REFER with the accept queue empty and fewer than 4
entries: its context is REFERRED, the entry joins the tail of the queue with the next id, stage FIRST and the timeout as its
timer, that id leaves the expired list, the counter goes to the next value that no entry holds (never 0), and REFERRAL_NEW is
raised (R157, R158, R159, R160). ANSWER RELEASE: the entry leaves and the command is taken as if it had never been referred
(R165): a DISCARD outside ACTIVE ends READ_ONLY, in ACTIVE one within a band ends MEDIUM_ERROR on a FAULTED band, GOOD where
it builds no record, and else joins the hold queue (R141); a FLUSH waits for the accepted WRITEs and DISCARDs, the window
WRITE that carries the ANSWER among them (R140, section 7.2; notes/assumptions/25.md); IDENTIFY is answered (R143); an OTHER
goes to the drive, one with data-in when the accept queue is empty and its frames are free and else by that queue (R144). -/
def Obligations.ReferralsBeginAndAreReleased : Prop :=
  (∀ (p : Part) (q : List Instr) (tag : Fin 32), p.sys.inReset = false → p.ini.tags.length = 32 →
     p.ini.at tag = none → p.ini.accept = [] → p.ref.queue.length < 4 → ∃ n : Nat,
     n ≠ p.ref.nextId ∧ (∀ e ∈ p.ref.queue, e.id ≠ n) ∧ n ≠ 0 ∧
     (let next := fun (x : Nat) => if x = 65535 then 1 else x + 1
      ∃ k, 1 ≤ k ∧ k ≤ 4 ∧ n = next^[k] p.ref.nextId ∧
        ∀ j, 1 ≤ j → j < k → ∃ e ∈ p.ref.queue, e.id = next^[j] p.ref.nextId) ∧
     let created := fun (c : Cmd) (band : Option Nat) (cls : Nat) =>
       (.next ⟨{ p with
         ini.nextCid := p.ini.nextCid + 1
         ini.tags := p.ini.tags.set tag (some { c with cid := p.ini.nextCid, tag := tag, st := .referred })
         ref :=
           { queue := p.ref.queue ++
               [{ id := p.ref.nextId, tag := tag, cls := c.cls, lba := c.lba, count := c.count,
                  opcode := c.opcode, params := c.params, dir := c.dir, stage := .first,
                  ticks := p.cfg.timeoutInForce }]
             nextId := n
             expired := p.ref.expired.filter (· != p.ref.nextId) }
         win := p.win.raise .referralNew (some .referral) band none (some p.ref.nextId) (some cls) }, q⟩ :
         Host.Outcome State Fault Refusal)
     ((p.sys.mode = .active ∨ p.sys.mode = .degraded) →
       (p.cfg.dispInForce.flush = .refer →
         exec (.flush tag) ⟨p, q⟩ = created { cid := 0, tag := 0, cls := .flush } none 4) ∧
       (p.cfg.dispInForce.identify = .refer →
         exec (.identify tag) ⟨p, q⟩ = created { cid := 0, tag := 0, cls := .identify } none 5) ∧
       ∀ (opcode dir : Byte) (params : List Byte) (count : BitVec 32) (x : Dir),
         p.cfg.dispInForce.other = .refer → params.length = 16 →
         (dir = 0 ∧ count = 0 ∧ x = .noData ∨ dir = 1 ∧ 1 ≤ count.toNat ∧ count.toNat ≤ 1024 ∧ x = .dataIn) →
         exec (.other tag opcode params dir count) ⟨p, q⟩ = created
           { cid := 0, tag := 0, cls := .other, opcode := opcode, params := params, dir := x,
             count := count.toNat } none 6) ∧
     (∀ (lba : BitVec 64) (count : BitVec 32), p.sys.mode = .active → p.cfg.dispInForce.discard = .refer →
       p.ret.entries.all (·.mode == .off) = true → 1 ≤ count.toNat →
       lba.toNat + count.toNat ≤
         (p.sys.layout.bands - p.sys.layout.spares) * (p.sys.layout.bandBlocks - 1) →
       exec (.discard tag lba count) ⟨p, q⟩ = created
         { cid := 0, tag := 0, cls := .discard, lba := lba.toNat, count := count.toNat }
         (some (lba.toNat / (p.sys.layout.bandBlocks - 1))) 3)) ∧
  (∀ (p : Part) (q : List Instr) (tag : Fin 32) (num : BitVec 32) (id : BitVec 16) (e : ReferralEntry)
     (c : Cmd), p.sys.inReset = false → p.ini.windowPage tag = some 2 → p.sys.mode ≠ .mounting →
     p.ini.tags.length = 32 → p.commandsSound → p.ref.find id.toNat = some e → p.ini.at e.tag = some c →
     let answered := fun (s : Part) =>
       (.next ⟨({ s with
         ref.queue := p.ref.queue.filter (fun x => x.id != id.toNat)
         win := ({ p.win with echo := encodeDirective num (.answer id 2 0 0 []) } :
           Window).respond num 10 .done [] } : Part).windowTaken tag, q⟩ :
         Host.Outcome State Fault Refusal)
     let context := fun (x : Cmd) => p.ini.tags.set e.tag (some { x with refer := false })
     let ends := fun (x : Code) => answered { p with ini := p.ini.finish e.tag x }
     let runs := exec (.answerRelease tag num id) ⟨p, q⟩
     (c.cls = .discard → p.sys.mode ≠ .active → runs = ends .readOnly) ∧
     (c.cls = .discard → p.sys.mode = .active →
       let d := p.sys.layout.bandBlocks - 1
       let l := c.lba / d
       let o := c.lba % d
       let b := p.bands.lband l
       let whole := decide (o = 0 ∧ c.count = d)
       let clear := (if whole = true then b.st = .empty else b.pf ≤ o) ∧ p.idx.overlaps d l o c.count = false ∧
         b.unsettled = 0 ∧ p.ini.hold.all (·.band != l) = true
       1 ≤ c.count → o + c.count ≤ d →
       (b.st = .faulted → runs = ends .mediumError) ∧
       (b.st ≠ .faulted → clear → runs = ends .good) ∧
       (b.st ≠ .faulted → ¬ clear → runs = answered
         { p with
           ini.tags := context { c with st := .working, parts := [.pending] }
           ini.hold := p.ini.hold ++
             [{ kind := .discard, full := whole, band := l, off := o, n := c.count, cid := c.cid,
                part := 0 }] })) ∧
     (c.cls = .flush →
       let set := (p.ini.active.filter fun x => x.cls == .write || x.cls == .discard).map (·.cid)
       set ≠ [] ∧ runs = answered { p with ini.tags := context { c with st := .working, waits := set } }) ∧
     (c.cls = .identify → runs = answered
       { p with ini := ({ p.ini with sent := p.ini.sent ++
           [.data e.tag [toBlock p.capabilityBytes]] } : Initiator).finish e.tag .good }) ∧
     (c.cls = .other → c.dir ≠ .dataOut →
       let n := if c.dir = .noData then 0 else c.count
       let waits := 0 < n ∧ (p.ini.accept ≠ [] ∨ p.ini.freeFrames < n)
       (waits → runs = answered
         { p with
           ini.tags := context { c with st := .waiting }
           ini.accept := p.ini.accept ++ [e.tag] }) ∧
       (¬ waits → runs = answered
         { p with
           ini.tags := context { c with st := .working, parts := [.pending]
                                        frames := if c.dir = .noData then c.frames else c.count }
           port.offers := p.port.offers ++
             [{ cls := .b, work := .forwarded c.cid,
                cmd := .forwarded c.opcode c.params c.dir c.count }] })))

/-- STOP (R111, R177): the cursor of a drain in progress goes to E; while merges of the drain run nothing else
changes; with none running the drain finishes CANCELLED with its counts at the STOP event (R175), and otherwise when
the last of them ends (R100); without a drain it only answers. Two clauses are the model's choice: that the STOP's own
entry joins the response list before the DRAIN's is finished (notes/assumptions/56.md), and that CONTEXT_IDLE runs the
start test and the deadlock check in its own step (notes/assumptions/13.md, notes/assumptions/14.md). -/
def Obligations.StopEndsTheDrain : Prop :=
  ∀ (p : Part) (q : List Instr) (tag : Fin 32) (num : BitVec 32), p.sys.inReset = false →
    p.ini.windowPage tag = some 2 → (p.sys.mode = .active ∨ p.sys.mode = .degraded) →
    let win := ({ p.win with echo := encodeDirective num .stop } : Window).respond num 9 .done []
    (p.mrg.drain = none →
      exec (.stop tag num) ⟨p, q⟩ = .next ⟨({ p with win := win } : Part).windowTaken tag, q⟩) ∧
    (∀ d, p.mrg.drain = some d → (∃ c ∈ p.mrg.ctxs, c.origin = some .drain) →
      exec (.stop tag num) ⟨p, q⟩ =
        .next ⟨({ p with
          win := win
          mrg.drain := some { d with cursor := p.sys.layout.logBands, stopped := true } } :
          Part).windowTaken tag, q⟩) ∧
    (∀ d x, p.mrg.drain = some d → (∀ c ∈ p.mrg.ctxs, c.origin ≠ some .drain) →
      p.win.dirPending = some x → x.code = 8 →
      exec (.stop tag num) ⟨p, q⟩ =
        .next ⟨({ p with
          win := win.finish .cancelled (le 4 d.merged ++ le 4 d.failed)
          mrg.drain := none } : Part).windowTaken tag, q⟩) ∧
    (∀ (d : Drain) (i : Fin 2) (x : PendingDir), p.mrg.drain = some d → d.stopped = true →
      d.cursor = p.sys.layout.logBands → p.mrg.ctxs.length = 2 → (p.mrg.ctx i).st = .release →
      (p.mrg.ctx i).reads = [] → (p.mrg.ctx i).unitOut = false → (p.mrg.ctx i).carry = none →
      (p.mrg.ctx (1 - i).val).origin ≠ some .drain → p.win.dirPending = some x → x.code = 8 →
      exec (.contextIdle i) ⟨p, q⟩ =
        .next ⟨({ p with
          win := p.win.finish .cancelled (le 4 d.merged ++ le 4 d.failed)
          mrg.ctxs := p.mrg.ctxs.set i {}
          mrg.drain := none } : Part).deadlockCheck, q⟩)

/-- CLEAN, tested in its order: INVALID past E - 1, FAILED on a FAULTED band, DONE with no extent; else it marks
the band's list entry or joins the list's end and is PENDING, or is BUSY at a full list (R109, R178); its result data is the
band in FAILED and DONE and empty in the others (notes/assumptions/37.md). DRAIN is
PENDING with a drain at band 0, and the start test runs (R88, R110). -/
def Obligations.CleanAndDrainAskForMerges : Prop :=
  ∀ (p : Part) (q : List Instr) (tag : Fin 32) (num : BitVec 32), p.sys.inReset = false →
    p.ini.windowPage tag = some 2 → p.sys.mode = .active → p.win.dirPending = none →
    (∀ band : BitVec 32,
      let l := band.toNat
      let win := fun (r : Result) (data : List Byte) =>
        ({ p.win with echo := encodeDirective num (.clean band) } : Window).respond num 7 r data
      let pend := { win .pending [] with dirPending := some { num := num, code := 7 } }
      exec (.clean tag num band) ⟨p, q⟩ = .next ⟨Part.windowTaken
        (if p.sys.layout.bands - p.sys.layout.spares ≤ l then { p with win := win .invalid [] }
        else if (p.bands.lband l).st = .faulted then { p with win := win .failed (le 4 l) }
        else if p.idx.count (p.sys.layout.bandBlocks - 1) l = 0 then { p with win := win .done (le 4 l) }
        else if (∃ e ∈ p.mrg.reqs, e.band = l) then
          { p with
            win := pend
            mrg.reqs := p.mrg.reqs.map fun (e : MergeReq) =>
              if e.band = l then { e with clean := true } else e }
        else if p.mrg.reqs.length < 64 then
          { p with
            win := pend
            mrg.reqs := p.mrg.reqs ++ [{ band := l, urgent := false, clean := true }] }
        else { p with win := win .busy [] }) tag, q⟩) ∧
    exec (.drain tag num) ⟨p, q⟩ =
      .next ⟨(({ p with
        win := { ({ p.win with echo := encodeDirective num .drain } : Window).respond num 8 .pending [] with
          dirPending := some { num := num, code := 8 } }
        mrg.drain := some {} } : Part).startTest).windowTaken tag, q⟩

/-- FORMAT is BUSY in ACTIVE with a command or a merge context active, PROTECTED by a fixed HOLD entry, INVALID on
parameters out of range or not the drive's, or with no drive identified; else it is PENDING and the part enters
FORMATTING, its level NORMAL with no credit (R15, R18, section 1.7, R156, R179, R193), its tables as they are until
the quiesce step ends (notes/assumptions/17.md). RESTART is BUSY while a command is active, in ACTIVE while a context
is not IDLE, and in DEGRADED while a read or a target write of a context is outstanding, as R84 counts them: that the write
of one of its records does not count is the model's choice (notes/assumptions/59.md); else it is PENDING and clears the part to wait for a mount, the events
restarted at number 0 (R179, R194). The working copy of the settings stays (R180, R194), the Disposition Table and the
timeout in force are the defaults until mount has loaded them (R132, R148, R160), and a window command goes on
(notes/assumptions/18.md). -/
def Obligations.FormatAndRestartAreTaken : Prop :=
  (∀ (p : Part) (q : List Instr) (tag : Fin 32) (num : BitVec 32), p.sys.inReset = false →
     p.ini.windowPage tag = some 2 → (p.sys.mode = .active ∨ p.sys.mode = .halted) →
     p.win.dirPending = none →
     (∀ (s n : BitVec 32) (r : BitVec 16),
       let win := fun (x : Result) =>
         ({ p.win with echo := encodeDirective num (.format s r n) } : Window).respond num 12 x []
       let busy := p.sys.mode = .active ∧
         (p.ini.plainTags ≠ [] ∨ ∃ c ∈ p.mrg.ctxs, c.st ≠ .idle)
       let held := ∃ e ∈ p.ret.entries, e.fixed = true ∧ e.mode = .hold
       (busy → exec (.format tag num s r n) ⟨p, q⟩ =
         .next ⟨({ p with win := win .busy } : Part).windowTaken tag, q⟩) ∧
       (¬ busy → held → exec (.format tag num s r n) ⟨p, q⟩ =
         .next ⟨({ p with win := win .prot } : Part).windowTaken tag, q⟩) ∧
       (¬ busy → ¬ held → p.sys.drive = none → exec (.format tag num s r n) ⟨p, q⟩ =
         .next ⟨({ p with win := win .invalid } : Part).windowTaken tag, q⟩) ∧
       (∀ g, ¬ busy → ¬ held → p.sys.drive = some g →
         let ok := s.toNat = g.bandBlocks ∧ (s.toNat = 16384 ∨ s.toNat = 32768 ∨ s.toNat = 65536) ∧
           64 ≤ g.bands ∧ g.bands ≤ 131072 ∧ 4 ≤ r.toNat ∧ r.toNat ≤ 64 ∧
           16384 ≤ n.toNat ∧ n.toNat ≤ 1048576 ∧ n.toNat % 1024 = 0 ∧ 8 + n.toNat ≤ g.conv ∧
           1 ≤ g.bands - r.toNat
         (¬ ok → exec (.format tag num s r n) ⟨p, q⟩ =
           .next ⟨({ p with win := win .invalid } : Part).windowTaken tag, q⟩) ∧
         (ok → exec (.format tag num s r n) ⟨p, q⟩ =
           .next ⟨({ p with
             win := ({ win .pending with dirPending := some { num := num, code := 12 } } : Window).raise
               .modeChange (some .mode) none none none (some 5)
             sys := { p.sys with mode := .formatting, halt := .none }
             pace := {}
             fmt := some
               { layout := { bandBlocks := s.toNat, bands := g.bands, spares := r.toNat, conv := g.conv,
                             logLen := n.toNat }
                 fromHalted := p.sys.mode == .halted }
             port.timer :=
               if p.sys.mode = .halted then (if p.port.linkUp then none else some 0) else p.port.timer } :
             Part).windowTaken tag, q⟩)))) ∧
  (∀ (p : Part) (q : List Instr) (tag : Fin 32) (num : BitVec 32), p.sys.inReset = false →
     p.ini.windowPage tag = some 2 → p.win.dirPending = none → p.mrg.ctxs.length = 2 →
     let mounted := p.sys.mode = .active ∨ p.sys.mode = .degraded
     let win := ({ p.win with echo := encodeDirective num .restart } : Window)
     (mounted → p.ini.plainTags ≠ [] ∨ p.sys.mode = .active ∧ (∃ c ∈ p.mrg.ctxs, c.st ≠ .idle) ∨
         p.sys.mode = .degraded ∧
           (∃ c ∈ p.mrg.ctxs, c.reads ≠ [] ∨ c.unitOut = true ∨ ∃ x, c.carry = some x ∧ x.flight ≠ []) →
       exec (.restart tag num) ⟨p, q⟩ =
         .next ⟨({ p with win := win.respond num 13 .busy [] } : Part).windowTaken tag, q⟩) ∧
     (p.sys.mode = .halted ∨ p.sys.mode = .active ∧ p.ini.plainTags = [] ∧ (∀ c ∈ p.mrg.ctxs, c.st = .idle) ∨
         p.sys.mode = .degraded ∧ p.ini.plainTags = [] ∧
           (∀ c ∈ p.mrg.ctxs, c.reads = [] ∧ c.unitOut = false ∧ ∀ x, c.carry = some x → x.flight = []) →
       exec (.restart tag num) ⟨p, q⟩ =
         .next ⟨({ p with
           win := ({ win.respond num 13 .pending [] with
               dirPending := some { num := num, code := 13 }
               events := [], nextEvent := 0, overflow := false } : Window).raise
             .modeChange (some .mode) none none none (some 1)
           cfg := { p.cfg with loaded := false }
           sys := { p.sys with mode := .mounting, halt := .none, layout := {} }
           bands := {}, log := {}, idx := {}, mrg := {}, pace := {}, fmt := none
           mnt := { phase := .wait }
           ret := {}, ref := {}
           ini := { p.ini with hold := [], detached := [], accept := [] }
           port := { p.port with
             offers := [], awaiting := [], recovering := []
             slots := p.port.slots.map (Option.map fun (x : Slot) => { x with discard := true })
             timer := if p.sys.mode = .halted then (if p.port.linkUp then none else some 0)
               else p.port.timer } } : Part).windowTaken tag, q⟩)) ∧
  (∀ c : Settings,
     (c.loaded = false → c.timeoutInForce = 50 ∧
       c.dispInForce = { read := .translate, write := .translate, discard := .translate, flush := .translate,
                         identify := .translate, other := .reject }) ∧
     (c.loaded = true → c.timeoutInForce = c.policy.timeout ∧ c.dispInForce = c.disp))

/-! ### The placement unit and the staging log (chapters 1 and 3) -/

/-- The placement decision of a piece (R9, R10, R11). DIRECT continues a FILLING band at or above its planned
fill, within G; ALLOCATE opens an EMPTY band within G while more than 2 free bands remain beside those that waiting
contexts are owed (notes/assumptions/12.md); both ask for a band
with no unsettled or held record and no extent over the piece; every other piece is STAGED. -/
def Obligations.PlacementIsDecidedByTheBand : Prop :=
  ∀ (p : Part) (l o n : Nat),
    let b := p.bands.lband l
    let clean := b.unsettled = 0 ∧ (∀ e ∈ p.ini.hold, e.band ≠ l) ∧
      p.idx.overlaps (p.sys.layout.bandBlocks - 1) l o n = false
    let direct := b.st = .filling ∧ b.pf ≤ o ∧ o - b.pf ≤ p.cfg.policy.gap ∧ clean
    let allocate := b.st = .empty ∧ o ≤ p.cfg.policy.gap ∧ clean ∧
      2 < p.bands.free.length - p.mrg.waitBand.length
    (p.decidePiece l o n = .direct ↔ direct) ∧ (p.decidePiece l o n = .allocate ↔ allocate) ∧
    (p.decidePiece l o n = .staged ↔ ¬ direct ∧ ¬ allocate)

/-- The last block of a WRITE places it (R8, R31, R135). One piece, DIRECT: its append entry joins the band's queue behind
the planned fill, which rises past the piece. ALLOCATE: the first free band that is owed to no context (R29) becomes the
band's, with a header and a zero gap ahead of the data; where it leaves 2 free bands or fewer CAPACITY is set pending (R28).
That a band owed to a waiting context still stands at the head of the free list, is passed over there and is counted in what
the removal leaves is the model's reading (notes/assumptions/12.md).
STAGED: its records join the hold queue, each a part of the command (R12, R137). The start test and the deadlock check follow
(R88, R108, sections 5.2 and 5.8; that they come at this event is notes/assumptions/13.md and notes/assumptions/14.md). Across
the end of a logical band (R7) it has two pieces, the second from offset 0 of the next band: they are placed in order, the
second by its decision after the first is placed, with parts and frames that follow the first's. A FAULTED band of any piece
ends it MEDIUM_ERROR, and DEGRADED ends it READ_ONLY, with nothing placed; that a FAULTED band comes first where both hold is
the model's choice (notes/assumptions/58.md). -/
def Obligations.LastBlockPlacesTheWrite : Prop :=
  ∀ (p : Part) (q : List Instr) (tag : Fin 32) (block : Block) (c : Cmd),
    p.sys.inReset = false → p.ini.tags.length = 32 → p.ini.at tag = some c →
    (∀ k x, p.ini.at k = some x → x.cid = c.cid → k = tag) → p.ini.detached = [] →
    c.window = false → c.st = .receiving → c.cls = .write → c.parts = [] → 1 ≤ c.count →
    c.data.length + 1 = c.count →
    let d := p.sys.layout.bandBlocks - 1
    let l := c.lba / d
    let o := c.lba % d
    l < p.bands.lbt.length →
    let ended := fun (code : Code) => ∃ u : Part, exec (.writeDataBlock tag block) ⟨p, q⟩ = .next ⟨u, q⟩ ∧
      u.ini.sent = p.ini.sent ++ [.status tag code] ∧ u.ini.at tag = none ∧ u = { p with ini := u.ini }
    let done := fun (parts : Nat) (s : Part) => exec (.writeDataBlock tag block) ⟨p, q⟩ =
      .next ⟨Part.deadlockCheck { s with ini.tags := p.ini.tags.set tag (some
        { c with data := c.data ++ [toBlock block], st := .working,
                 parts := List.replicate parts .pending }) }, q⟩
    let parts := fun (k : Placement) (n : Nat) => match k with
      | .staged => (n + 127) / 128
      | _ => 1
    let placed := fun (k : Placement) (l o n part first : Nat) (s : Part) =>
      let ph := (s.bands.free.drop s.mrg.waitBand.length).headD 0
      let free := s.bands.free.filter (· != ph)
      match k with
      | .direct =>
        { s with bands.lbt := s.bands.lbt.modify l fun b => { b with
            pf := o + n
            queue := b.queue ++
              [{ allocate := false, band := b.phys.getD 0, start := 1 + b.pf, gap := o - b.pf, off := o,
                 n := n, cid := c.cid, part := part, first := first, base := 0 }] } }
      | .allocate =>
        { s with
          win.pending := if free.length ≤ 2 then s.win.pending ||| alertMask .capacity else s.win.pending
          bands := { s.bands with
            free := free
            pool := s.bands.pool.modify ph fun x => { x with st := .mapped, owner := some l }
            lbt := s.bands.lbt.modify l fun b => { b with
              st := .filling, phys := some ph, f := 0, pf := o + n
              queue := b.queue ++
                [{ allocate := true, band := ph, start := 0, gap := o, off := o, n := n, cid := c.cid,
                   part := part, first := first, base := b.floor }] } } }
      | .staged => { s with ini.hold := s.ini.hold ++ stagedEntries c.cid l o n part first }
    let faulted := fun (l : Nat) => (p.bands.lband l).st = .faulted
    (o + c.count ≤ d →
      (faulted l → ended .mediumError) ∧
      (¬ faulted l → p.sys.mode = .degraded → ended .readOnly) ∧
      (¬ faulted l → p.sys.mode = .active → ∀ k : Placement, p.decidePiece l o c.count = k →
        done (parts k c.count) (placed k l o c.count 0 0 p))) ∧
    (d < o + c.count → o + c.count ≤ 2 * d → l + 1 < p.bands.lbt.length →
      let n := d - o
      let m := o + c.count - d
      (faulted l ∨ faulted (l + 1) → ended .mediumError) ∧
      (¬ faulted l → ¬ faulted (l + 1) → p.sys.mode = .degraded → ended .readOnly) ∧
      (¬ faulted l → ¬ faulted (l + 1) → p.sys.mode = .active → ∀ k k' : Placement,
        p.decidePiece l o n = k →
        let s := placed k l o n 0 0 p
        s.decidePiece (l + 1) 0 m = k' →
        done (parts k n + parts k' m) (placed k' (l + 1) 0 m (parts k n) n s)))

/-- A STAGED piece becomes records of 128 data blocks and one last record of the rest; record i starts at offset
o + 128 i and costs 1 + its payload, and a DISCARD record costs 1. A piece of at most 1,024 blocks yields at most
8 records of cost 2..129 (R12). -/
def Obligations.StagedPieceSplitsInto128BlockRecords : Prop :=
  ∀ cid l o n part first : Nat, 1 ≤ n →
    let es := stagedEntries cid l o n part first
    es.length = (n + 127) / 128 ∧
    (∀ i, i < (n + 127) / 128 →
      es[i]? = some { kind := .data, band := l, off := o + 128 * i, n := min 128 (n - 128 * i), cid := cid,
                      part := part + i, first := first + 128 * i }) ∧
    (∀ e ∈ es, e.cost = 1 + e.n) ∧
    (n ≤ 1024 → es.length ≤ 8 ∧ ∀ e ∈ es, 2 ≤ e.cost ∧ e.cost ≤ 129) ∧
    ∀ e : HoldEntry, e.kind = .discard → e.cost = 1

/-- The table of R15, for thresholds in order: going up, the highest level whose entry condition holds; going down,
one level at most. Pacing (R18): the credit for t freed blocks is t at PACE_Q quarters, added up to 65,535, with the
remainder kept below 4 (which completions add it is said with the anchor writes); entering PRESSURE sets the credit to BURST with LEVEL_CHANGE, and leaving it to
RECLAIM clears it, in FORMATTING too, where the quiesce step may lower O (R60, R193; notes/assumptions/16.md). -/
def Obligations.LevelAndPacingFollowTheOccupancy : Prop :=
  (∀ tLow tHigh tHard hyst occ : Nat, tLow < tHigh → tHigh < tHard →
     let f := fun (b : Level) => nextLevel tLow tHigh tHard hyst b occ
     (tHard ≤ occ → f .normal = .full ∧ f .reclaim = .full ∧ f .pressure = .full ∧ f .full = .full) ∧
     (tHigh ≤ occ → occ < tHard →
       f .normal = .pressure ∧ f .reclaim = .pressure ∧ f .pressure = .pressure ∧ f .full = .pressure) ∧
     (tLow ≤ occ → occ < tHigh → f .normal = .reclaim ∧ f .reclaim = .reclaim ∧ f .full = .pressure ∧
       (f .pressure = if occ < tHigh - hyst then .reclaim else .pressure)) ∧
     (occ < tLow → f .normal = .normal ∧ f .reclaim = .normal ∧ f .full = .pressure ∧
       (f .pressure = if occ < tHigh - hyst then .reclaim else .pressure))) ∧
  ((∀ (q t : Nat) (c : Pace),
     (creditFreed q t c).credit = min 65535 (c.credit + (t * q + c.rem) / 4) ∧
     (creditFreed q t c).rem = (t * q + c.rem) % 4 ∧ (creditFreed q t c).level = c.level) ∧
   ∀ p : Part, (p.sys.mode = .active ∨ p.sys.mode = .degraded ∨ p.sys.mode = .formatting) →
     (p.pace.level ≠ .pressure → p.nextLevel = .pressure →
       p.evalLevel = { p with
         pace := { level := .pressure, credit := p.cfg.policy.burst, rem := 0 }
         win := p.win.raise .levelChange (some .log) none none (some p.log.occ) (some 2) }) ∧
     (p.pace.level = .pressure → p.nextLevel = .reclaim →
       p.evalLevel = { p with pace := { level := .reclaim, credit := 0, rem := 0 } }) ∧
     (p.pace.level = .pressure → p.nextLevel = .full →
       p.evalLevel = { p with
         pace.level := .full
         win := p.win.raise .levelChange (some .log) none none (some p.log.occ) (some 3) }) ∧
     (p.nextLevel = p.pace.level → p.evalLevel = p))

/-- ADMISSION serves the hold queue head first (R16). A head that is admitted takes the next seq and the head position,
its write is offered to class C, and where it would pass the end of the log a PAD of the blocks left there, of which
one is written, takes the seq and the position before it, and the record log block 0 (R13); its band's unsettled count
rises, and a record that is not a full DISCARD reserves 2 index entries for the log and for its band (R16, R24, R47,
R70). At PRESSURE the credit falls by the blocks of a DATA record and its PAD (R16, R18; that a DISCARD record charges
none is notes/assumptions/15.md). The level is then re-evaluated from the one before, with BURST as the credit and LEVEL_CHANGE
on entering PRESSURE and LEVEL_CHANGE on entering FULL (R15, R18), and so is the index pressure flag, whose start sets CAPACITY
pending (R77); and the record behind it is tested at the same event, on the part as it then stands. The head waits, and
everything behind it, while the log would pass T_hard, the record table lacks 2 entries, the
index lacks room, an internal record waits (R17), the mode is not ACTIVE, or, at PRESSURE, the credit is short (R18).
INTERNAL_RECORD_POSITION of a context's COMMIT record: with one block of the log free and 2 record-table entries it
takes the next seq and the head position, whatever T_hard says, and is offered to class E; until then it waits (R17,
R98). That of a carry-forward pass: its records, one for each listed extent in list order, take consecutive seqs and positions
from the head, each with the PAD R13 asks, and are offered to class E, all at one event; while O plus the sum of their blocks and
PADs would pass LOG_LEN, or fewer than 2 table entries a record are free, none does (R17, R63). The level follows (R15). -/
def Obligations.RecordsAreAdmittedAndPositioned : Prop :=
  (∀ (p : Part) (q : List Instr) (e : HoldEntry) (rest : List HoldEntry), p.sys.inReset = false →
     p.ini.hold = e :: rest →
     let c := if e.kind = .data then 1 + e.n else 1
     let g := p.sys.layout
     p.log.head < g.logLen →
     let pad := if c ≤ g.logLen - p.log.head then 0 else g.logLen - p.log.head
     let occ := p.log.occ + pad + c
     let t := fun (quanta : Nat) => g.logLen * quanta / 256
     let fits := p.sys.mode = .active ∧ p.log.waiting = [] ∧
       occ ≤ t p.cfg.policy.hardQ ∧ p.log.table.length + 2 ≤ 32768 ∧
       (e.full = true ∨ p.idx.extents.length + p.idx.reserved + 2 ≤ 65536 ∧
         p.idx.count (g.bandBlocks - 1) e.band + (p.bands.lband e.band).reserved ≤ 4094) ∧
       (e.kind ≠ .data ∨ p.pace.level ≠ .pressure ∨ pad + c ≤ p.pace.credit)
     (¬ fits → exec .admission ⟨p, q⟩ = .next ⟨p, q⟩) ∧
     (fits →
       let seq := if pad = 0 then p.log.nextSeq else p.log.nextSeq + 1
       let pos := if pad = 0 then p.log.head else 0
       let reserve := if e.full = true then 0 else 2
       let old := p.pace.level
       let level : Level :=
         if t p.cfg.policy.hardQ ≤ occ then .full
         else if old = .full ∨ t p.cfg.policy.highQ ≤ occ ∨
           old = .pressure ∧ t p.cfg.policy.highQ - g.logLen / 32 ≤ occ then .pressure
         else if old = .pressure ∨ t p.cfg.policy.lowQ ≤ occ then .reclaim
         else .normal
       let credit :=
         if e.kind = .data ∧ old = .pressure then p.pace.credit - (pad + c) else p.pace.credit
       let pressed := 61440 ≤ p.idx.extents.length + (p.idx.reserved + reserve)
       let told :=
         if level ≠ old ∧ level = .pressure then
           p.win.raise .levelChange (some .log) none none (some occ) (some 2)
         else if level ≠ old ∧ level = .full then
           p.win.raise .levelChange (some .log) none none (some occ) (some 3)
         else p.win
       let after : Part := { p with
         pace :=
           if level = old then { p.pace with credit := credit }
           else if level = .pressure then { level := level, credit := p.cfg.policy.burst, rem := 0 }
           else if level = .reclaim ∧ old = .pressure then { level := level, credit := 0, rem := 0 }
           else { level := level, credit := credit, rem := p.pace.rem }
         win := if pressed ∧ p.idx.pressure = false then
           { told with pending := told.pending ||| alertMask .capacity } else told
         ini.hold := rest
         idx := { p.idx with reserved := p.idx.reserved + reserve, pressure := decide pressed }
         bands.lbt := p.bands.lbt.modify e.band fun b => { b with
           unsettled := b.unsettled + 1, reserved := b.reserved + reserve }
         log := { p.log with
           table := p.log.table ++
             (if pad = 0 then [] else
               [{ seq := p.log.nextSeq, pos := p.log.head, len := pad, kind := .pad }]) ++
             [{ seq := seq, pos := pos, len := c, kind := e.kind, band := some e.band,
                origin := .cmd e.cid e.part, off := e.off, n := e.n, full := e.full, first := e.first,
                reserve := !e.full }]
           nextSeq := seq + 1
           head := if pos + c = g.logLen then 0 else pos + c
           occ := occ }
         port.offers := p.port.offers ++
           (if pad = 0 then [] else
             [{ cls := .c, work := .record p.log.nextSeq, cmd := .write (8 + p.log.head) 1 }]) ++
           [{ cls := .c, work := .record seq
              cmd := .write (8 + pos) (if e.kind = .data then c else 1) }] }
       exec .admission ⟨p, q⟩ = exec .admission ⟨after, q⟩ ∧
       (rest = [] → exec .admission ⟨p, q⟩ = .next ⟨after, q⟩))) ∧
  (∀ (p : Part) (q : List Instr) (i : Nat), p.sys.inReset = false → p.sys.mode = .active →
     p.log.waiting = [.commit i] → p.log.head < p.sys.layout.logLen →
     let c := p.mrg.ctx i
     let fits := p.log.occ + 1 ≤ p.sys.layout.logLen ∧ p.log.table.length + 2 ≤ 32768
     (¬ fits → exec .internalRecordPosition ⟨p, q⟩ = .next ⟨p, q⟩) ∧
     (fits →
       exec .internalRecordPosition ⟨p, q⟩ =
         .next ⟨Part.evalLevel { p with
           mrg.ctxs := p.mrg.ctxs.modify i fun x => { x with positioned := true }
           log := { p.log with
             waiting := []
             table := p.log.table ++
               [{ seq := p.log.nextSeq, pos := p.log.head, len := 1, kind := .commit, band := c.band,
                  origin := .merge i, oldBand := c.old, newBand := c.target, snapSeq := c.snapSeq.getD 0,
                  newFill := c.newFill }]
             nextSeq := p.log.nextSeq + 1
             head := if p.log.head + 1 = p.sys.layout.logLen then 0 else p.log.head + 1
             occ := p.log.occ + 1 }
           port.offers := p.port.offers ++
             [{ cls := .e, work := .record p.log.nextSeq, cmd := .write (8 + p.log.head) 1 }] }, q⟩)) ∧
  (∀ (p : Part) (q : List Instr) (i l : Nat) (m : CarryPass), p.sys.inReset = false → p.sys.mode = .active →
     p.log.waiting = [.carry i] → i < p.mrg.ctxs.length → (p.mrg.ctx i).carry = some m →
     (p.mrg.ctx i).band = some l → (∀ e ∈ m.list, 1 ≤ e.len ∧ e.len ≤ 128) →
     let g := p.sys.layout
     129 < g.logLen → p.log.head < g.logLen →
     let record := fun (e : Extent) =>
       ({ seq := 0, pos := 0, len := if e.kind = .data then 1 + e.len else 1
          kind := if e.kind = .data then .data else .discard
          band := some l, origin := .carry i, off := e.start - l * (g.bandBlocks - 1), n := e.len
          carries := some (m.seq, e.start) } : Rec)
     let after := fun (pos len : Nat) => if pos + len = g.logLen then 0 else pos + len
     let place := fun (x : List Rec × Nat × Nat) (r : Rec) =>
       if r.len ≤ g.logLen - x.2.2 then
         (x.1 ++ [{ r with seq := x.2.1, pos := x.2.2 }], x.2.1 + 1, after x.2.2 r.len)
       else
         (x.1 ++ [{ seq := x.2.1, pos := x.2.2, len := g.logLen - x.2.2, kind := .pad },
                  { r with seq := x.2.1 + 1, pos := 0 }], x.2.1 + 2, after 0 r.len)
     let x := (m.list.map record).foldl place ([], p.log.nextSeq, p.log.head)
     let occ := p.log.occ + (x.1.map (·.len)).sum
     let fits := occ ≤ g.logLen ∧ 2 * m.list.length ≤ 32768 - p.log.table.length
     (¬ fits → exec .internalRecordPosition ⟨p, q⟩ = .next ⟨p, q⟩) ∧
     (fits →
       exec .internalRecordPosition ⟨p, q⟩ =
         .next ⟨Part.evalLevel { p with
           mrg.ctxs := p.mrg.ctxs.modify i fun c =>
             { c with positioned := true, carry := some { m with left := m.list.length } }
           log := { p.log with
             waiting := [], table := p.log.table ++ x.1, nextSeq := x.2.1, head := x.2.2, occ := occ }
           port.offers := p.port.offers ++ x.1.map fun r =>
             { cls := .e, work := .record r.seq
               cmd := .write (8 + r.pos) (if r.kind = .data then r.len else 1) } }, q⟩))

/-- The write of a record completes: GOOD makes it COMPLETED (R49); an error marks it void and offers its VOID
rewrite, one block at its position, to class A (R53). The rewrite's GOOD makes it COMPLETED and raises LOG_VOID
with the failed write's code; its error enters DEGRADED (R54, R192). -/
def Obligations.RecordWritesCompleteOrVoid : Prop :=
  ∀ (p : Part) (q : List Instr) (k : Fin 32) (o : Offer) (r : Rec) (code : DriveCode),
    p.sys.inReset = false → p.port.runs k o → o.band = none → p.log.find r.seq = some r →
    p.log.table.all (fun x => x.barrier.isNone) = true →
    (code = .mediumError ∨ code = .alignError ∨ code = .otherError) →
    let slots := p.port.slots.set k none
    let settle := fun (f : Rec → Rec) => p.log.table.map fun x => if x.seq = r.seq then f x else x
    (o.work = .record r.seq →
      exec (.recordWriteComplete k .good) ⟨p, q⟩ =
        .next ⟨{ p with
          port.slots := slots
          log.table := settle fun x => { x with st := .completed } }, q⟩ ∧
      (p.sys.mode ≠ .degraded →
        exec (.recordWriteComplete k code) ⟨p, q⟩ =
          .next ⟨{ p with
            port := { p.port with
              slots := slots
              offers := p.port.offers ++
                [{ cls := .a, work := .voidRewrite r.seq, cmd := .write (8 + r.pos) 1 }] }
            log.table := settle fun x => { x with void := true, failCode := code } }, q⟩)) ∧
    (o.work = .voidRewrite r.seq →
      exec (.voidRewriteComplete k .good) ⟨p, q⟩ =
        .next ⟨{ p with
          port.slots := slots
          log.table := settle fun x => { x with st := .completed }
          win := p.win.raise .logVoid (some .drive) r.band none (some r.len)
            (some (driveNum r.failCode)) }, q⟩ ∧
      (p.sys.mode = .active → ∃ u : Part,
        exec (.voidRewriteComplete k code) ⟨p, q⟩ = .next ⟨u, q⟩ ∧
        u.sys = { p.sys with mode := .degraded, halt := .none }))

/-- Entry into DEGRADED, here at the failure of a VOID rewrite with no offer waiting behind a link reset: the hold
queue is empty, no write or reset is offered, every append entry left has been issued, no drain goes on, and no
WRITE, DISCARD or data-out OTHER waits to be accepted (R37, R55, R110, R115, R145, R192). -/
def Obligations.DegradedStopsEveryWrite : Prop :=
  ∀ (p : Part) (q : List Instr) (k : Fin 32) (o : Offer) (r : Rec) (code : DriveCode),
    p.sys.inReset = false → p.sys.mode = .active → p.port.runs k o → o.work = .voidRewrite r.seq →
    p.log.find r.seq = some r → (code = .mediumError ∨ code = .alignError ∨ code = .otherError) →
    (∀ x ∈ p.port.offers, x.attempt = 1) →
    ∃ u : Part, exec (.voidRewriteComplete k code) ⟨p, q⟩ = .next ⟨u, q⟩ ∧
      u.sys.mode = .degraded ∧ u.ini.hold = [] ∧ (∀ x ∈ u.port.offers, x.cmd.modifies = false) ∧
      (∀ b ∈ u.bands.lbt, ∀ e ∈ b.queue, e.issued = true) ∧ u.mrg.drain = none ∧
      (∀ t ∈ u.ini.accept, ∀ c, u.ini.at t = some c →
        c.cls ≠ .write ∧ c.cls ≠ .discard ∧ ¬ (c.cls = .other ∧ c.dir = .dataOut))

/-- SETTLEMENT of a DATA record of a command, the next record not COMPLETED: settled seq rises by 1, the band's
unsettled count and the reservation fall, the extent over the record's blocks replaces what it overlaps, the
record's live count is its length, and that of every other record falls by the blocks its extents lose to it, and the
command's part is done (R24, R50, R51, R70, R71, R72). No drive command follows. -/
def Obligations.SettlementPutsTheExtentInTheIndex : Prop :=
  ∀ (p : Part) (q : List Instr) (r : Rec) (l cid part tag : Nat) (c : Cmd), p.sys.inReset = false →
    p.log.find (p.log.settled + 1) = some r → r.seq = p.log.settled + 1 → r.st = .completed →
    r.void = false → r.kind = .data → r.band = some l → r.origin = .cmd cid part → r.reserve = true →
    l < p.bands.lbt.length →
    (∀ x, p.log.find (p.log.settled + 2) = some x → x.st ≠ .completed) →
    p.ini.at tag = some c → c.cid = cid →
    ∃ u : Part, exec .settlement ⟨p, q⟩ = .next ⟨u, q⟩ ∧
      u.log.settled = p.log.settled + 1 ∧ u.log.occ = p.log.occ ∧ u.log.nextSeq = p.log.nextSeq ∧
      u.idx.extents = insertExtents p.idx.extents
        { start := l * (p.sys.layout.bandBlocks - 1) + r.off, len := r.n, kind := .data, seq := r.seq,
          lp := r.pos + 1 } ∧
      u.idx.reserved = p.idx.reserved - 2 ∧
      (u.bands.lband l).unsettled = (p.bands.lband l).unsettled - 1 ∧
      (u.bands.lband l).reserved = (p.bands.lband l).reserved - 2 ∧
      (u.bands.lband l).st = (p.bands.lband l).st ∧ u.bands.pool = p.bands.pool ∧
      u.log.find r.seq = some { r with st := .settled, live := r.n } ∧
      (let a := l * (p.sys.layout.bandBlocks - 1) + r.off
       let lost := fun (x : Rec) => ((p.idx.extents.filter (·.seq == x.seq)).map fun e =>
         min (e.start + e.len) (a + r.n) - max e.start a).sum
       u.log.table.filter (·.seq != r.seq) =
         (p.log.table.filter (·.seq != r.seq)).map fun x => { x with live := x.live - lost x }) ∧
      u.ini.at tag = some (c.setPart part .done) ∧ u.ini.sent = p.ini.sent ∧ u.ini.hold = p.ini.hold ∧
      u.port = p.port ∧ u.sys = p.sys ∧ u.cfg = p.cfg ∧ u.ret = p.ret ∧ u.ref = p.ref ∧ u.pace = p.pace

/-- SETTLEMENT of a COMMIT record and of DISCARD records, the next record not COMPLETED. A COMMIT whose merge has not been
cancelled: the band's extents at or below the snapshot seq leave the index, the band maps the target at the new fill with
the snapshot seq as its floor and no merge failures, the target is MAPPED and released from its hold, the old band is to be
reset and awaited by the record, the snapshot pins end, MERGE_DONE is raised, and the context enters RELEASE (R27, R58, R74,
R99). One whose merge was cancelled changes nothing (R103). A full DISCARD removes every extent of its band and empties it
with its own seq as the floor, and its physical band is to be reset and awaited (R51, R75); a merge of the band is cancelled
too: its target is to be reset and awaited, its COMMIT loses its origin, its reads and its unit that were never granted are
withdrawn with their pins, the snapshot pins end, MERGE_ABANDONED carries CANCELLED, and the context enters RELEASE (R102,
R113); that the old band stands ahead of the target among the awaited bands is the model's choice (notes/assumptions/60.md). A partial DISCARD inserts a ZERO extent (R51, R71). The live count of every other record falls by the blocks its
extents lose (R72, R74, R75). -/
def Obligations.CommitsAndDiscardsSettle : Prop :=
  ∀ (p : Part) (q : List Instr) (r : Rec), p.sys.inReset = false →
    p.log.find (p.log.settled + 1) = some r → r.seq = p.log.settled + 1 → r.st = .completed → r.void = false →
    (∀ x, p.log.find (p.log.settled + 2) = some x → x.st ≠ .completed) →
    let d := p.sys.layout.bandBlocks - 1
    let others := fun (t : List Rec) => t.filter (·.seq != r.seq)
    let lengths := fun (gone : Extent → Prop) [DecidablePred gone] (x : Rec) =>
      ((p.idx.extents.filter fun e => decide (e.seq = x.seq ∧ gone e)).map (·.len)).sum
    (∀ i l, r.kind = .commit → r.origin = .merge i → i < p.mrg.ctxs.length → (p.mrg.ctx i).band = some l →
      l < p.bands.lbt.length → r.seq ∉ (p.mrg.ctx i).pins →
      let c := p.mrg.ctx i
      let snap := c.snapSeq.getD 0
      let gone := fun (e : Extent) => e.start / d = l ∧ e.seq ≤ snap
      ∃ u : Part, exec .settlement ⟨p, q⟩ = .next ⟨u, q⟩ ∧
        u.log.settled = p.log.settled + 1 ∧ u.log.occ = p.log.occ ∧
        u.idx.extents = p.idx.extents.filter (fun e => decide (¬ gone e)) ∧
        u.bands.lband l = { p.bands.lband l with
          phys := c.target, f := c.newFill, pf := c.newFill, floor := snap, failures := 0, resume := none
          st := if c.newFill = 0 then .empty else if c.newFill = d then .full else .filling } ∧
        (∀ t, c.target = some t → c.old ≠ some t → t < p.bands.pool.length →
          u.bands.pband t = { p.bands.pband t with st := .mapped, owner := some l } ∧
          u.log.holds = p.log.holds.filter (·.1 != t)) ∧
        (∀ b, c.old = some b → b < p.bands.pool.length →
          u.bands.pband b = { p.bands.pband b with st := .resetPending, owner := none } ∧
          b ∈ u.bands.resetPend) ∧
        (∃ x, u.log.find r.seq = some x ∧ x.st = .settled ∧ x.awaited = c.old.toList ∧
          x.live = c.old.toList.length) ∧
        others u.log.table = (others p.log.table).map (fun x =>
          { x with live := x.live - lengths gone x, readers := x.readers - c.pins.count x.seq }) ∧
        (u.mrg.ctx i).st = .release ∧ (u.mrg.ctx i).pins = [] ∧
        (c.clean = false → (p.idx.extents.filter (fun e => e.start / d == l)).length < 3840 →
          p.idx.extents.length + p.idx.reserved < 61440 →
          u.win = p.win.raise .mergeDone
            (if c.origin = some .directive ∨ c.origin = some .drain then some .directive else none) (some l) c.target
            (some c.copied) (some (p.idx.extents.filter (fun e => decide (gone e))).length) ∧
          u.mrg.drain = if c.origin = some .drain then p.mrg.drain.map (fun x => { x with merged := x.merged + 1 })
            else p.mrg.drain) ∧
        u.sys = p.sys ∧ u.cfg = p.cfg ∧ u.ini = p.ini ∧ u.port = p.port ∧ u.ref = p.ref ∧ u.ret = p.ret) ∧
    (r.kind = .commit → r.origin = .none →
      exec .settlement ⟨p, q⟩ =
        .next ⟨{ p with log := { p.log with
          settled := p.log.settled + 1
          table := p.log.table.map fun x => if x.seq = r.seq then { x with st := .settled } else x } }, q⟩) ∧
    (∀ l cid part tag c, r.kind = .discard → r.band = some l → r.origin = .cmd cid part → l < p.bands.lbt.length →
      r.reserve = !r.full → p.ini.at tag = some c → c.cid = cid →
      let b := p.bands.lband l
      ∃ u : Part, exec .settlement ⟨p, q⟩ = .next ⟨u, q⟩ ∧ u.log.settled = p.log.settled + 1 ∧
        u.log.occ = p.log.occ ∧ u.ini.at tag = some (c.setPart part .done) ∧ u.ini.sent = p.ini.sent ∧
        u.ini.hold = p.ini.hold ∧ u.sys = p.sys ∧ u.cfg = p.cfg ∧ u.ret = p.ret ∧ u.ref = p.ref ∧
        (r.full = false ∨ b.st ≠ .merging → u.port = p.port) ∧
        (r.full = false →
          u.idx.extents = insertExtents p.idx.extents
            { start := l * d + r.off, len := r.n, kind := .zero, seq := r.seq, lp := 0 } ∧
          u.idx.reserved = p.idx.reserved - 2 ∧
          u.bands.lband l = { b with unsettled := b.unsettled - 1, reserved := b.reserved - 2 } ∧
          u.bands.pool = p.bands.pool ∧ u.log.find r.seq = some { r with st := .settled, live := r.n } ∧
          (let a := l * d + r.off
           let lost := fun (x : Rec) => ((p.idx.extents.filter (·.seq == x.seq)).map fun e =>
             min (e.start + e.len) (a + r.n) - max e.start a).sum
           others u.log.table = (others p.log.table).map fun x => { x with live := x.live - lost x })) ∧
        (r.full = true →
          u.idx.extents = p.idx.extents.filter (fun e => e.start / d != l) ∧ u.idx.reserved = p.idx.reserved ∧
          (others u.log.table).map (fun x => (x.seq, x.live)) =
            (others p.log.table).map (fun x => (x.seq, x.live - lengths (fun e => e.start / d = l) x)) ∧
          u.bands.lband l = { b with
            st := .empty, phys := none, f := 0, pf := 0, floor := r.seq, resume := none
            unsettled := b.unsettled - 1 } ∧
          (∀ n, b.phys = some n → n < p.bands.pool.length →
            n ∈ u.bands.resetPend ∧ (u.bands.pband n).st = .resetPending ∧ (u.bands.pband n).owner = none) ∧
          (b.st ≠ .merging →
            u.mrg = p.mrg ∧ ∃ x, u.log.find r.seq = some x ∧ x.st = .settled ∧ x.awaited = b.phys.toList ∧
              x.live = b.phys.toList.length) ∧
          (∀ i, b.st = .merging → p.mrg.ctxOf l = some i →
            let m := p.mrg.ctx i
            let gone := p.port.offers.filter fun o => o.work.ofMerge i && o.attempt == 1
            u.port = { p.port with offers := p.port.offers.filter fun o => !(o.work.ofMerge i && o.attempt == 1) } ∧
            u.bands.pool.map (·.readers) = p.bands.pool.mapIdx (fun n x =>
              x.readers - gone.countP (·.pin == some (.band n))) ∧
            u.log.table.map (·.readers) = p.log.table.map (fun x =>
              x.readers - gone.countP (·.pin == some (.record x.seq)) - m.pins.count x.seq) ∧
            (∀ t, m.target = some t → t < p.bands.pool.length →
              t ∈ u.bands.resetPend ∧ (u.bands.pband t).st = .resetPending ∧ (u.bands.pband t).owner = none ∧
              ∀ h ∈ u.log.holds, h.1 ≠ t) ∧
            (∃ x, u.log.find r.seq = some x ∧ x.st = .settled ∧ x.awaited = b.phys.toList ++ m.target.toList ∧
              x.live = (b.phys.toList ++ m.target.toList).length) ∧
            (∀ x ∈ u.log.table, x.origin ≠ .merge i) ∧ (u.mrg.ctx i).st = .release ∧ (u.mrg.ctx i).pins = [] ∧
            (m.clean = false → p.idx.extents.length + p.idx.reserved < 61440 →
              u.win = p.win.raise .mergeAbandoned none m.band m.target (some m.copied) (some 5)))))

/-- SETTLEMENT of void and of carry-forward records, the next record not COMPLETED. A void record becomes a VOID
record with no band and puts nothing in the index; its band's counts fall as at any settlement (R24, R51), and its
origin is told (R52): a command's part ends MEDIUM_ERROR; a merge fails, its band's failures rise, to 3 at most, and
the band is asked for again, or at 3 is FAULTED (R21, R104, R106; a count that a full DISCARD left at 3 is
notes/assumptions/47.md). A carry-forward record re-points the extent it carries, whose record's live count falls by
its length (R63, R72); the last of a pass idles its context, and clears its record's failure mark where none was void.
Where one was, MERGE_ABANDONED is raised with the blocks carried and the first void's code, and the failure is noted
against the record (R64; notes/assumptions/49.md); at the second in a row on one record the part enters DEGRADED. -/
def Obligations.VoidAndCarriedRecordsSettle : Prop :=
  ∀ (p : Part) (q : List Instr) (r : Rec), p.sys.inReset = false →
    p.log.find (p.log.settled + 1) = some r → r.seq = p.log.settled + 1 → r.st = .completed →
    (∀ x, p.log.find (p.log.settled + 2) = some x → x.st ≠ .completed) →
    let table := fun (f : Rec → Rec) => p.log.table.map fun x => if x.seq = r.seq then f x else x
    let voided := table fun x => { x with st := .settled, kind := .void, band := none }
    (∀ l cid part, r.void = true → r.origin = .cmd cid part → r.band = some l → r.reserve = true →
      p.idx.pressure = false → p.idx.extents.length + p.idx.reserved < 61440 →
      exec .settlement ⟨p, q⟩ =
        .next ⟨{ p with
          log := { p.log with settled := p.log.settled + 1, table := voided }
          idx.reserved := p.idx.reserved - 2
          bands.lbt := p.bands.lbt.modify l fun b => { b with unsettled := b.unsettled - 1, reserved := b.reserved - 2 }
          ini := (p.partFinal cid part (.failed .mediumError)).ini }, q⟩) ∧
    (∀ i l, r.void = true → r.origin = .merge i → i < p.mrg.ctxs.length → (p.mrg.ctx i).band = some l →
      l < p.bands.lbt.length → (p.bands.lband l).resume.isSome = true →
      let n := min 3 ((p.bands.lband l).failures + 1)
      ∃ u : Part, exec .settlement ⟨p, q⟩ = .next ⟨u, q⟩ ∧ u.log.settled = p.log.settled + 1 ∧
        u.idx.extents = p.idx.extents ∧ (u.bands.lband l).phys = (p.bands.lband l).phys ∧
        (u.bands.lband l).failures = n ∧ (u.bands.lband l).resume = none ∧
        some (u.bands.lband l).st = (if n < 3 then (p.bands.lband l).resume else some .faulted) ∧
        (∀ t, (p.mrg.ctx i).target = some t → t ∈ u.bands.resetPend) ∧
        (u.mrg.ctx i).st = .release ∧ (u.mrg.ctx i).pins = [] ∧
        (n < 3 → p.mrg.reqs = [] → u.mrg.reqs = [{ band := l, urgent := true }])) ∧
    (∀ i l (m : CarryPass) (e : Extent), r.void = false → r.kind = .data → r.origin = .carry i →
      i < p.mrg.ctxs.length → r.band = some l → (p.mrg.ctx i).carry = some m → r.carries = some (m.seq, e.start) →
      e ∈ p.idx.extents → e.seq = m.seq → e.kind = .data → m.seq ≠ r.seq →
      (∀ x ∈ p.idx.extents, x.start = e.start → x = e) →
      let pointed := p.idx.extents.map fun x =>
        if x = e then { x with seq := r.seq, lp := r.pos + 1 } else x
      let settled := p.log.table.map fun x =>
        if x.seq = r.seq then { x with st := .settled, live := e.len }
        else if x.seq = m.seq then { x with live := x.live - e.len } else x
      (1 < m.left →
        exec .settlement ⟨p, q⟩ =
          .next ⟨{ p with
            log := { p.log with settled := p.log.settled + 1, table := settled }
            idx.extents := pointed
            mrg.ctxs := p.mrg.ctxs.modify i fun c =>
              { c with carry := some { m with left := m.left - 1, carried := m.carried + r.n } } }, q⟩) ∧
      (m.left = 1 → m.voided = none →
        exec .settlement ⟨p, q⟩ =
          .next ⟨{ p with
            log := { p.log with
              settled := p.log.settled + 1, table := settled
              carryFail := if p.log.carryFail = some m.seq then none else p.log.carryFail }
            idx.extents := pointed
            mrg.ctxs := p.mrg.ctxs.modify i fun _ => {} }, q⟩)) ∧
    (∀ i l (m : CarryPass), r.void = true → r.origin = .carry i → i < p.mrg.ctxs.length →
      (p.mrg.ctx i).carry = some m → (p.mrg.ctx i).band = some l → m.left = 1 → p.log.carryFail ≠ some m.seq →
      p.idx.pressure = false → p.idx.extents.length + p.idx.reserved < 61440 →
      let code := (m.voided.getD r.failCode)
      exec .settlement ⟨p, q⟩ =
        .next ⟨{ p with
          log := { p.log with settled := p.log.settled + 1, table := voided, carryFail := some m.seq }
          mrg.ctxs := p.mrg.ctxs.modify i fun _ => {}
          win := p.win.raise .mergeAbandoned (some .drive) (some l) none (some m.carried)
            (some (driveNum code)) }, q⟩) ∧
    (∀ i (m : CarryPass), r.void = true → r.origin = .carry i → i < p.mrg.ctxs.length →
      (p.mrg.ctx i).carry = some m → m.left = 1 → p.log.carryFail = some m.seq → p.sys.mode = .active →
      ∃ u : Part, exec .settlement ⟨p, q⟩ = .next ⟨u, q⟩ ∧ u.log.settled = p.log.settled + 1 ∧
        u.sys = { p.sys with mode := .degraded, halt := .none } ∧ u.log.carryFail = some m.seq)

/-- RECLAIM_ADVANCE passes a settled record with no live block and no reader that no target hold keeps, here the
last before the head; the durable tail and O stay, and an anchor write with the new tail is offered (R42, R56, R58,
R59). A record that is live, pinned or held stops it. An anchor write completes GOOD: the durable tail moves to the
tail it wrote, the records before it leave the table, O falls by their blocks; at PRESSURE and FULL they are added to the
pacing credit before the level is evaluated against the lowered O (R15, R18); the settings directive it carried is DONE; a set
dirty flag clears and a further anchor write, built from the state after, is offered (R60). Its first error offers the anchor again, built from the present state (R61); it then carries the
settings directive that is pending, which is not yet answered (notes/assumptions/34.md). The second in a row enters DEGRADED,
the in-flight flag clear, the dirty flag, the durable tail and O as they were, and a pending settings directive FAILED
(R61, R176); where nothing else waits or runs that is all, with MODE_CHANGE, ANCHOR_FAIL and DIRECTIVE_DONE, in the order of
notes/assumptions/20.md. -/
def Obligations.ReclaimAndAnchorMoveTheTails : Prop :=
  (∀ (p : Part) (q : List Instr) (old : List Rec) (r : Rec), p.sys.inReset = false →
     p.sys.mode = .active → p.log.table = old ++ [r] → (∀ x ∈ old, x.st = .reclaimed ∧ x.seq ≠ r.seq) →
     r.st = .settled → p.log.anchor.flight = none →
     let free := r.live = 0 ∧ r.readers = 0 ∧ ∀ h ∈ p.holdSeqs, r.seq ≤ h
     (¬ free → exec .reclaimAdvance ⟨p, q⟩ = .next ⟨p, q⟩) ∧
     (free → ∃ u w, exec .reclaimAdvance ⟨p, q⟩ = .next ⟨u, q⟩ ∧
       u.log.table = old ++ [{ r with st := .reclaimed }] ∧
       u.log.reclaim = (if p.log.reclaim + r.len = p.sys.layout.logLen then 0 else p.log.reclaim + r.len) ∧
       u.log.tail = p.log.tail ∧ u.log.occ = p.log.occ ∧ u.log.head = p.log.head ∧
       u.log.anchor = { p.log.anchor with flight := some w, dirty := false } ∧
       w.tail = u.log.reclaim ∧ w.tailSeq = p.log.nextSeq ∧ w.block = encodeAnchor u.anchorData ∧
       w.dir = p.pendingSettings ∧
       u = { p with
         log := u.log
         port.offers := p.port.offers ++ [{ cls := .a, work := .anchor, cmd := .write 0 1 }] })) ∧
  (∀ (p : Part) (q : List Instr) (k : Fin 32) (o : Offer) (w : AnchorWrite), p.sys.inReset = false →
     p.port.runs k o → o.work = .anchor → o.band = none → p.log.anchor.flight = some w →
     p.sys.mode = .active →
     let freed := ((p.log.table.filter fun r => decide (r.seq < w.tailSeq)).map (·.len)).sum
     (let occ := p.log.occ - freed
      let t := fun (quanta : Nat) => p.sys.layout.logLen * quanta / 256
      let x := freed * p.cfg.policy.paceQ + p.pace.rem
      let credited : Pace :=
        { level := p.pace.level, credit := min 65535 (p.pace.credit + x / 4), rem := x % 4 }
      let pace : Pace := match p.pace.level with
        | .normal => { p.pace with level := if occ < t p.cfg.policy.lowQ then .normal else .reclaim }
        | .reclaim => { p.pace with level := if occ < t p.cfg.policy.lowQ then .normal else .reclaim }
        | .pressure =>
          if occ < t p.cfg.policy.highQ - p.sys.layout.logLen / 32 then { level := .reclaim, credit := 0, rem := 0 }
          else credited
        | .full =>
          if occ < t p.cfg.policy.hardQ then { level := .pressure, credit := p.cfg.policy.burst, rem := 0 }
          else credited
      let win := if p.pace.level = .full ∧ occ < t p.cfg.policy.hardQ then
          p.win.raise .levelChange (some .log) none none (some occ) (some 2)
        else p.win
      p.cfg.policy.highQ ≤ p.cfg.policy.hardQ →
      (p.pace.level = .normal ∨ p.pace.level = .reclaim → occ < t p.cfg.policy.highQ) →
      (p.pace.level = .pressure → occ < t p.cfg.policy.hardQ) →
      ∃ u : Part, exec (.anchorWriteComplete k .good) ⟨p, q⟩ = .next ⟨u, q⟩ ∧
        u = { p with
          port := { p.port with
            slots := p.port.slots.set k none
            offers := p.port.offers ++ if p.log.anchor.dirty = true then
              [{ cls := .a, work := .anchor, cmd := .write 0 1 }] else [] }
          log := { p.log with
            tail := w.tail
            table := p.log.table.filter fun r => decide (w.tailSeq ≤ r.seq)
            occ := occ
            anchor := if p.log.anchor.dirty = true then
                { flight := some { tail := p.log.reclaim, tailSeq := u.log.reclaimSeq,
                                   block := encodeAnchor u.anchorData, dir := u.pendingSettings } }
              else {} }
          pace := pace
          win := if w.dir.isSome = true ∧ p.pendingSettings = w.dir then win.finish .done [] else win }) ∧
     (p.log.anchor.failures = 0 → ∀ code, code ≠ .good →
       ∃ v, exec (.anchorWriteComplete k code) ⟨p, q⟩ =
         .next ⟨{ p with
           port := { p.port with
             slots := p.port.slots.set k none
             offers := p.port.offers ++ [{ cls := .a, work := .anchor, cmd := .write 0 1 }] }
           log.anchor := { flight := some v, dirty := false, failures := 1 } }, q⟩ ∧
         v.tail = p.log.reclaim ∧ v.tailSeq = p.log.reclaimSeq ∧ v.block = encodeAnchor p.anchorData ∧
         v.dir = p.pendingSettings) ∧
     (p.log.anchor.failures ≠ 0 → ∀ code, code ≠ .good →
       (∃ u : Part, exec (.anchorWriteComplete k code) ⟨p, q⟩ = .next ⟨u, q⟩ ∧
         u.sys = { p.sys with mode := .degraded, halt := .none } ∧
         u.log.anchor = { p.log.anchor with flight := none, failures := 2 } ∧
         u.log.tail = p.log.tail ∧ u.log.occ = p.log.occ ∧ u.pendingSettings = none) ∧
       (p.quiet →
         let entered := p.win.raise .modeChange (some .mode) none none none (some 3)
         let failed := fun (x : Window) =>
           x.raise .anchorFail (some .drive) none none none (some (driveNum (finalCode code)))
         exec (.anchorWriteComplete k code) ⟨p, q⟩ =
           .next ⟨{ p with
             sys := { p.sys with mode := .degraded, halt := .none }
             port.slots := p.port.slots.set k none
             log.anchor := { p.log.anchor with flight := none, failures := 2 }
             win :=
               if p.pendingSettings = none then failed entered
               else if w.dir = p.pendingSettings then (failed entered).finish .failed []
               else failed (entered.finish .failed []) }, q⟩)))

/-! ### The band map (chapter 2) -/

/-- APPEND_ISSUE in ACTIVE takes the head of a band's append queue: with no write outstanding on its band and the
write pointer at its start, its write is offered to class D (R32); while a write is outstanding, or the head has been
issued, nothing changes. The write of the head of a band's append queue completes GOOD: the write pointer moves past it, the entry
leaves the queue and those behind it stay, and the command's part is done; the fill of the band's own logical band moves past it
too, and at fill D a FILLING band is FULL, and a MERGING one stays MERGING with FULL as the state it resumes; the fill of a
logical band that no longer maps the band does not move (R33). An error, with nothing
behind it: the part ends MEDIUM_ERROR, the band is SUSPECT at its fill, a query of its write pointer is offered,
BAND_SUSPECT is raised, and the band asks for an urgent merge (R34, R35, R73); a MERGING band stays MERGING, with SUSPECT as
the state it resumes, and asks for no merge (R92); an
entry behind it is re-placed as records at the head of the hold queue, which its command's parts then count (R12, R34, R137).
The failed write of a band that L no longer maps ends the parts of every entry for that band MEDIUM_ERROR and does nothing
else (R36). -/
def Obligations.AppendsAreIssuedInOrder : Prop :=
  (∀ (p : Part) (q : List Instr) (band : BitVec 32) (e : AppendEntry) (rest : List AppendEntry),
     p.sys.inReset = false → p.sys.mode = .active →
     let l := band.toNat
     l < p.bands.lbt.length → (p.bands.lband l).queue = e :: rest →
     ((p.bands.pband e.band).writeOut = true ∨ e.issued = true →
       exec (.appendIssue band) ⟨p, q⟩ = .next ⟨p, q⟩) ∧
     ((p.bands.pband e.band).writeOut = false → e.issued = false →
       (p.bands.pband e.band).wp = e.start →
       (∀ x ∈ rest, ¬ (x.band = e.band ∧ x.start = e.start)) →
       exec (.appendIssue band) ⟨p, q⟩ =
         .next ⟨{ p with
           bands.lbt := p.bands.lbt.modify l fun b => { b with queue := { e with issued := true } :: rest }
           port.offers := p.port.offers ++
             [{ cls := .d, work := .append l e.band e.start
                cmd := .write (p.sys.layout.conv + e.band * p.sys.layout.bandBlocks + e.start)
                  ((if e.allocate then 1 else 0) + e.gap + e.n)
                band := some (e.band, e.start) }] }, q⟩)) ∧
  (∀ (p : Part) (q : List Instr) (k : Fin 32) (o : Offer) (l : Nat) (e : AppendEntry) (rest : List AppendEntry),
     p.sys.inReset = false → p.port.runs k o → o.work = .append l e.band e.start →
     o.band = some (e.band, e.start) → l < p.bands.lbt.length → (p.bands.lband l).queue = e :: rest →
     let st := (p.bands.lband l).st
     let mapped := (p.bands.lband l).phys = some e.band
     let f := if e.allocate then e.off + e.n else (p.bands.lband l).f + (e.gap + e.n)
     let full := f = p.sys.layout.bandBlocks - 1
     ((∀ x ∈ rest, ¬ (x.band = e.band ∧ x.start = e.start)) → ¬ mapped ∨ st = .filling ∨ st = .merging →
       exec (.appendWriteComplete k .good) ⟨p, q⟩ =
         .next ⟨{ p with
           port.slots := p.port.slots.set k none
           bands.pool := p.bands.pool.modify e.band fun x =>
             { x with writeOut := false, wp := e.start + ((if e.allocate then 1 else 0) + e.gap + e.n) }
           bands.lbt := p.bands.lbt.modify l fun b => { b with
             queue := rest
             f := if mapped then f else b.f
             st := if mapped ∧ full ∧ st = .filling then .full else b.st
             resume := if mapped ∧ full ∧ st = .merging then some .full else b.resume }
           ini := (p.partFinal e.cid e.part .done).ini }, q⟩) ∧
     (∀ code, code ≠ .good → rest = [] → mapped →
       let failed : Part := { p with
         port := { p.port with
           slots := p.port.slots.set k none
           offers := p.port.offers ++
             [{ cls := .f, work := .refreshQuery e.band, cmd := .bandQuery e.band 1 }] }
         bands.pool := p.bands.pool.modify e.band fun x => { x with writeOut := false, refresh := true }
         ini := (p.partFinal e.cid e.part (.failed .mediumError)).ini
         win := p.win.raise .bandSuspect (some .drive) (some l) (some e.band) none none }
       (st = .filling → p.mrg.reqs = [] →
         exec (.appendWriteComplete k code) ⟨p, q⟩ =
           .next ⟨{ failed with
             bands.lbt := p.bands.lbt.modify l fun b => { b with queue := [], st := .suspect, pf := b.f }
             mrg.reqs := [{ band := l, urgent := true }] }, q⟩) ∧
       (st = .merging →
         exec (.appendWriteComplete k code) ⟨p, q⟩ =
           .next ⟨{ failed with
             bands.lbt := p.bands.lbt.modify l fun b =>
               { b with queue := [], resume := some .suspect, pf := b.f } }, q⟩))) ∧
  (∀ (p : Part) (q : List Instr) (k : Fin 32) (o : Offer) (l : Nat) (e : AppendEntry) (code : DriveCode),
     p.sys.inReset = false → p.port.runs k o → o.work = .append l e.band e.start →
     o.band = some (e.band, e.start) → l < p.bands.lbt.length → p.bands.entry l e.band e.start = some e →
     code ≠ .good →
     let b := p.bands.lband l
     let slots := p.port.slots.set k none
     (b.phys ≠ some e.band →
       exec (.appendWriteComplete k code) ⟨p, q⟩ =
         .next ⟨{ p with
           port.slots := slots
           bands.pool := p.bands.pool.modify e.band fun x => { x with writeOut := false }
           bands.lbt := p.bands.lbt.modify l fun b => { b with queue := b.queue.filter (·.band != e.band) }
           ini := ((b.queue.filter (·.band == e.band)).foldl
             (fun s x => s.partFinal x.cid x.part (.failed .mediumError)) p).ini }, q⟩) ∧
     (∀ (x : AppendEntry) (tag : Nat) (c : Cmd), b.phys = some e.band → b.st = .filling → b.queue = [e, x] →
       x.band = e.band → x.start ≠ e.start → p.mrg.reqs = [] → p.commandsSound → p.ini.at tag = some c →
       c.cid = x.cid → x.cid ≠ e.cid →
       let records := stagedEntries x.cid l x.off x.n c.parts.length x.first
       ∃ u : Part, exec (.appendWriteComplete k code) ⟨p, q⟩ = .next ⟨u, q⟩ ∧
         u.ini.hold = records ++ p.ini.hold ∧ u.ini.sent = p.ini.sent ∧
         u.ini.at tag = some { c with
           parts := c.parts.set x.part .replaced ++ List.replicate records.length .pending } ∧
         u.bands.lband l = { b with queue := [], st := .suspect, pf := b.f } ∧
         u.mrg.reqs = [{ band := l, urgent := true }] ∧
         u.port = { p.port with
           slots := slots
           offers := p.port.offers ++
             [{ cls := .f, work := .refreshQuery e.band, cmd := .bandQuery e.band 1 }] } ∧
         u.win = p.win.raise .bandSuspect (some .drive) (some l) (some e.band) none none))

/-- A BAND_QUERY completes: a refresh sets the band's write pointer to the value reported and clears its refresh
(R35, R119); an error offers it again without limit. The recovery query of a band write decides it (R122): at w = s it is
offered again with one more attempt, its band's write outstanding flag still set, ahead of its class (its order alone is
notes/assumptions/28.md); at w = s + n it is GOOD, an append of a mapped band moving the fill (R33), that of another only its
part (R36), a unit the write front and, the last, the COMMIT record (R97, R98); else it is failed, and an append leaves its
band SUSPECT (R34). An error of the recovery query offers it again, once, behind what waits (R122): it was not aborted (R121).
A query of mount records the write pointers of its bands, and the last begins the read of the anchor; an error offers it again
(R119, R183). -/
def Obligations.QueriesReportTheWritePointer : Prop :=
  ∀ (p : Part) (q : List Instr) (k : Fin 32) (o : Offer) (g : DriveGeo) (b w : Nat),
    p.sys.inReset = false → p.port.runs k o → o.band = none → p.sys.drive = some g → w ≤ g.bandBlocks →
    let slots := p.port.slots.set k none
    (o.work = .refreshQuery b →
      exec (.bandQueryComplete k .good [w]) ⟨p, q⟩ =
        .next ⟨{ p with
          port.slots := slots
          bands.pool := p.bands.pool.modify b fun x => { x with wp := w, refresh := false } }, q⟩ ∧
      ∀ code wps, code ≠ .good →
        exec (.bandQueryComplete k code wps) ⟨p, q⟩ =
          .next ⟨{ p with
            port := { p.port with
              slots := slots
              offers := p.port.offers ++
                [{ cls := .f, work := .refreshQuery b, cmd := .bandQuery b 1 }] } }, q⟩) ∧
    (∀ (x : Offer) (s a n : Nat), o.work = .recoveryQuery b → p.port.recovering = [{ offer := x }] →
      x.band = some (b, s) → x.cmd = .write a n → 0 < n →
      let decided := { p.port with slots := slots, recovering := [] }
      (w = s → p.sys.mode ≠ .degraded → (∀ y ∈ p.port.offers, y.recovered = false) →
        exec (.bandQueryComplete k .good [w]) ⟨p, q⟩ =
          .next ⟨{ p with
            bands.pool := p.bands.pool.modify b fun y => { y with wp := w }
            port := { decided with offers := { x with attempt := x.attempt + 1 } :: p.port.offers } }, q⟩) ∧
      (∀ (l : Nat) (e : AppendEntry), x.work = .append l b s → l < p.bands.lbt.length → e.band = b →
        e.start = s → n = (if e.allocate then 1 else 0) + e.gap + e.n →
        (p.bands.entry l b s = some e → (p.bands.lband l).phys ≠ some b → w = s + n →
          exec (.bandQueryComplete k .good [w]) ⟨p, q⟩ =
            .next ⟨{ p with
              port := decided
              bands.pool := p.bands.pool.modify b fun y => { y with wp := w, writeOut := false }
              bands.lbt := p.bands.lbt.modify l fun y => { y with
                queue := y.queue.filter fun z => !(z.band == b && z.start == s) }
              ini := (p.partFinal e.cid e.part .done).ini }, q⟩) ∧
        ((p.bands.lband l).queue = [e] → (p.bands.lband l).phys = some b → (p.bands.lband l).st = .filling →
          (let f := if e.allocate then e.off + e.n else (p.bands.lband l).f + (e.gap + e.n)
           w = s + n →
            exec (.bandQueryComplete k .good [w]) ⟨p, q⟩ =
              .next ⟨{ p with
                port := decided
                bands.pool := p.bands.pool.modify b fun y => { y with wp := w, writeOut := false }
                bands.lbt := p.bands.lbt.modify l fun y => { y with
                  queue := [], f := f, st := if f = p.sys.layout.bandBlocks - 1 then .full else .filling }
                ini := (p.partFinal e.cid e.part .done).ini }, q⟩) ∧
          (w ≠ s + n → w ≠ s ∨ p.sys.mode = .degraded → p.mrg.reqs = [] →
            exec (.bandQueryComplete k .good [w]) ⟨p, q⟩ =
              .next ⟨{ p with
                port := { decided with
                  offers := p.port.offers ++
                    [{ cls := .f, work := .refreshQuery b, cmd := .bandQuery b 1 }] }
                bands.pool := p.bands.pool.modify b fun y =>
                  { y with wp := w, writeOut := false, refresh := true }
                bands.lbt := p.bands.lbt.modify l fun y => { y with queue := [], st := .suspect, pf := y.f }
                ini := (p.partFinal e.cid e.part (.failed .mediumError)).ini
                mrg.reqs := [{ band := l, urgent := true }]
                win := p.win.raise .bandSuspect (some .drive) (some l) (some b) none none }, q⟩))) ∧
      (∀ code wps, code ≠ .good →
        exec (.bandQueryComplete k code wps) ⟨p, q⟩ =
          .next ⟨{ p with
            port := { p.port with
              slots := slots
              recovering := [{ offer := x, errors := 1 }]
              offers := p.port.offers ++
                [{ cls := .f, work := .recoveryQuery b, cmd := .bandQuery b 1, order := o.order,
                   standsIn := false }] } }, q⟩) ∧
      (∀ (i : Fin 2) (v : Nat), x.work = .targetUnit i v → p.mrg.ctxs.length = 2 → w = s + n →
        let c := p.mrg.ctx i
        let last := c.st = .copy ∧ w = 1 + c.newFill
        exec (.bandQueryComplete k .good [w]) ⟨p, q⟩ =
          .next ⟨{ p with
            port := decided
            bands.pool := p.bands.pool.modify b fun y => { y with wp := w, writeOut := false }
            log.waiting := if last then p.log.waiting ++ [.commit i] else p.log.waiting
            mrg.ctxs := p.mrg.ctxs.set i
              { c with
                unitOut := false, copied := w - 1
                ready := c.ready.filter fun r => decide (w - 1 ≤ r.1)
                st := if last then .commit else c.st } }, q⟩)) ∧
    (∀ (n : Nat) (wps : List Nat), o.work = .mountQuery b n → wps.length = n → (∀ x ∈ wps, x ≤ g.bandBlocks) →
      let known := p.mnt.wps.mapIdx fun i x => if b ≤ i ∧ i < b + n then some (wps.getD (i - b) 0) else x
      ((∀ x ∈ known, x ≠ none) →
        exec (.bandQueryComplete k .good wps) ⟨p, q⟩ =
          .next ⟨{ p with
            mnt := { p.mnt with wps := known, phase := .anchor }
            port := { p.port with
              slots := slots
              offers := p.port.offers ++ [{ cls := .b, work := .mountAnchor, cmd := .read 0 1 }] } }, q⟩) ∧
      ((∃ x ∈ known, x = none) →
        exec (.bandQueryComplete k .good wps) ⟨p, q⟩ =
          .next ⟨{ p with mnt.wps := known, port.slots := slots }, q⟩) ∧
      ∀ code any, code ≠ .good →
        exec (.bandQueryComplete k code any) ⟨p, q⟩ =
          .next ⟨{ p with
            port := { p.port with
              slots := slots
              offers := p.port.offers ++
                [{ cls := .f, work := .mountQuery b n, cmd := .bandQuery b n }] } }, q⟩)

/-- BAND_RESET_OFFER offers the reset of a RESET_PENDING band that no reader pins, no write or append entry
awaits and no reset of is issued, to class F, in ACTIVE alone (R40). Its completion takes the band off the
reset-pending list: GOOD frees it at wp 0, on the
free list even where a context waits for a band (R29 hands it over: notes/assumptions/12.md), ends the record that awaits it and its target hold (R41, R57, R58); an
error retires it with BAND_RETIRED (R41). The deadlock check follows (R108). -/
def Obligations.ResetBandsReturnToTheFreeList : Prop :=
  ∀ (p : Part) (q : List Instr) (k : Fin 32) (o : Offer) (b : Nat), p.sys.inReset = false →
    (p.bands.resetPend = [b] →
      let x := p.bands.pband b
      let ready := p.sys.mode = .active ∧ x.readers = 0 ∧ x.writeOut = false ∧ x.resetIssued = false ∧
        ∀ l ∈ p.bands.lbt, ∀ e ∈ l.queue, e.band ≠ b
      (¬ ready → exec .bandResetOffer ⟨p, q⟩ = .next ⟨p, q⟩) ∧
      (ready → exec .bandResetOffer ⟨p, q⟩ =
        .next ⟨{ p with
          bands.pool := p.bands.pool.modify b fun x => { x with resetIssued := true }
          port.offers := p.port.offers ++
            [{ cls := .f, work := .bandReset b, cmd := .bandReset b }] }, q⟩)) ∧
    (p.port.runs k o → o.work = .bandReset b → o.band = none →
      let slots := p.port.slots.set k none
      let pend := p.bands.resetPend.filter (· != b)
      exec (.bandResetComplete k .good) ⟨p, q⟩ =
        .next ⟨Part.deadlockCheck { p with
          port.slots := slots
          bands := { p.bands with
            resetPend := pend
            pool := p.bands.pool.modify b fun x => { x with resetIssued := false, st := .free, wp := 0 }
            free := p.bands.free ++ [b] }
          log := { p.log with
            table := p.log.table.map fun r =>
              if b ∈ r.awaited then { r with awaited := r.awaited.filter (· != b), live := r.live - 1 }
              else r
            holds := p.log.holds.filter fun h => h.1 != b } }, q⟩ ∧
      ∀ code, code ≠ .good → exec (.bandResetComplete k code) ⟨p, q⟩ =
        .next ⟨Part.deadlockCheck { p with
          port.slots := slots
          bands := { p.bands with
            resetPend := pend
            pool := p.bands.pool.modify b fun x => { x with resetIssued := false, st := .retired } }
          win := p.win.raise .bandRetired (some .drive) none (some b) none none }, q⟩)

/-! ### Merges (chapter 5) -/

/-- MERGE_START with one context allowed and idle asks the four sources in their order (R88). The list: its head, with no merge
running on its band and no refresh of it outstanding, leaves, and its band is taken, URGENT or, for a directive entry or a
CLEAN, DIRECTIVE (R84, R89, R92); one that has no extent and is not SUSPECT only leaves, and a CLEAN it answers is DONE (R89).
Index pressure: the band that is neither MERGING nor FAULTED and has the most extents, then the most staged blocks, then the
lowest number, unless its refresh is outstanding (R77, R91). The tail trigger, above NORMAL, passes over COMMITs and full
DISCARDs that are live and records of bands that are MERGING or refreshing; the next record's band is taken, or, where it is
FAULTED and the record is at the reclaim point, a carry-forward pass begins with its first 8 reads, which pin the record; a
record that is not settled or not live stops it (R62, R90; that 64 records are examined in all is notes/assumptions/52.md). A
drain takes the next band that has extents, passing over those that are MERGING and counting the FAULTED (R110); past the last
band it finishes. Taken, a band is MERGING with its state as the resume state, and the context waits for its appends (R92).
With no context free for a merge, or outside ACTIVE, nothing starts; and with both contexts waiting for a band at FULL, no band
free or to be reset, and a record held, the part enters DEGRADED (R108; that the check runs here is
notes/assumptions/13.md). -/
def Obligations.MergesStartOrTheDeadlockShows : Prop :=
  ∀ (p : Part) (q : List Instr), p.sys.inReset = false →
    let d := p.sys.layout.bandBlocks - 1
    let count := fun (l : Nat) => (p.idx.extents.filter fun e => e.start / d == l).length
    let staged := fun (l : Nat) =>
      ((p.idx.extents.filter fun e => e.start / d == l && e.kind == .data).map (·.len)).sum
    let st := fun (l : Nat) => (p.bands.lband l).st
    let refreshing := fun (l : Nat) =>
      st l = .suspect ∧ ∃ n, (p.bands.lband l).phys = some n ∧ (p.bands.pband n).refresh = true
    let calm := p.pace.level ≠ .full ∨ p.bands.resetPend ≠ [] ∨ p.bands.free ≠ [] ∨ p.ini.hold = []
    let start := exec .mergeStart ⟨p, q⟩
    let taken := fun (c : MergeCtx) (l : Nat) (o : MergeOrigin) (clean : Bool) (reqs : List MergeReq)
        (drain : Option Drain) =>
      (.next ⟨{ p with
        bands.lbt := p.bands.lbt.modify l fun b => { b with st := .merging, resume := some b.st }
        mrg := { p.mrg with
          reqs := reqs, drain := drain
          ctxs :=
            [{ st := .waitAppend, band := some l, origin := some o, resume := some (st l),
               old := (p.bands.lband l).phys, clean := clean }, c] } }, q⟩ : Host.Outcome State Fault Refusal)
    (p.sys.mode ≠ .active → start = .next ⟨p, q⟩) ∧
    (∀ c : MergeCtx, p.sys.mode = .active → p.cfg.policy.contexts = 1 → p.mrg.ctxs = [{}, c] → c.st = .idle →
      p.mrg.rescan = false →
      (∀ e rest, p.mrg.reqs = e :: rest → (∀ x ∈ rest, x.band ≠ e.band) → p.mrg.drain = none →
        e.band < p.bands.lbt.length → st e.band ≠ .merging → st e.band ≠ .faulted → ¬ refreshing e.band →
        (0 < count e.band ∨ st e.band = .suspect →
          start = taken c e.band (if e.urgent = true ∧ e.clean = false then .urgent else .directive) e.clean rest none) ∧
        (count e.band = 0 → st e.band ≠ .suspect → rest = [] → p.idx.pressure = false → p.pace.level = .normal →
          (e.clean = false → start = .next ⟨{ p with mrg.reqs := [] }, q⟩) ∧
          ∀ num, e.clean = true → p.win.dirPending = some { num := num, code := 7 } →
            start = .next ⟨{ p with mrg.reqs := [], win := p.win.finish .done (le 4 e.band) }, q⟩)) ∧
      (∀ l, p.mrg.reqs = [] → p.idx.pressure = true → p.mrg.drain = none → l < p.bands.lbt.length →
        0 < count l → st l ≠ .merging → st l ≠ .faulted →
        (∀ m, m < p.bands.lbt.length → m ≠ l → count m = 0 ∨ st m = .merging ∨ st m = .faulted ∨ count m < count l ∨
          count m = count l ∧ (staged m < staged l ∨ staged m = staged l ∧ l < m)) →
        (¬ refreshing l → start = taken c l .index false [] none) ∧
        (refreshing l → p.pace.level = .normal → start = .next ⟨p, q⟩)) ∧
      (∀ (old passed later : List Rec) (r : Rec), p.mrg.reqs = [] → p.idx.pressure = false → p.mrg.drain = none →
        p.pace.level ≠ .normal → p.log.table = old ++ passed ++ r :: later → (∀ x ∈ old, x.st = .reclaimed) →
        passed.length < 64 → (∀ x ∈ passed, x.st = .settled ∧ 0 < x.live ∧
          (x.kind = .commit ∨ x.kind = .discard ∧ x.full = true ∨
            ∃ m, x.band = some m ∧ (st m = .merging ∨ refreshing m))) →
        (r.st ≠ .reclaimed → r.st ≠ .settled ∨ r.live = 0 → calm → start = .next ⟨p, q⟩) ∧
        (∀ l, r.st = .settled → 0 < r.live → r.kind ≠ .commit → ¬ (r.kind = .discard ∧ r.full = true) →
          r.band = some l →
          (st l ≠ .merging → st l ≠ .faulted → ¬ refreshing l → start = taken c l .tail false [] none) ∧
          (st l = .faulted → passed ≠ [] → calm → start = .next ⟨p, q⟩) ∧
          (st l = .faulted → passed = [] → c.carry = none → (p.bands.lband l).unsettled = 0 → (∀ h ∈ p.ini.hold, h.band ≠ l) →
            let list := p.idx.extents.filter fun e =>
              decide (e.start < l * d + r.off + r.n ∧ l * d + r.off < e.start + e.len ∧ e.seq = r.seq)
            let data := list.filter (·.kind == .data)
            let n := min 8 data.length
            data ≠ [] →
            start = .next ⟨{ p with
              log.table := p.log.table.map fun x => if x.seq = r.seq then { x with readers := x.readers + n } else x
              port.offers := p.port.offers ++ (List.range n).map fun j =>
                { cls := .e, work := .carryRead 0 j
                  cmd := .read (8 + (data.map (·.lp)).getD j 0) ((data.map (·.len)).getD j 0)
                  pin := some (.record r.seq) }
              mrg.ctxs :=
                [{ st := .copy, band := some l, origin := some .tail
                   carry := some { seq := r.seq, list := list, issued := n, flight := List.range n } }, c] },
              q⟩))) ∧
      (∀ x : Drain, p.mrg.reqs = [] → p.idx.pressure = false → p.pace.level = .normal → p.mrg.drain = some x →
        c.origin ≠ some .drain →
        let failed := fun (l : Nat) => x.failed +
          ((List.range l).filter fun m => decide (x.cursor ≤ m ∧ 0 < count m ∧ st m = .faulted)).length
        let passes := fun (m : Nat) => count m = 0 ∨ st m = .merging ∨ st m = .faulted
        (∀ l, x.cursor ≤ l → l < p.sys.layout.logBands → (∀ m, x.cursor ≤ m → m < l → passes m) → ¬ passes l →
          (¬ refreshing l →
            start = taken c l .drain false [] (some { x with cursor := l + 1, failed := failed l })) ∧
          (refreshing l → start = .next ⟨{ p with
            mrg.drain := some { x with cursor := l, failed := failed l } }, q⟩)) ∧
        ((∀ m, x.cursor ≤ m → m < p.sys.layout.logBands → passes m) →
          ∀ num, p.win.dirPending = some { num := num, code := 8 } →
          let n := failed p.sys.layout.logBands
          start = .next ⟨{ p with
            mrg.drain := none
            win := p.win.finish (if x.stopped then .cancelled else if n = 0 then .done else .failed)
              (le 4 x.merged ++ le 4 n) }, q⟩))) ∧
    (p.sys.mode = .active → p.mrg.drain = none →
      (∀ c ∈ p.mrg.ctxs, c.st ≠ .idle) ∨ p.cfg.policy.contexts ≤ (p.mrg.ctxs.filter (·.st != .idle)).length →
      (calm ∨ (∃ c ∈ p.mrg.ctxs, c.st ≠ .idle ∧ c.st ≠ .waitBand) → start = .next ⟨p, q⟩) ∧
      (¬ calm → (∀ c ∈ p.mrg.ctxs, c.st = .idle ∨ c.st = .waitBand) →
        ∃ u : Part, start = .next ⟨u, q⟩ ∧ u.sys = { p.sys with mode := .degraded, halt := .none }))

/-- MERGE_SNAPSHOT, once the band's appends have drained: the context records the settled seq, the band's extents and
fill, and the new fill, and pins the records of those extents, ZERO ones too; with no data to move it writes its COMMIT
record, otherwise it takes the head of the free
list as its target and builds its chain, or waits for a band (R80, R93, R94, R95). Before that nothing changes.
A context waits also for a band that another waiting context
is owed, and bands are handed over by a row of their own (notes/assumptions/12.md). TARGET_BAND_HANDED gives the head of the free list to the context that has waited longest, which enters COPY with its
chain; the band is its TARGET at wp 0, the target hold names it, and CAPACITY is set pending where 2 bands or fewer are left
(R28, R29, R58, R94, R173). -/
def Obligations.SnapshotsAndFreedBandsStartTheCopy : Prop :=
  (∀ (p : Part) (q : List Instr) (i : Fin 2) (l : Nat), p.sys.inReset = false →
     p.mrg.ctxs.length = 2 →
     let c := p.mrg.ctx i
     c.band = some l → c.st = .waitAppend →
     let d := p.sys.layout.bandBlocks - 1
     let es := p.idx.extents.filter fun e => e.start / d == l
     let f := (p.bands.lband l).f
     let drained := (p.bands.lband l).queue = [] ∧ ∀ ph, c.old = some ph → (p.bands.pband ph).writeOut = false
     (¬ drained → exec (.mergeSnapshot i) ⟨p, q⟩ = .next ⟨p, q⟩) ∧
     (drained → max f (dataTop d l es) = 0 →
       exec (.mergeSnapshot i) ⟨p, q⟩ =
         .next ⟨{ p with
           mrg.ctxs := p.mrg.ctxs.set i
             { c with snapSeq := some p.log.settled, snap := es, pins := (es.map (·.seq)).eraseDups, fill := 0,
                      newFill := 0, st := .commit }
           log := { p.log with
             table := p.log.table.map fun r =>
               if es.any (·.seq == r.seq) then { r with readers := r.readers + 1 } else r
             waiting := p.log.waiting ++ [.commit i] } }, q⟩) ∧
     (drained → 0 < max f (dataTop d l es) → ∃ u : Part,
       exec (.mergeSnapshot i) ⟨p, q⟩ = .next ⟨u, q⟩ ∧
       (∀ r ∈ p.log.table, (∃ e ∈ es, e.seq = r.seq) → { r with readers := r.readers + 1 } ∈ u.log.table) ∧
       (u.mrg.ctx i).snapSeq = some p.log.settled ∧ (u.mrg.ctx i).snap = es ∧
       (u.mrg.ctx i).fill = f ∧ (u.mrg.ctx i).newFill = max f (dataTop d l es) ∧
       (p.bands.free.length ≤ p.mrg.waitBand.length →
         (u.mrg.ctx i).st = .waitBand ∧ u.mrg.waitBand = p.mrg.waitBand ++ [i.val] ∧
         u.bands = p.bands) ∧
       (∀ ph rest, p.mrg.waitBand = [] → p.bands.free = ph :: rest → ph ∉ rest →
         (u.mrg.ctx i).st = .copy ∧ (u.mrg.ctx i).target = some ph ∧
         (u.mrg.ctx i).chain = chainFrom (l * d) f (max f (dataTop d l es)) 0 es ∧
         u.bands.free = rest ∧ u.log.holds = p.log.holds ++ [(ph, p.log.settled)] ∧
         u.bands.pool = p.bands.pool.modify ph fun b => { b with st := .target, owner := some l, wp := 0 }))) ∧
  (∀ (p : Part) (q : List Instr), p.sys.inReset = false →
     (p.mrg.waitBand = [] ∨ p.bands.free = [] → exec .targetBandHanded ⟨p, q⟩ = .next ⟨p, q⟩) ∧
     (∀ i ws ph rest l, p.mrg.waitBand = i :: ws → p.bands.free = ph :: rest → ph ∉ rest →
       (p.mrg.ctx i).band = some l →
       let c := p.mrg.ctx i
       exec .targetBandHanded ⟨p, q⟩ =
         .next ⟨{ p with
           win.pending := if rest.length ≤ 2 then p.win.pending ||| 0x20#8 else p.win.pending
           bands := { p.bands with
             free := rest
             pool := p.bands.pool.modify ph fun b => { b with st := .target, owner := some l, wp := 0 } }
           log.holds := p.log.holds ++ [(ph, c.snapSeq.getD 0)]
           mrg := { p.mrg with
             waitBand := ws
             ctxs := p.mrg.ctxs.modify i fun c =>
               { c with
                 st := .copy, target := some ph
                 chain := chainFrom (l * (p.sys.layout.bandBlocks - 1)) c.fill c.newFill 0 c.snap } } }, q⟩))

/-- MERGE_READ_ISSUE offers the next read of the chain to class E, its source pinned (the band, or for a LOG step the record,
whose blocks lie at its log position), while fewer than 8 are in flight and the blocks fit the 1,024 merge frames; else nothing changes (R84, R96). Its GOOD completion releases the pin and
holds the blocks by offset for the target's units (R96); an error makes the band FAULTED, with MERGE_ABANDONED and
then BAND_FAULTED, as section 10.6 numbers them (R105, R172). -/
def Obligations.MergeReadsFillTheFrames : Prop :=
  ∀ (p : Part) (q : List Instr) (i : Fin 2), p.sys.inReset = false → p.mrg.ctxs.length = 2 →
    let c := p.mrg.ctx i
    c.st = .copy → c.carry = none →
    let pool := fun (pin : Pin) (f : Nat → Nat) => match pin with
      | .band ph => p.bands.pool.modify ph fun b => { b with readers := f b.readers }
      | .record _ => p.bands.pool
    let table := fun (pin : Pin) (f : Nat → Nat) => match pin with
      | .record seq => p.log.table.map fun r => if r.seq = seq then { r with readers := f r.readers } else r
      | .band _ => p.log.table
    (∀ m : MoveStep, ∀ lp seq, c.chain = [m] → m.src = .log lp seq →
      c.chainReads p.sys.layout = [{ off := m.off, n := m.n, abs := 8 + lp, pin := .record seq }]) ∧
    (∀ r : ChainRead, (c.chainReads p.sys.layout)[c.front]? = some r →
      (8 ≤ c.reads.length ∨ 1024 < c.framesUsed + r.n →
        exec (.mergeReadIssue i) ⟨p, q⟩ = .next ⟨p, q⟩) ∧
      (c.reads.length < 8 → c.framesUsed + r.n ≤ 1024 →
        exec (.mergeReadIssue i) ⟨p, q⟩ =
          .next ⟨{ p with
            bands.pool := pool r.pin (· + 1), log.table := table r.pin (· + 1)
            mrg.ctxs := p.mrg.ctxs.set i { c with front := c.front + 1, reads := c.reads ++ [(r.off, r.n)] }
            port.offers := p.port.offers ++
              [{ cls := .e, work := .mergeRead i r.off r.n, cmd := .read r.abs r.n,
                 pin := some r.pin }] }, q⟩)) ∧
    (∀ (k : Fin 32) (o : Offer) (off n : Nat) (pin : Pin) (blocks : List Block), p.port.runs k o →
      o.work = .mergeRead i off n → o.band = none → o.pin = some pin →
      exec (.mergeReadComplete k .good blocks) ⟨p, q⟩ =
        .next ⟨{ p with
          port.slots := p.port.slots.set k none
          bands.pool := pool pin (· - 1), log.table := table pin (· - 1)
          mrg.ctxs := p.mrg.ctxs.set i
            { c with
              reads := c.reads.filter fun r => r.1 != off
              ready := c.ready ++ numbered off (fitBlocks n blocks) } }, q⟩ ∧
      ∀ code l, code ≠ .good → c.band = some l → l < p.bands.lbt.length → ∃ u : Part,
        exec (.mergeReadComplete k code blocks) ⟨p, q⟩ = .next ⟨u, q⟩ ∧
        (u.mrg.ctx i).st = .release ∧ (u.bands.lband l).st = .faulted ∧
        (u.bands.lband l).phys = (p.bands.lband l).phys ∧
        (c.clean = false → (∀ x ∈ p.mrg.reqs, x.band ≠ l) →
          u.win = (p.win.raise .mergeAbandoned (some .drive) (some l) c.target (some c.copied)
            (some (driveNum (finalCode code)))).raise .bandFaulted (some .drive) (some l) none none none))

/-- TARGET_UNIT_OFFER offers the unit at the target's write pointer to class E once every block of it is ready and
none of its writes is outstanding (R97). A GOOD completion moves the write pointer and the write front and frees the
blocks; the last unit writes the COMMIT record (R97, R98). An error abandons the merge (R104): the target is to be
reset, the context is in RELEASE without its snapshot pins, the band's merge failures rise, to 3 at most
(notes/assumptions/47.md), and it goes back to its resume state and is asked for again, or at 3 is FAULTED;
MERGE_ABANDONED carries the code, ahead of BAND_FAULTED (notes/assumptions/20.md), and a drain counts the band as
failed. -/
def Obligations.TargetUnitsAreWrittenInOrder : Prop :=
  ∀ (p : Part) (q : List Instr) (i : Fin 2) (ph : Nat), p.sys.inReset = false →
    p.mrg.ctxs.length = 2 →
    let c := p.mrg.ctx i
    c.st = .copy → c.target = some ph →
    (∀ u, (p.bands.pband ph).wp = 256 * u →
      let ready := c.unitOut = false ∧ 0 < c.unitLen u ∧
        ∀ k, k < c.unitLen u → c.blockReady (256 * u + k) = true
      (¬ ready → exec (.targetUnitOffer i) ⟨p, q⟩ = .next ⟨p, q⟩) ∧
      (ready → exec (.targetUnitOffer i) ⟨p, q⟩ =
        .next ⟨{ p with
          mrg.ctxs := p.mrg.ctxs.set i { c with unitOut := true }
          port.offers := p.port.offers ++
            [{ cls := .e, work := .targetUnit i u
               cmd := .write (p.sys.layout.conv + ph * p.sys.layout.bandBlocks + 256 * u) (c.unitLen u)
               band := some (ph, 256 * u) }] }, q⟩)) ∧
    (∀ (k : Fin 32) (o : Offer) (u a n : Nat), p.port.runs k o → o.work = .targetUnit i u →
      o.band = some (ph, 256 * u) → o.cmd = .write a n →
      let wp := 256 * u + n
      let last := wp = 1 + c.newFill
      exec (.targetUnitComplete k .good) ⟨p, q⟩ =
        .next ⟨{ p with
          port.slots := p.port.slots.set k none
          bands.pool := p.bands.pool.modify ph fun b => { b with writeOut := false, wp := wp }
          log.waiting := if last then p.log.waiting ++ [.commit i] else p.log.waiting
          mrg.ctxs := p.mrg.ctxs.set i
            { c with
              unitOut := false, copied := wp - 1
              ready := c.ready.filter fun r => decide (wp - 1 ≤ r.1)
              st := if last then .commit else .copy } }, q⟩ ∧
      ∀ code l, code ≠ .good → c.band = some l → l < p.bands.lbt.length → ph < p.bands.pool.length →
        (p.bands.lband l).resume.isSome = true → p.mrg.reqs = [] → c.clean = false →
        let fails := min 3 ((p.bands.lband l).failures + 1)
        let abandoned := p.win.raise .mergeAbandoned (some .drive) (some l) (some ph) (some c.copied)
          (some (driveNum (finalCode code)))
        ∃ v : Part, exec (.targetUnitComplete k code) ⟨p, q⟩ = .next ⟨v, q⟩ ∧
          v.bands.lband l = { p.bands.lband l with
            failures := fails, resume := none
            st := if fails < 3 then (p.bands.lband l).resume.getD .empty else .faulted } ∧
          ph ∈ v.bands.resetPend ∧ (v.bands.pband ph).st = .resetPending ∧
          (v.bands.pband ph).owner = none ∧ (v.bands.pband ph).writeOut = false ∧
          (v.mrg.ctx i).st = .release ∧ (v.mrg.ctx i).unitOut = false ∧ (v.mrg.ctx i).pins = [] ∧
          v.mrg.reqs = (if fails < 3 then [{ band := l, urgent := true }] else []) ∧
          v.mrg.drain =
            (if c.origin = some .drain then p.mrg.drain.map fun x => { x with failed := x.failed + 1 }
             else p.mrg.drain) ∧
          v.win =
            (if fails < 3 then abandoned
             else abandoned.raise .bandFaulted (some .drive) (some l) none none none) ∧
          v.port.slots = p.port.slots.set k none ∧ v.log.occ = p.log.occ ∧ v.idx = p.idx ∧ v.ini = p.ini ∧
          v.sys = p.sys ∧ v.cfg = p.cfg ∧ v.ret = p.ret ∧ v.ref = p.ref)

/-- CONTEXT_IDLE: a context in RELEASE with no read and no unit outstanding becomes IDLE (R100), and the start
test and the deadlock check run (R85, R88, R108, sections 5.1, 5.2 and 5.8; notes/assumptions/13.md and
notes/assumptions/14.md); until then nothing changes. A carry-forward read that completes in RELEASE, whatever its code, unpins its record and is no
longer in flight (R64). A carry-forward read that fails ends its pass: the record is unpinned, the
context enters RELEASE, MERGE_ABANDONED is raised with DRIVE, and the failure is noted against the record (R62,
R64), or, at the second failure in a row on one record, the part enters DEGRADED, MODE_CHANGE behind MERGE_ABANDONED
(notes/assumptions/20.md). A GOOD one keeps its blocks, and where DATA extents of the pass are still to be read, as many further
reads are offered to class E as bring 8 in flight or as there are, in list order, each pinning the record (R62); with others in
flight and none left to offer nothing more happens; at the last the pass is checked: where the band
has no unsettled record and every listed extent is still there, its records wait for positions, and the context is in COMMIT
(R62, R63; notes/assumptions/50.md); else the context is IDLE, and nothing is written or counted (R62). That MERGE_ABANDONED
of a pass that fails at a read has the count 0 is the model's choice (notes/assumptions/49.md). -/
def Obligations.ContextsEndAndCarryForwardReads : Prop :=
  ∀ (p : Part) (q : List Instr) (i : Fin 2), p.sys.inReset = false → p.mrg.ctxs.length = 2 →
    let c := p.mrg.ctx i
    (c.st ≠ .release ∨ c.reads ≠ [] ∨ c.unitOut = true ∨ (∃ x, c.carry = some x ∧ x.flight ≠ []) →
      exec (.contextIdle i) ⟨p, q⟩ = .next ⟨p, q⟩) ∧
    (c.st = .release → c.reads = [] → c.unitOut = false → (∀ x, c.carry = some x → x.flight = []) →
      p.mrg.drain = none →
      exec (.contextIdle i) ⟨p, q⟩ =
        .next ⟨({ p with mrg.ctxs := p.mrg.ctxs.set i {} } : Part).deadlockCheck, q⟩) ∧
    (∀ (k : Fin 32) (o : Offer) (x : CarryPass) (j : Nat) (blocks : List Block), p.port.runs k o →
      o.work = .carryRead i j → o.band = none → o.pin = some (.record x.seq) → c.carry = some x →
      let table := p.log.table.map fun r => if r.seq = x.seq then { r with readers := r.readers - 1 } else r
      let y := { x with flight := x.flight.filter (· != j) }
      (∀ code, c.st = .release →
        exec (.carryForwardReadComplete k code blocks) ⟨p, q⟩ =
          .next ⟨{ p with
            port.slots := p.port.slots.set k none
            log.table := table
            mrg.ctxs := p.mrg.ctxs.set i { c with carry := some y } }, q⟩) ∧
      (c.st = .copy →
        (∀ code, code ≠ .good → p.log.carryFail ≠ some x.seq →
          exec (.carryForwardReadComplete k code blocks) ⟨p, q⟩ =
            .next ⟨{ p with
              port.slots := p.port.slots.set k none
              log.table := table
              log.carryFail := some x.seq
              mrg.ctxs := p.mrg.ctxs.set i { c with st := .release, carry := some y }
              win := p.win.raise .mergeAbandoned (some .drive) c.band none (some 0)
                (some (driveNum (finalCode code))) }, q⟩) ∧
        (∀ code, code ≠ .good → p.log.carryFail = some x.seq → p.sys.mode = .active →
          (∃ u : Part, exec (.carryForwardReadComplete k code blocks) ⟨p, q⟩ = .next ⟨u, q⟩ ∧
            u.sys = { p.sys with mode := .degraded, halt := .none } ∧ u.log.carryFail = some x.seq ∧
            (u.mrg.ctx i).st = .release) ∧
          (({ p with mrg.ctxs := p.mrg.ctxs.set i { c with st := .release, carry := some y } } : Part).quiet →
            p.pendingSettings = none →
            exec (.carryForwardReadComplete k code blocks) ⟨p, q⟩ =
              .next ⟨{ p with
                sys := { p.sys with mode := .degraded, halt := .none }
                port.slots := p.port.slots.set k none
                log.table := table
                mrg.ctxs := p.mrg.ctxs.set i { c with st := .release, carry := some y }
                win := (p.win.raise .mergeAbandoned (some .drive) c.band none (some 0)
                  (some (driveNum (finalCode code)))).raise .modeChange (some .mode) none none none (some 3) }, q⟩)) ∧
        (∀ e l, x.dataList[j]? = some e → x.issued = x.dataList.length → y.flight = [] →
          x.got.length + 1 = x.dataList.length → c.band = some l →
          let there := (p.bands.lband l).unsettled = 0 ∧ ∀ z ∈ x.list, z ∈ p.idx.extents
          (there →
            exec (.carryForwardReadComplete k .good blocks) ⟨p, q⟩ =
              .next ⟨{ p with
                port.slots := p.port.slots.set k none
                log := { p.log with table := table, waiting := p.log.waiting ++ [.carry i] }
                mrg.ctxs := p.mrg.ctxs.set i
                  { c with
                    st := .commit
                    carry := some { y with
                      got := x.got ++ [(j, fitBlocks e.len blocks)]
                      blocksRead := x.blocksRead + e.len } } }, q⟩) ∧
          (¬ there →
            exec (.carryForwardReadComplete k .good blocks) ⟨p, q⟩ =
              .next ⟨{ p with
                port.slots := p.port.slots.set k none
                log.table := table
                mrg.ctxs := p.mrg.ctxs.set i {} }, q⟩)) ∧
        (∀ e, x.dataList[j]? = some e → x.issued = x.dataList.length → y.flight ≠ [] →
          exec (.carryForwardReadComplete k .good blocks) ⟨p, q⟩ =
            .next ⟨{ p with
              port.slots := p.port.slots.set k none
              log.table := table
              mrg.ctxs := p.mrg.ctxs.set i
                { c with carry := some { y with
                    got := x.got ++ [(j, fitBlocks e.len blocks)]
                    blocksRead := x.blocksRead + e.len } } }, q⟩) ∧
        (∀ e, x.dataList[j]? = some e → x.issued < x.dataList.length → y.flight.length < 8 →
          let more := (x.dataList.drop x.issued).take (8 - y.flight.length)
          exec (.carryForwardReadComplete k .good blocks) ⟨p, q⟩ =
            .next ⟨{ p with
              port := { p.port with
                slots := p.port.slots.set k none
                offers := p.port.offers ++ more.mapIdx fun n z =>
                  { cls := .e, work := .carryRead i (x.issued + n), cmd := .read (8 + z.lp) z.len
                    pin := some (.record x.seq) } }
              log.table := p.log.table.map fun r =>
                if r.seq = x.seq then { r with readers := r.readers - 1 + more.length } else r
              mrg.ctxs := p.mrg.ctxs.set i
                { c with carry := some { y with
                    issued := x.issued + more.length
                    flight := y.flight ++ List.range' x.issued more.length
                    got := x.got ++ [(j, fitBlocks e.len blocks)]
                    blocksRead := x.blocksRead + e.len } } }, q⟩)))

/-! ### The drive port (chapter 6) -/

/-- DRIVE_GRANT. An offer of class A or E takes the lowest free reserved slot, else the lowest free general slot; another
class takes the lowest free general slot or waits (R113, R114). Where one slot is left for two offers, the first in the class
order of the level has it, and within a class the earlier offer (R115). With every slot free a read of class B takes slot 0 and
one of class E slot 28, in that order at NORMAL. With the link DOWN
nothing is granted; in DEGRADED a write is not (R115); a band write whose band has a write outstanding is passed
over, and the next offer is considered, unless a link reset made it wait again (R116, R122), and one that does not start at
the write pointer gets ALIGN_ERROR
without reaching the drive (R116): a unit of a running merge ends as on the drive's own code (R104), an append leaves its band
SUSPECT, its refresh query granted in the same step (R34, R35). A forwarded command with data-out goes with its blocks
(R144). What a write of the part holds: a record's, its header alone, or a DATA record's header and its n data blocks in
offset order, which stand in the frames of its command, or, for a record of carry-forward, are the blocks its read gave
(R43, R48, R63); the rewrite of a failed record, the header of a VOID record in its place (R53); an append's, the band header
of an ALLOCATE, the zeros of the gap, and the command's blocks (R9, R10). `recordHeader` and `bandHeader` are laid out as
`BandAndRecordHeadersAreLaidOut` says. -/
def Obligations.GrantsFollowTheClassOrder : Prop :=
  ∀ (p : Part) (q : List Instr) (x y : Offer), p.sys.inReset = false →
    (p.port.linkUp = false → exec .driveGrant ⟨p, q⟩ = .next ⟨p, q⟩) ∧
    (p.port.linkUp = true → p.port.slots.length = 32 →
      let high := p.pace.level = .pressure ∨ p.pace.level = .full
      let order : List ArbClass := if high then [.a, .e, .b, .c, .d, .f] else [.a, .b, .c, .d, .e, .f]
      let slotFor := fun (cl : ArbClass) =>
        (if cl = .a ∨ cl = .e then [28, 29, 30, 31] ++ List.range 28 else List.range 28).find? fun k =>
          decide (p.port.slots.getD k none = none)
      let held := fun (o : Offer) =>
        o.cmd.modifies = true ∧ (p.sys.mode = .degraded ∨ p.sys.mode = .halted) ∨
        o.attempt ≤ 1 ∧ ∃ b s, o.band = some (b, s) ∧ (p.bands.pband b).writeOut = true
      let ready := fun (o : Offer) => ¬ held o ∧ ∀ b s, o.band = some (b, s) → (p.bands.pband b).wp = s
      let granted := fun (o : Offer) (k : Nat) (left : List Offer) =>
        (.next ⟨{ p with
          bands.pool := (match o.band with
            | some b => p.bands.pool.modify b.1 fun z => { z with writeOut := true }
            | none => p.bands.pool)
          port := { p.port with
            offers := left
            slots := p.port.slots.set k (some
              { offer := { o with order := if o.order = 0 then p.port.nextOrder else o.order } })
            nextOrder := if o.order = 0 then p.port.nextOrder + 1 else p.port.nextOrder
            sent := p.port.sent ++ [{ slot := k, cmd := o.cmd, blocks := p.writeContent o }] } }, q⟩ :
          Host.Outcome State Fault Refusal)
      let runs := exec .driveGrant ⟨p, q⟩
      (p.port.offers = [x] → ready x →
        (slotFor x.cls = none → runs = .next ⟨p, q⟩) ∧
        ∀ k, slotFor x.cls = some k → runs = granted x k []) ∧
      (∀ k, p.port.offers = [x, y] → ready x → ready y → slotFor x.cls = some k → slotFor y.cls = some k →
        (∀ j, j < 32 → j ≠ k → p.port.slots.getD j none ≠ none) →
        runs = if order.idxOf x.cls ≤ order.idxOf y.cls then granted x k [y] else granted y k [x]) ∧
      (∀ k, p.port.offers = [x, y] ∨ p.port.offers = [y, x] → held x → ready y → slotFor y.cls = some k →
        runs = granted y k [x]) ∧
      (p.port.offers = [x] → ¬ held x → ∀ (k : Fin 32) (b s : Nat), slotFor x.cls = some k.val →
        x.band = some (b, s) → (p.bands.pband b).writeOut = false → (p.bands.pband b).wp ≠ s →
        (∀ i u a n, x.work = .targetUnit i u → x.cmd = .write a n →
          runs = exec (.targetUnitComplete k .alignError)
            ⟨{ p with port := { p.port with
              offers := [], slots := p.port.slots.set k (some { offer := x }) } }, q⟩) ∧
        (∀ (l : Nat) (e : AppendEntry), x.work = .append l b s → x.cls = .d → e.band = b → e.start = s →
          l < p.bands.lbt.length → (p.bands.lband l).queue = [e] → (p.bands.lband l).phys = some b →
          (p.bands.lband l).st = .filling → p.mrg.reqs = [] →
          runs = .next ⟨{ p with
            bands.pool := p.bands.pool.modify b fun z => { z with refresh := true }
            bands.lbt := p.bands.lbt.modify l fun z => { z with queue := [], st := .suspect, pf := z.f }
            ini := (p.partFinal e.cid e.part (.failed .mediumError)).ini
            mrg.reqs := [{ band := l, urgent := true }]
            win := p.win.raise .bandSuspect (some .drive) (some l) (some b) none none
            port := { p.port with
              offers := []
              slots := p.port.slots.set k (some { offer :=
                { cls := .f, work := .refreshQuery b, cmd := .bandQuery b 1, order := p.port.nextOrder } })
              nextOrder := p.port.nextOrder + 1
              sent := p.port.sent ++ [{ slot := k, cmd := .bandQuery b 1, blocks := [] }] } }, q⟩))) ∧
    (∀ a m a' m', p.port.linkUp = true → p.port.slots = List.replicate 32 none → x.cls = .b → y.cls = .e →
      x.cmd = .read a m → y.cmd = .read a' m' → x.band = none → y.band = none → x.order = 0 → y.order = 0 →
      p.port.nextOrder ≠ 0 → (∃ c i, x.work = .fgRead c i) → (∃ c i n, y.work = .mergeRead c i n) →
      (p.port.offers = [x, y] ∨ p.port.offers = [y, x]) →
      let n := p.port.nextOrder
      let run := fun (ox oy : Nat) (sent : List DriveOut) =>
        (.next ⟨{ p with port := { p.port with
          offers := []
          slots := (p.port.slots.set 0 (some { offer := { x with order := ox } })).set 28
            (some { offer := { y with order := oy } })
          nextOrder := n + 2
          sent := p.port.sent ++ sent } }, q⟩ : Host.Outcome State Fault Refusal)
      let sx : DriveOut := { slot := 0, cmd := x.cmd, blocks := [] }
      let sy : DriveOut := { slot := 28, cmd := y.cmd, blocks := [] }
      exec .driveGrant ⟨p, q⟩ =
        if p.pace.level = .pressure ∨ p.pace.level = .full then run (n + 1) n [sy, sx]
        else run n (n + 1) [sx, sy]) ∧
    (p.port.offers = [x] →
      ((p.sys.mode = .degraded ∨ p.sys.mode = .halted) ∧ x.cmd.modifies = true ∨
        x.attempt ≤ 1 ∧ (∃ b s, x.band = some (b, s) ∧ (p.bands.pband b).writeOut = true) →
        exec .driveGrant ⟨p, q⟩ = .next ⟨p, q⟩) ∧
      (∀ b s i u a n, p.port.linkUp = true → p.port.slots = List.replicate 32 none →
        p.sys.mode = .active → x.cls = .e → x.band = some (b, s) → x.cmd = .write a n →
        x.work = .targetUnit i u → (p.bands.pband b).writeOut = false ∨ 1 < x.attempt →
        (p.mrg.ctx i).st = .release →
        ((p.bands.pband b).wp ≠ s →
          exec .driveGrant ⟨p, q⟩ =
            .next ⟨{ p with
              port.offers := []
              mrg.ctxs := p.mrg.ctxs.modify i fun c =>
                { c with
                  unitOut := false
                  ready := c.ready.filter fun r => decide (s + n - 1 ≤ r.1) } }, q⟩) ∧
        ((p.bands.pband b).wp = s → x.order = 0 → 0 < p.port.nextOrder →
          exec .driveGrant ⟨p, q⟩ =
            .next ⟨{ p with
              bands.pool := p.bands.pool.modify b fun z => { z with writeOut := true }
              port := { p.port with
                offers := []
                slots := p.port.slots.set 28 (some { offer := { x with order := p.port.nextOrder } })
                nextOrder := p.port.nextOrder + 1
                sent := p.port.sent ++
                  [{ slot := 28, cmd := x.cmd, blocks := (p.mrg.ctx i).unitBlocks u }] } }, q⟩)) ∧
      (∀ (tag : Nat) (c : Cmd), p.port.linkUp = true → p.port.slots = List.replicate 32 none → p.commandsSound →
        p.sys.mode ≠ .degraded → p.sys.mode ≠ .halted →
        p.ini.at tag = some c → x.cls = .b → x.band = none → x.work = .forwarded c.cid →
        x.cmd = .forwarded c.opcode c.params c.dir c.count → x.order = 0 → 0 < p.port.nextOrder →
        exec .driveGrant ⟨p, q⟩ =
          .next ⟨{ p with port := { p.port with
            offers := []
            slots := p.port.slots.set 0 (some { offer := { x with order := p.port.nextOrder } })
            nextOrder := p.port.nextOrder + 1
            sent := p.port.sent ++
              [{ slot := 0, cmd := x.cmd
                 blocks := if c.dir = .dataOut then fitBlocks c.count c.data else [] }] } }, q⟩)) ∧
    (∀ (s : Nat) (r : Rec), p.log.find s = some r →
      (x.work = .voidRewrite s → p.writeContent x = [recordHeader { r with kind := .void } []]) ∧
      (x.work = .record s → r.kind ≠ .data → p.writeContent x = [recordHeader r []]) ∧
      (∀ (tag k : Nat) (c : Cmd), x.work = .record s → r.kind = .data → p.commandsSound →
        p.ini.at tag = some c → r.origin = .cmd c.cid k → (∀ b ∈ c.data, toBlock b = b) →
        r.first + r.n ≤ c.data.length →
        let data := (c.data.drop r.first).take r.n
        p.writeContent x = recordHeader r data :: data) ∧
      (∀ (i : Nat) (z : CarryPass) (e : Extent) (before after : List Extent) (data : List Block),
        x.work = .record s → r.kind = .data → r.origin = .carry i → (p.mrg.ctx i).carry = some z →
        z.dataList = before ++ e :: after → (∀ w ∈ before, w.start ≠ e.start) →
        r.carries = some (z.seq, e.start) → z.got.find? (·.1 == before.length) = some (before.length, data) →
        data.length = r.n → (∀ b ∈ data, toBlock b = b) →
        p.writeContent x = recordHeader r data :: data)) ∧
    (∀ (tag l b s : Nat) (e : AppendEntry) (c : Cmd), x.work = .append l b s → p.bands.entry l b s = some e →
      p.commandsSound → p.ini.at tag = some c → c.cid = e.cid → (∀ y ∈ c.data, toBlock y = y) →
      e.first + e.n ≤ c.data.length →
      p.writeContent x = (if e.allocate = true then [bandHeader l e.base false] else []) ++
        List.replicate e.gap [] ++ (c.data.drop e.first).take e.n)

/-- A completion that names a free slot, or comes for a command to be discarded, reaches no owner (R117, R126): the first
changes nothing, and the second frees its slot alone. A forwarded command: its data-in reaches the initiator as it arrives,
unless its command has been dropped; its final code ends its one part by the table of R118. The read of a READ of one segment
completes: GOOD sends its blocks and makes the segment final; an error makes it final with MEDIUM_ERROR as the command's first
failure, with a DRIVE_LINK event for a code other than MEDIUM_ERROR; the pin is released either way (R20, R117, R118, R137,
R139). -/
def Obligations.CompletionsReachTheInitiator : Prop :=
  (∀ (p : Part) (q : List Instr) (k : Fin 32) (code : DriveCode), p.sys.inReset = false →
     exec (.driveStaleCompletion k code) ⟨p, q⟩ = .next ⟨p, q⟩ ∧
     ∀ (bs : List Block) (ws : List Nat),
       (p.port.slots.getD k none = none →
         exec (.foregroundReadComplete k code bs) ⟨p, q⟩ = .next ⟨p, q⟩ ∧
         exec (.recordWriteComplete k code) ⟨p, q⟩ = .next ⟨p, q⟩ ∧
         exec (.appendWriteComplete k code) ⟨p, q⟩ = .next ⟨p, q⟩ ∧
         exec (.bandQueryComplete k code ws) ⟨p, q⟩ = .next ⟨p, q⟩ ∧
         exec (.mergeReadComplete k code bs) ⟨p, q⟩ = .next ⟨p, q⟩ ∧
         exec (.forwardedCommandComplete k code) ⟨p, q⟩ = .next ⟨p, q⟩) ∧
       (∀ x, p.port.slots.getD k none = some x → x.discard = true →
         let freed := (.next ⟨{ p with port.slots := p.port.slots.set k none }, q⟩ :
           Host.Outcome State Fault Refusal)
         (∀ c i, x.offer.work = .fgRead c i → exec (.foregroundReadComplete k code bs) ⟨p, q⟩ = freed) ∧
         (∀ n, x.offer.work = .record n → exec (.recordWriteComplete k code) ⟨p, q⟩ = freed) ∧
         (∀ b, x.offer.work = .bandReset b → exec (.bandResetComplete k code) ⟨p, q⟩ = freed))) ∧
  (∀ (p : Part) (q : List Instr) (k : Fin 32) (o : Offer) (tag : Nat) (c : Cmd) (blocks : List Block),
     p.sys.inReset = false → p.port.runs k o → o.work = .forwarded c.cid → o.band = none →
     (∀ t x, p.ini.at t = some x → x.cid = c.cid → t = tag) → p.ini.detached = [] →
     (p.ini.at tag = some c → c.tag = tag → c.dir = .dataIn →
       exec (.forwardedDataIn k blocks) ⟨p, q⟩ =
         .next ⟨{ p with
           ini.tags := p.ini.tags.set tag (some { c with data := c.data ++ blocks.map toBlock })
           ini.sent := p.ini.sent ++ [.data tag (blocks.map toBlock)] }, q⟩) ∧
     (p.ini.at tag = none → exec (.forwardedDataIn k blocks) ⟨p, q⟩ = .next ⟨p, q⟩) ∧
     (p.ini.at tag = some c → c.parts = [.pending] → c.fail = none →
       let ends := fun (part : PartState) (fail : Option Code) =>
         (.next ⟨{ p with
           port.slots := p.port.slots.set k none
           ini.tags := p.ini.tags.set tag (some { c with parts := [part], fail := fail }) }, q⟩ :
           Host.Outcome State Fault Refusal)
       exec (.forwardedCommandComplete k .good) ⟨p, q⟩ = ends .done none ∧
       exec (.forwardedCommandComplete k .mediumError) ⟨p, q⟩ =
         ends (.failed .mediumError) (some .mediumError) ∧
       exec (.forwardedCommandComplete k .alignError) ⟨p, q⟩ =
         ends (.failed .invalidField) (some .invalidField) ∧
       exec (.forwardedCommandComplete k .otherError) ⟨p, q⟩ =
         ends (.failed .invalidField) (some .invalidField))) ∧
  (∀ (p : Part) (q : List Instr) (k : Fin 32) (o : Offer) (tag : Nat) (c : Cmd) (g : Seg) (a ph : Nat)
     (blocks : List Block), p.sys.inReset = false → p.port.runs k o → o.work = .fgRead c.cid 0 →
     o.band = none → o.cmd = .read a g.n → o.pin = some (.band ph) → p.ini.at tag = some c → c.tag = tag →
     (∀ t x, p.ini.at t = some x → x.cid = c.cid → t = tag) → p.ini.detached = [] → c.segs = [g] →
     c.cursor = 0 → c.fail = none → g.outcome = none →
     let base := { p with
       port.slots := p.port.slots.set k none
       bands.pool := p.bands.pool.modify ph fun b => { b with readers := b.readers - 1 } }
     exec (.foregroundReadComplete k .good blocks) ⟨p, q⟩ =
       .next ⟨{ base with
         ini.tags := p.ini.tags.set tag (some
           { c with segs := [{ g with outcome := some true, data := fitBlocks g.n blocks }], cursor := 1 })
         ini.sent := p.ini.sent ++ [.data tag (fitBlocks g.n blocks)] }, q⟩ ∧
     ∀ code, code ≠ .good →
       exec (.foregroundReadComplete k code blocks) ⟨p, q⟩ =
         .next ⟨{ base with
           ini.tags := p.ini.tags.set tag (some
             { c with segs := [{ g with outcome := some false, data := [] }], fail := some .mediumError })
           win := if code = .mediumError then p.win
             else p.win.raise .driveLink (some .drive) none none (some a)
               (some (driveNum (finalCode code))) }, q⟩)

/-! ### Mount and FORMAT (chapter 11) -/

/-- MOUNT_START, in MOUNTING with the link up and no slot busy, offers a DRIVE_IDENTIFY (R183, R194);
FORMAT_QUIESCE_DONE, with nothing granted or waiting, and nothing awaiting recovery or behind a recovery query
(notes/assumptions/17.md), or at once from HALTED, clears every table and offers one too (R193). Until then nothing
changes. The DRIVE_IDENTIFY of mount: a valid geometry is recorded with the serial text, and BAND_QUERYs over every
band, of at most 8,192 bands each, are offered in ascending order (R112, R183); an invalid one halts the part with
GEOMETRY_MISMATCH (R191); an error offers it again. That of FORMAT, with the geometry unchanged, offers writes of at most
8,192 blocks that clear the log, in ascending order; with another it halts the part with GEOMETRY_MISMATCH and the FORMAT is
FAILED; an error offers it again (R193). That the log-clearing writes are offered all together, each of 8,192 blocks but for
the last, is the model's choice (notes/assumptions/57.md), and so is MODE_CHANGE ahead of DIRECTIVE_DONE
(notes/assumptions/20.md). -/
def Obligations.MountAndFormatIdentifyTheDrive : Prop :=
  (∀ (p : Part) (q : List Instr), p.sys.inReset = false →
     let ready := p.sys.mode = .mounting ∧ p.mnt.phase = .wait ∧ p.port.linkUp = true ∧
       ∀ x ∈ p.port.slots, x = none
     (¬ ready → exec .mountStart ⟨p, q⟩ = .next ⟨p, q⟩) ∧
     (ready → exec .mountStart ⟨p, q⟩ =
       .next ⟨{ p with
         mnt.phase := .identify
         port.offers := p.port.offers ++ [{ cls := .f, work := .mountIdentify, cmd := .identify }] }, q⟩) ∧
     (∀ f, p.fmt = some f → f.step = .quiesce →
       let quiet := f.fromHalted = true ∨ (∀ x ∈ p.port.slots, x = none) ∧ p.port.offers = [] ∧
         p.port.awaiting = [] ∧ p.port.recovering = []
       (¬ quiet → exec .formatQuiesceDone ⟨p, q⟩ = .next ⟨p, q⟩) ∧
       (quiet → exec .formatQuiesceDone ⟨p, q⟩ =
         .next ⟨{ p with
           sys.layout := {}, bands := {}, log := {}, idx := {}, mrg := {}, pace := {}, mnt := {}
           ini := { p.ini with hold := [], detached := [] }
           fmt := some { f with step := .identify }
           port.offers := p.port.offers ++
             [{ cls := .f, work := .formatIdentify, cmd := .identify }] }, q⟩))) ∧
  (∀ (p : Part) (q : List Instr) (k : Fin 32) (o : Offer) (bands size conv : Nat) (model serial : List Byte),
     p.sys.inReset = false → p.port.runs k o → o.band = none → serial.length = 20 →
     let slots := p.port.slots.set k none
     let g : DriveGeo := { bands := bands, bandBlocks := size, conv := conv }
     (o.work = .mountIdentify →
       let valid := (size = 16384 ∨ size = 32768 ∨ size = 65536) ∧ 64 ≤ bands ∧ bands ≤ 131072 ∧
         16392 ≤ conv
       (valid →
         exec (.driveIdentifyComplete k .good bands size conv model serial) ⟨p, q⟩ =
           .next ⟨{ p with
             sys := { p.sys with drive := some g, serial := serial }
             mnt := { p.mnt with phase := .queries, wps := List.replicate bands none }
             port := { p.port with
               slots := slots
               offers := p.port.offers ++ (List.range ((bands + 8191) / 8192)).map fun j =>
                 let n := min 8192 (bands - 8192 * j)
                 { cls := .f, work := .mountQuery (8192 * j) n, cmd := .bandQuery (8192 * j) n } } }, q⟩) ∧
       (¬ valid → ∃ u : Part,
         exec (.driveIdentifyComplete k .good bands size conv model serial) ⟨p, q⟩ = .next ⟨u, q⟩ ∧
         u.sys.mode = .halted ∧ u.sys.halt = .geometryMismatch ∧ u.sys.drive = some g) ∧
       (∀ code, code ≠ .good →
         exec (.driveIdentifyComplete k code bands size conv model serial) ⟨p, q⟩ =
           .next ⟨{ p with port := { p.port with
             slots := slots
             offers := p.port.offers ++
               [{ cls := .f, work := .mountIdentify, cmd := .identify }] } }, q⟩)) ∧
     (∀ f, o.work = .formatIdentify → p.fmt = some f →
       let same := f.layout.bands = bands ∧ f.layout.bandBlocks = size ∧ f.layout.conv = conv
       let runs := List.range ((f.layout.logLen + 8191) / 8192)
       (same →
         exec (.driveIdentifyComplete k .good bands size conv model serial) ⟨p, q⟩ =
           .next ⟨{ p with
             sys := { p.sys with drive := some g, serial := serial }
             fmt := some { f with step := .clear, clearsOpen := runs.map (8192 * ·) }
             port := { p.port with
               slots := slots
               offers := p.port.offers ++ runs.map fun j =>
                 let n := min 8192 (f.layout.logLen - 8192 * j)
                 { cls := .a, work := .formatClear (8192 * j) n, cmd := .write (8 + 8192 * j) n } } }, q⟩) ∧
       (¬ same → ∃ u : Part,
         exec (.driveIdentifyComplete k .good bands size conv model serial) ⟨p, q⟩ = .next ⟨u, q⟩ ∧
         u.sys = { p.sys with
           mode := .halted, halt := .geometryMismatch, drive := some g, serial := serial, layout := {} } ∧
         u.fmt = none ∧ u.port.offers = [] ∧ u.bands = {} ∧ u.log = {} ∧ u.idx = {} ∧ u.mrg = {} ∧
         u.cfg = p.cfg ∧ u.ret = p.ret ∧
         ∀ num, p.win.dirPending = some { num := num, code := 12 } →
           u.win = (p.win.raise .modeChange (some .mode) none none (some 3) (some 4)).finish .failed []) ∧
       ∀ code, code ≠ .good →
         exec (.driveIdentifyComplete k code bands size conv model serial) ⟨p, q⟩ =
           .next ⟨{ p with port := { p.port with
             slots := slots
             offers := p.port.offers ++
               [{ cls := .f, work := .formatIdentify, cmd := .identify }] } }, q⟩))

/-- The anchor read of mount: a block without the signature halts the part BLANK; one whose check value is bad, or
with a field that names nothing or lies out of its range, or a second error, halts it ANCHOR_BAD, the settings as they
were (R184, R191). A good anchor loads the settings, and where its geometry is not the drive's or leaves no room for
the log the part halts with GEOMETRY_MISMATCH (R184). Of the drive's geometry, the bands with a write pointer of 0 are
free in ascending order and the header of every other is read, in ascending order; where there is none, replay begins
at the durable tail (R184, R185, R186). A first error reads it again. -/
def Obligations.AnchorDecidesTheMount : Prop :=
  ∀ (p : Part) (q : List Instr) (k : Fin 32) (o : Offer) (b : Block), p.sys.inReset = false →
    p.port.runs k o → o.work = .mountAnchor → o.band = none →
    let haltsWith := fun (h : HaltReason) (code : DriveCode) (cfg : Settings) (ranges : List RangeEntry) => ∃ u : Part,
      exec (.mountAnchorReadComplete k code b) ⟨p, q⟩ = .next ⟨u, q⟩ ∧ u.sys.mode = .halted ∧
      u.sys.halt = h ∧ u.mnt = {} ∧ u.port.offers = [] ∧ u.cfg = cfg ∧ u.ret = { p.ret with entries := ranges }
    let halts := fun (h : HaltReason) (code : DriveCode) => haltsWith h code p.cfg p.ret.entries
    (bytesAt b 0 8 ≠ sigAnchor → halts .blank .good) ∧
    (bytesAt b 0 8 = sigAnchor →
      (checkMatches b 205 [] = false ∨ ∀ a, parseAnchor b = some a → anchorInRange a = false) →
      halts .anchorBad .good) ∧
    (∀ a, bytesAt b 0 8 = sigAnchor → parseAnchor b = some a → checkMatches b 205 [] = true →
      anchorInRange a = true →
      (a.layout.conv < 8 + a.layout.logLen ∨ p.sys.drive ≠ some
        { bands := a.layout.bands, bandBlocks := a.layout.bandBlocks, conv := a.layout.conv }) →
      haltsWith .geometryMismatch .good
        { policy := a.policy, disp := a.disp, enables := a.enables, loaded := true } a.ranges) ∧
    (∀ code, code ≠ .good → 0 < p.mnt.anchorErrors → halts .anchorBad code) ∧
    (∀ code, code ≠ .good → p.mnt.anchorErrors = 0 →
      exec (.mountAnchorReadComplete k code b) ⟨p, q⟩ =
        .next ⟨{ p with
          mnt.anchorErrors := 1
          port := { p.port with
            slots := p.port.slots.set k none
            offers := p.port.offers ++ [{ cls := .b, work := .mountAnchor, cmd := .read 0 1 }] } }, q⟩) ∧
    (∀ a, bytesAt b 0 8 = sigAnchor → parseAnchor b = some a → checkMatches b 205 [] = true →
      anchorInRange a = true → 8 + a.layout.logLen ≤ a.layout.conv →
      p.sys.drive = some
        { bands := a.layout.bands, bandBlocks := a.layout.bandBlocks, conv := a.layout.conv } →
      ∀ ws : List Nat, p.mnt.wps = ws.map some → ws.length = a.layout.bands →
      let written := (List.range a.layout.bands).filter fun n => decide (ws.getD n 0 ≠ 0)
      ∃ u : Part, exec (.mountAnchorReadComplete k .good b) ⟨p, q⟩ = .next ⟨u, q⟩ ∧
      u.sys = { p.sys with layout := a.layout } ∧ u.cfg.policy = a.policy ∧ u.cfg.disp = a.disp ∧
      u.cfg.enables = a.enables ∧ u.cfg.loaded = true ∧ u.ret = { p.ret with entries := a.ranges } ∧
      u.bands.lbt = List.replicate (a.layout.bands - a.layout.spares) {} ∧
      u.bands.pool = ws.map (fun w => { st := if w = 0 then .free else .unjudged, wp := w }) ∧
      u.bands.free = (List.range a.layout.bands).filter (fun n => decide (ws.getD n 0 = 0)) ∧
      u.log.tail = a.tail ∧ u.log.reclaim = a.tail ∧ u.mnt.headersOpen = written ∧
      (written = [] → u.mnt.phase = .replay ∧ u.mnt.pos = a.tail ∧ u.mnt.seq = a.tailSeq ∧
        u.port.offers = p.port.offers ++
          [{ cls := .b, work := .replayHeader, cmd := .read (8 + a.tail) 1 }]) ∧
      (written ≠ [] → u.mnt.phase = .headers ∧
        u.port.offers = p.port.offers ++ written.map fun n =>
          { cls := .b, work := .mountHeader n
            cmd := .read (a.layout.conv + n * a.layout.bandBlocks) 1 }))

/-- A header read of mount: a valid header makes its band a candidate, an invalid one RESET_PENDING, a first error is
read again and a second retires the band (R185). The last final completion begins replay: its first header read, at
the durable tail, is offered (R185, R186). -/
def Obligations.HeadersMakeCandidates : Prop :=
  ∀ (p : Part) (q : List Instr) (k : Fin 32) (o : Offer) (n : Nat) (b : Block), p.sys.inReset = false →
    p.port.runs k o → o.work = .mountHeader n → o.band = none →
    let slots := p.port.slots.set k none
    let left := p.mnt.headersOpen.filter (· != n)
    let done := fun (s : Part) =>
      if left = [] then
        { s with
          mnt := { s.mnt with phase := .replay, pos := p.log.tail, seq := p.mnt.tailSeq, header := none }
          port.offers := p.port.offers ++
            [{ cls := .b, work := .replayHeader, cmd := .read (8 + p.log.tail) 1 }] }
      else s
    (∀ l base mark, parseBandHeader b = some (l, base, mark) →
      exec (.mountHeaderReadComplete k .good b) ⟨p, q⟩ =
        .next ⟨done <| if l < p.sys.layout.bands - p.sys.layout.spares then
          { p with
            port.slots := slots
            mnt.headersOpen := left
            mnt.candidates := p.mnt.candidates ++ [{ p := n, band := l, base := base, mark := mark }] }
        else
          { p with
            port.slots := slots
            mnt.headersOpen := left
            mnt.invalid := p.mnt.invalid ++ [n]
            bands.pool := p.bands.pool.modify n fun x => { x with st := .resetPending } }, q⟩) ∧
    (parseBandHeader b = none →
      exec (.mountHeaderReadComplete k .good b) ⟨p, q⟩ =
        .next ⟨done { p with
          port.slots := slots
          mnt.headersOpen := left
          mnt.invalid := p.mnt.invalid ++ [n]
          bands.pool := p.bands.pool.modify n fun x => { x with st := .resetPending } }, q⟩) ∧
    (∀ code, code ≠ .good →
      (n ∈ p.mnt.headersRetried →
        exec (.mountHeaderReadComplete k code b) ⟨p, q⟩ =
          .next ⟨done { p with
            port.slots := slots
            mnt.headersOpen := left
            bands.pool := p.bands.pool.modify n fun x => { x with st := .retired }
            win := p.win.raise .bandRetired (some .drive) none (some n) none none }, q⟩) ∧
      (n ∉ p.mnt.headersRetried →
        exec (.mountHeaderReadComplete k code b) ⟨p, q⟩ =
          .next ⟨{ p with
            mnt.headersRetried := p.mnt.headersRetried ++ [n]
            port := { p.port with
              slots := slots
              offers := p.port.offers ++
                [{ cls := .b, work := .mountHeader n
                   cmd := .read (p.sys.layout.conv + n * p.sys.layout.bandBlocks) 1 }] } }, q⟩))

/-- A replay read (R186). The log ends at the expected position, with the head, next seq and settled seq that gives, at an
error, which also makes the mount's result DEGRADED, at a block that is no record or a record of another seq, of a length that
its kind, the ring's end or the blocks left do not allow, or with a field out of range, at a check value that does not match,
and, DEGRADED, when the record table is full. A DATA record whose header passes has its blocks read next. An accepted record
enters the table as SETTLED; DATA and partial DISCARD insert their extent (at most 65,536 may result, else the log ends
before the record, DEGRADED: R82, notes/assumptions/51.md), a full DISCARD removes its band's and is its discard floor, a COMMIT
removes those up to its snapshot seq and is its band's note, PAD and VOID do nothing (R51, R74, R75, R82, R187), and the live
counts of the records before it fall by the blocks their extents lose (R72, R74, R75); the walk goes on behind it, or ends there
when the ring is full. That the header's tests come before the data blocks are read, so that a DATA record whose header fails
ends the log whatever its data would have been, is the model's choice (notes/assumptions/32.md). -/
def Obligations.ReplayWalksTheLog : Prop :=
  ∀ (p : Part) (q : List Instr) (k : Fin 32) (o : Offer) (bs : List Block),
    p.sys.inReset = false → p.port.runs k o → o.band = none → p.sys.mode = .mounting →
    p.mnt.phase = .replay → (o.work = .replayHeader ∨ o.work = .replayData) →
    let g := p.sys.layout
    let d := g.bandBlocks - 1
    let slots := p.port.slots.set k none
    let runs := exec (.replayReadComplete k .good bs) ⟨p, q⟩
    let ended := fun (bad : Bool) =>
      (.next ⟨{ p with
        port.slots := slots
        log := { p.log with head := p.mnt.pos, nextSeq := p.mnt.seq, settled := p.mnt.seq - 1 }
        mnt := { p.mnt with phase := .resolve, header := none, degraded := p.mnt.degraded || bad } }, q⟩ :
        Host.Outcome State Fault Refusal)
    let acceptable := fun (r : Rec) =>
      r.seq = p.mnt.seq ∧ p.mnt.pos + r.len ≤ g.logLen ∧ p.mnt.blocks + r.len ≤ g.logLen ∧
      (match r.kind with
        | .data => 1 ≤ r.n ∧ r.n ≤ 128 ∧ r.len = 1 + r.n
        | .pad => p.mnt.pos + r.len = g.logLen ∧ 1 ≤ r.len ∧ r.len ≤ 128
        | .void => 1 ≤ r.len ∧ r.len ≤ 129
        | _ => r.len = 1) ∧
      (r.kind = .data ∨ r.kind = .discard ∨ r.kind = .commit → ∃ l, r.band = some l ∧ l < g.bands - g.spares) ∧
      (r.kind = .commit →
        (∀ x, r.oldBand = some x ∨ r.newBand = some x → x < g.bands) ∧ r.snapSeq < r.seq ∧ r.newFill ≤ d)
    let judged := fun (b : Block) (r : Rec) (data : List Block) =>
      let part := r.kind = .data ∨ r.kind = .discard ∧ r.full = false
      let l := r.band.getD 0
      let extents :=
        if part then insertExtents p.idx.extents
          { start := l * d + r.off, len := r.n, kind := if r.kind = .data then .data else .zero, seq := r.seq
            lp := if r.kind = .data then p.mnt.pos + 1 else 0 }
        else if r.kind = .discard then p.idx.extents.filter (fun e => decide (e.start / d ≠ l))
        else if r.kind = .commit then
          p.idx.extents.filter (fun e => decide (¬ (e.start / d = l ∧ e.seq ≤ r.snapSeq)))
        else p.idx.extents
      let pos := if p.mnt.pos + r.len = g.logLen then 0 else p.mnt.pos + r.len
      let full := p.mnt.blocks + r.len = g.logLen
      (checkMatches b (checkOffset r.kind) data = false → runs = ended false) ∧
      (checkMatches b (checkOffset r.kind) data = true →
        (32768 ≤ p.log.table.length ∨ 65536 < extents.length → runs = ended true) ∧
        (p.log.table.length < 32768 → extents.length ≤ 65536 → ∃ u : Part, runs = .next ⟨u, q⟩ ∧
          u.idx = { p.idx with extents := extents } ∧
          u.log.table.map (·.seq) = p.log.table.map (·.seq) ++ [r.seq] ∧
          u.log.table.getLast? = some { r with st := .settled, live := if part then r.n else 0 } ∧
          (r.kind = .pad ∨ r.kind = .void → u.log.table.dropLast = p.log.table) ∧
          ((∀ x ∈ p.log.table, x.seq ≠ r.seq) →
            let a := l * d + r.off
            let gone := fun (e : Extent) =>
              e.start / d = l ∧ (r.kind = .discard ∨ r.kind = .commit ∧ e.seq ≤ r.snapSeq)
            let lost := fun (x : Rec) => ((p.idx.extents.filter (·.seq == x.seq)).map fun e =>
              if part then min (e.start + e.len) (a + r.n) - max e.start a else if gone e then e.len else 0).sum
            u.log.table.dropLast = p.log.table.map fun x => { x with live := x.live - lost x }) ∧
          u.log.tail = p.log.tail ∧
          (full → u.log.head = pos ∧ u.log.nextSeq = p.mnt.seq + 1 ∧ u.log.settled = p.mnt.seq) ∧
          u.mnt = { p.mnt with
            phase := if full then .resolve else .replay
            pos := pos, seq := p.mnt.seq + 1, blocks := p.mnt.blocks + r.len
            records := p.mnt.records + 1, header := none
            floors := if r.kind = .discard ∧ r.full = true then (l, r.seq) :: p.mnt.floors.filter (·.1 != l)
              else p.mnt.floors
            notes := if r.kind = .commit then
                { band := l, newBand := r.newBand, snapSeq := r.snapSeq } :: p.mnt.notes.filter (·.band != l)
              else p.mnt.notes } ∧
          u.port = { p.port with
            slots := slots
            offers := if full then p.port.offers else p.port.offers ++
              [{ cls := .b, work := .replayHeader, cmd := .read (8 + pos) 1 }] } ∧
          u.sys = p.sys ∧ u.bands = p.bands))
    (∀ code, code ≠ .good → exec (.replayReadComplete k code bs) ⟨p, q⟩ = ended true) ∧
    (∀ b rest, o.work = .replayHeader → bs = b :: rest →
      ((∀ r, parseRecord b p.mnt.pos = some r → ¬ acceptable r) → runs = ended false) ∧
      ∀ r, parseRecord b p.mnt.pos = some r → acceptable r →
        (r.kind = .data →
          runs = .next ⟨{ p with
            mnt.header := some b
            port := { p.port with
              slots := slots
              offers := p.port.offers ++
                [{ cls := .b, work := .replayData, cmd := .read (8 + (p.mnt.pos + 1)) r.n }] } }, q⟩) ∧
        (r.kind ≠ .data → judged b r [])) ∧
    (∀ b r, o.work = .replayData → p.mnt.header = some b → parseRecord b p.mnt.pos = some r → acceptable r →
      r.kind = .data → judged b r (fitBlocks r.n bs))

/-- CLAIM_RESOLUTION, when replay has ended: the part leaves MOUNTING for ACTIVE, or for DEGRADED where replay said
so, O is the blocks replay accepted, the reclaim point is the durable tail, mount progress is cleared (R188, R189,
R190), and on a new drive every logical band stays EMPTY. BAND_FAULTED is raised for each FAULTED band, then MODE_CHANGE and
MOUNT_DONE with the mapped bands and the records; the level is evaluated from NORMAL, with LEVEL_CHANGE at PRESSURE and FULL,
and the index pressure, with CAPACITY; a pending RESTART is DONE or FAILED with the mode entered (R15, R77, R172, R179, R190).
The order of those events, and the evaluations in DEGRADED, are the model's choice (notes/assumptions/19.md,
notes/assumptions/20.md). Before that nothing changes. With candidates on physical bands of
their own: the winner of a claim is MAPPED and its logical band FILLING or FULL by its write pointer, a band without one is
EMPTY or FAULTED at its floor, the losers are to be reset (R188, R189); the extents at or below the floors leave the index and
their records' live counts (R83); and a loser is awaited by the COMMIT that names it as old band, else by the first full
DISCARD above its base that awaits fewer than 2 bands, else by none, with a target hold where it is marked (R58, R189). -/
def Obligations.ClaimResolutionEndsTheMount : Prop :=
  ∀ (p : Part) (q : List Instr), p.sys.inReset = false →
    (p.sys.mode ≠ .mounting ∨ p.mnt.phase ≠ .resolve → exec .claimResolution ⟨p, q⟩ = .next ⟨p, q⟩) ∧
    (p.sys.mode = .mounting → p.mnt.phase = .resolve → ∃ u : Part,
      exec .claimResolution ⟨p, q⟩ = .next ⟨u, q⟩ ∧
      u.sys = { p.sys with mode := if p.mnt.degraded then .degraded else .active, halt := .none } ∧
      u.log.occ = p.mnt.blocks ∧ u.log.reclaim = p.log.tail ∧ u.log.tail = p.log.tail ∧
      u.log.nextSeq = p.log.nextSeq ∧ u.log.settled = p.log.settled ∧ u.log.head = p.log.head ∧
      u.mnt = {} ∧ u.port = p.port ∧ u.cfg = p.cfg ∧ u.ret = p.ret ∧ u.ref = p.ref ∧ u.ini = p.ini ∧
      u.bands.lbt.length = p.bands.lbt.length ∧
      (let at256 := fun (n : Nat) => p.sys.layout.logLen * n / 256
       let level : Level :=
         if at256 p.cfg.policy.hardQ ≤ p.mnt.blocks then .full
         else if at256 p.cfg.policy.highQ ≤ p.mnt.blocks then .pressure
         else if at256 p.cfg.policy.lowQ ≤ p.mnt.blocks then .reclaim else .normal
       let full := decide (61440 ≤ u.idx.extents.length + u.idx.reserved)
       let bands := List.range p.bands.lbt.length
       let faulted := bands.filter fun l => (p.claim l).faulted
       let mapped := bands.countP fun l => (p.claim l).winner.isSome
       let mode := if p.mnt.degraded then 3 else 2
       let w1 := faulted.foldl (fun w l => w.raise .bandFaulted (some .drive) (some l) none none none) p.win
       let w2 := (w1.raise .modeChange (some .mode) none none none (some mode)).raise .mountDone (some .mode) none none
         (some mapped) (some p.mnt.records)
       let w3 := if level = .pressure ∨ level = .full then
           w2.raise .levelChange (some .log) none none (some p.mnt.blocks) (some (if level = .full then 3 else 2))
         else w2
       let w4 : Window := if p.idx.pressure = false ∧ full = true then { w3 with pending := w3.pending ||| 0x20#8 } else w3
       u.pace = { level := level, credit := if level = .pressure then p.cfg.policy.burst else 0, rem := 0 } ∧
       u.idx.pressure = full ∧
       (p.mrg.reqs = [] →
         ((∀ d, p.win.dirPending = some d → d.code ≠ 13) → u.win = w4) ∧
         ∀ num, p.win.dirPending = some { num := num, code := 13 } →
           u.win = w4.finish (if p.mnt.degraded then .failed else .done) [BitVec.ofNat 8 mode])) ∧
      (p.mnt.candidates = [] → p.mnt.notes = [] → p.mnt.floors = [] →
        ∀ l, l < p.bands.lbt.length → u.bands.lband l = {})) ∧
    (p.sys.mode = .mounting → p.mnt.phase = .resolve → (p.mnt.candidates.map (·.p)).Nodup →
      (∀ c ∈ p.mnt.candidates, c.p < p.bands.pool.length) → ∃ u : Part,
      exec .claimResolution ⟨p, q⟩ = .next ⟨u, q⟩ ∧
      let d := p.sys.layout.bandBlocks - 1
      let gone := fun (e : Extent) => e.seq ≤ (u.bands.lband (e.start / d)).floor
      let awaits := fun (r : Rec) => r.kind = .commit ∨ r.kind = .discard ∧ r.full = true
      (∀ l, l < p.bands.lbt.length →
        let c := p.claim l
        u.bands.lband l =
          (match c.winner with
            | some x =>
              let f := (p.bands.pband x.p).wp - 1
              { st := if f = d then .full else .filling, phys := some x.p, f := f, pf := f, floor := x.base }
            | none => { st := if c.faulted then .faulted else .empty, floor := c.floor }) ∧
        (∀ x, c.winner = some x →
          u.bands.pband x.p = { p.bands.pband x.p with st := .mapped, owner := some l }) ∧
        ∀ x ∈ c.losers, x.p ∈ u.bands.resetPend ∧
          u.bands.pband x.p = { p.bands.pband x.p with st := .resetPending }) ∧
      u.idx.extents = p.idx.extents.filter (fun e => decide (¬ gone e)) ∧
      (u.log.table.filter fun x => decide (¬ awaits x)).map (fun x => (x.seq, x.live)) =
        (p.log.table.filter fun x => decide (¬ awaits x)).map (fun x =>
          (x.seq, x.live - ((p.idx.extents.filter fun e => decide (gone e ∧ e.seq = x.seq)).map (·.len)).sum)) ∧
      (∀ x ∈ u.log.table, awaits x → x.live = x.awaited.length) ∧
      ∀ y, (List.range p.bands.lbt.length).flatMap (fun l => (p.claim l).losers) = [y] →
        let names := fun (r : Rec) => decide (r.kind = .commit ∧ r.band = some y.band ∧ r.oldBand = some y.p)
        let above := fun (r : Rec) =>
          decide (r.kind = .discard ∧ r.full = true ∧ r.band = some y.band ∧ y.base < r.seq)
        let awaited := fun (r : Rec) =>
          ∃ x, u.log.find r.seq = some x ∧ x.awaited = r.awaited ++ [y.p] ∧ u.log.holds = p.log.holds
        (∀ r, p.log.table.filter names = [r] → p.log.find r.seq = some r → awaited r) ∧
        (p.log.table.filter names = [] →
          (∀ r, p.log.table.find? above = some r → p.log.find r.seq = some r → r.awaited.length < 2 → awaited r) ∧
          ((∀ r, p.log.table.find? above = some r → 2 ≤ r.awaited.length) →
            u.log.table.map (·.awaited) = p.log.table.map (·.awaited) ∧
            u.log.holds = p.log.holds ++ if y.mark then [(y.p, y.base)] else [])))

/-- FORMAT's last steps (R193). The last log-clearing write GOOD offers the reset of every band in ascending order; a
log-clearing or anchor write that fails is offered once more, and a second error enters HALTED with ANCHOR_BAD, the
tables empty and the FORMAT FAILED; a reset that fails retires its band, and the last one offers the new anchor; that anchor
holds the geometry, the durable tail 0 with tail seq 1, the default settings, every alert class enabled and 8 ranges OFF, at
the offsets of its table (R193, R198); its
GOOD makes the part ACTIVE, empty, with the settings at their defaults and next seq 1, and the FORMAT is
DONE, MODE_CHANGE raised before DIRECTIVE_DONE (notes/assumptions/20.md). -/
def Obligations.FormatClearsResetsAndStores : Prop :=
  (∀ (p : Part) (q : List Instr) (f : Format), p.sys.inReset = false → p.fmt = some f → p.sys.mode = .formatting →
    p.port.linkUp = true → p.port.slots = List.replicate 32 none →
    p.port.offers = [{ cls := .a, work := .formatAnchor, cmd := .write 0 1 }] →
    ∃ (b : Block) (u : Part), exec .driveGrant ⟨p, q⟩ = .next ⟨u, q⟩ ∧
      u.port.sent = p.port.sent ++ [{ slot := 28, cmd := .write 0 1, blocks := [b] }] ∧
      (let has := fun (o w x : Nat) => field b o w = x % 256 ^ w
       bytesAt b 0 8 = ['S', 'B', '2', '4', 'A', 'N', 'C', 'R'].map (fun c => BitVec.ofNat 8 c.toNat) ∧
       has 8 4 f.layout.bandBlocks ∧ has 12 4 f.layout.bands ∧ has 16 2 f.layout.spares ∧ has 18 8 f.layout.conv ∧
       has 26 4 8 ∧ has 30 4 f.layout.logLen ∧ has 34 4 0 ∧ has 38 6 1 ∧ has 44 1 128 ∧ has 45 1 192 ∧ has 46 1 240 ∧
       has 47 2 256 ∧ has 49 1 4 ∧ has 50 2 2048 ∧ has 52 1 2 ∧ has 53 1 50 ∧
       bytesAt b 54 6 = [0, 0, 0, 0, 0, 3] ∧ byteAt b 60 = 0xFF ∧ (∀ j, 61 ≤ j → j < 205 → byteAt b j = 0) ∧
       field b 205 4 = (checkValue (bytesAt b 0 205)).toNat)) ∧
  ∀ (p : Part) (q : List Instr) (k : Fin 32) (o : Offer) (f : Format), p.sys.inReset = false →
    p.port.runs k o → o.band = none → p.fmt = some f →
    let slots := p.port.slots.set k none
    let fails := fun (x : Host.Outcome State Fault Refusal) => ∃ u : Part, x = .next ⟨u, q⟩ ∧
      u.sys = { p.sys with mode := .halted, halt := .anchorBad, layout := {} } ∧ u.fmt = none ∧
      u.bands = {} ∧ u.log = {} ∧ u.idx = {} ∧ u.mrg = {} ∧ u.port.offers = [] ∧ u.cfg = p.cfg ∧
      u.ret = p.ret ∧
      ∀ num, p.win.dirPending = some { num := num, code := 12 } →
        u.win = (p.win.raise .modeChange (some .mode) none none (some 2) (some 4)).finish .failed []
    (∀ n m, o.work = .formatClear n m → f.clearsOpen = [n] →
      exec (.formatLogClearComplete k .good) ⟨p, q⟩ =
        .next ⟨{ p with
          fmt := some { f with step := .resets, clearsOpen := [], resetsOpen := List.range f.layout.bands }
          port := { p.port with
            slots := slots
            offers := p.port.offers ++ (List.range f.layout.bands).map fun b =>
              { cls := .f, work := .formatReset b, cmd := .bandReset b } } }, q⟩) ∧
    (∀ n m, o.work = .formatClear n m → (∃ x ∈ f.clearsOpen, x ≠ n) →
      exec (.formatLogClearComplete k .good) ⟨p, q⟩ =
        .next ⟨{ p with
          fmt := some { f with clearsOpen := f.clearsOpen.filter (· != n) }, port.slots := slots }, q⟩) ∧
    (∀ n m code, o.work = .formatClear n m → code ≠ .good →
      (n ∉ f.clearsRetried →
        exec (.formatLogClearComplete k code) ⟨p, q⟩ =
          .next ⟨{ p with
            fmt := some { f with clearsRetried := f.clearsRetried ++ [n] }
            port := { p.port with
              slots := slots
              offers := p.port.offers ++
                [{ cls := .a, work := .formatClear n m, cmd := .write (8 + n) m }] } }, q⟩) ∧
      (n ∈ f.clearsRetried → fails (exec (.formatLogClearComplete k code) ⟨p, q⟩))) ∧
    (∀ code, o.work = .formatAnchor → code ≠ .good →
      (f.anchorErrors = 0 →
        exec (.formatAnchorWriteComplete k code) ⟨p, q⟩ =
          .next ⟨{ p with
            fmt := some { f with anchorErrors := 1 }
            port := { p.port with
              slots := slots
              offers := p.port.offers ++ [{ cls := .a, work := .formatAnchor, cmd := .write 0 1 }] } }, q⟩) ∧
      (f.anchorErrors ≠ 0 → fails (exec (.formatAnchorWriteComplete k code) ⟨p, q⟩))) ∧
    (∀ b, o.work = .formatReset b → f.resetsOpen = [b] →
      let anchor := p.port.offers ++ [{ cls := .a, work := .formatAnchor, cmd := .write 0 1 }]
      exec (.formatBandResetComplete k .good) ⟨p, q⟩ =
        .next ⟨{ p with
          fmt := some { f with step := .anchor, resetsOpen := [] }
          port := { p.port with slots := slots, offers := anchor } }, q⟩ ∧
      ∀ code, code ≠ .good →
        exec (.formatBandResetComplete k code) ⟨p, q⟩ =
          .next ⟨{ p with
            fmt := some { f with step := .anchor, resetsOpen := [], retired := f.retired ++ [b] }
            win := p.win.raise .bandRetired (some .drive) none (some b) none none
            port := { p.port with slots := slots, offers := anchor } }, q⟩) ∧
    (∀ b, o.work = .formatReset b → (∃ x ∈ f.resetsOpen, x ≠ b) →
      let left := f.resetsOpen.filter (· != b)
      exec (.formatBandResetComplete k .good) ⟨p, q⟩ =
        .next ⟨{ p with fmt := some { f with resetsOpen := left }, port.slots := slots }, q⟩ ∧
      ∀ code, code ≠ .good →
        exec (.formatBandResetComplete k code) ⟨p, q⟩ =
          .next ⟨{ p with
            fmt := some { f with resetsOpen := left, retired := f.retired ++ [b] }
            win := p.win.raise .bandRetired (some .drive) none (some b) none none
            port.slots := slots }, q⟩) ∧
    (o.work = .formatAnchor → 2 ≤ f.layout.logLen →
      exec (.formatAnchorWriteComplete k .good) ⟨p, q⟩ =
        .next ⟨{ p with
          sys := { p.sys with mode := .active, halt := .none, layout := f.layout }
          cfg := { loaded := true }
          ret := { p.ret with entries := List.replicate 8 {} }
          bands :=
            { lbt := List.replicate (f.layout.bands - f.layout.spares) {}
              pool := (List.range f.layout.bands).map fun b =>
                { st := if b ∈ f.retired then .retired else .free }
              free := (List.range f.layout.bands).filter fun b => decide (b ∉ f.retired) }
          log := { nextSeq := 1 }
          idx := {}, mrg := {}, pace := {}, mnt := {}, fmt := none
          ini := { p.ini with hold := [], detached := [] }
          port.slots := slots
          win := (p.win.raise .modeChange (some .mode) none none none (some 2)).finish .done [] }, q⟩)

/-! ### The index, the chain, claims and encodings -/

/-- Insertion into an index whose extents are in start order and disjoint keeps them so and adds at most 2; the new
extent covers its blocks, and every other block is covered as before, by the same record at the same log block
(R68, R71). -/
def Obligations.InsertionReplacesWhatItOverlaps : Prop :=
  ∀ (es : List Extent) (x : Extent),
    let sound := fun (l : List Extent) => l.Pairwise (fun a b => a.stop ≤ b.start) ∧ ∀ e ∈ l, 1 ≤ e.len
    sound es → 1 ≤ x.len →
    let after := insertExtents es x
    sound after ∧ after.length ≤ es.length + 2 ∧ x ∈ after ∧
    ∀ a : Nat,
      let old := ({ extents := es } : Index).lookup a
      let new := ({ extents := after } : Index).lookup a
      (x.start ≤ a → a < x.stop → new = some x) ∧
      (a < x.start ∨ x.stop ≤ a →
        (old = none → new = none) ∧
        ∀ e, old = some e → ∃ e', new = some e' ∧ e'.seq = e.seq ∧ e'.kind = e.kind ∧
          (e.kind = .data → e'.lp + (a - e'.start) = e.lp + (a - e.start)))

/-- The pieces of a command, for any D above 0 (R7): the first at lba div D and lba mod D, each later one at offset 0 of the
next logical band, each as long as its band and the blocks left allow, none empty, together the whole count in logical order.
Over extents in start order and disjoint, the segments of a READ's piece, from offset x on, follow one another to its end,
none of them empty, and each has the source of its offsets: a LOG segment the log blocks of the extent that covers it, whose
record it pins; a BAND segment, which no extent meets, the band's blocks below the fill; a ZERO segment a ZERO extent; the
rest, which no extent meets, lies at or above the fill or in no band (R19, R20). The steps of a merge's chain follow one
another to the new fill in the same way, each named by its first offset (R95). -/
def Obligations.SegmentsAndChainsCoverEveryOffset : Prop :=
  (∀ d lba count : Nat, 0 < d →
    let ps := pieces d lba count
    let before := fun (k : Nat) => ((ps.take k).map (·.2.2)).sum
    (ps.map (·.2.2)).sum = count ∧
    (1 ≤ count → ps.length = (lba % d + count + d - 1) / d) ∧
    ∀ k l o n, ps[k]? = some (l, o, n) →
      l = lba / d + k ∧ o = (if k = 0 then lba % d else 0) ∧ n = min (count - before k) (d - o) ∧ 1 ≤ n ∧
      l * d + o = lba + before k) ∧
  ∀ (base x stop : Nat) (es : List Extent), x < stop →
    es.Pairwise (fun a b => a.stop ≤ b.start) → (∀ e ∈ es, 1 ≤ e.len) →
    let clear := fun (a n : Nat) => ∀ e ∈ es, e.stop ≤ base + a ∨ base + a + n ≤ e.start
    let within := fun (e : Extent) (a n : Nat) => e.start ≤ base + a ∧ base + a + n ≤ e.stop
    (∀ (g : Layout) (b : LBand), (∀ e ∈ es, base + x < e.stop ∧ e.start < base + stop) →
      let segs := segsFrom g b base stop x es
      (segs.map (·.n)).sum = stop - x ∧
      ∀ i s, segs[i]? = some s →
        let a := x + ((segs.take i).map (·.n)).sum
        1 ≤ s.n ∧ a + s.n ≤ stop ∧
        (match s.kind with
          | .log => ∃ e ∈ es, e.kind = .data ∧ within e a s.n ∧ s.pin = some (.record e.seq) ∧
              s.abs = 8 + (e.lp + (base + a - e.start))
          | .band => clear a s.n ∧ a + s.n ≤ b.f ∧ ∃ ph, b.phys = some ph ∧ s.pin = some (.band ph) ∧
              s.abs = g.conv + ph * g.bandBlocks + 1 + a
          | .zero => (∃ e ∈ es, e.kind = .zero ∧ within e a s.n) ∧ s.pin = none ∧ s.data = List.replicate s.n []
          | .beyondFill => clear a s.n ∧ (b.phys = none ∨ b.f ≤ a) ∧ s.pin = none ∧
              s.data = List.replicate s.n [])) ∧
    (∀ fill : Nat, (∀ e ∈ es, base + x ≤ e.start) →
      let chain := chainFrom base fill stop x es
      (chain.map (·.n)).sum = stop - x ∧
      ∀ i m, chain[i]? = some m →
        m.off = x + ((chain.take i).map (·.n)).sum ∧ 1 ≤ m.n ∧ m.off + m.n ≤ stop ∧
        (match m.src with
          | .log lp seq => ∃ e ∈ es, e.kind = .data ∧ within e m.off m.n ∧ e.seq = seq ∧
              lp = e.lp + (base + m.off - e.start)
          | .oldBand => clear m.off m.n ∧ m.off + m.n ≤ fill
          | .zero => (∃ e ∈ es, e.kind = .zero ∧ within e m.off m.n) ∨ clear m.off m.n ∧ fill ≤ m.off))

/-- The claim on a logical band (R188). A COMMIT note below the discard floor counts for nothing. One at or above it that
names a new band: the candidate on that band whose base is the snapshot seq wins and every other loses; where there is none
every candidate loses and the logical band is FAULTED. With no note, or with one that names no new band, the floor is the
discard floor, raised to the note's snapshot seq, and the winner is an eligible candidate: its base at or above the floor and
below next seq, a marked one at least 2 below the tail seq. Where an eligible candidate lies below the tail seq the highest base
of those wins, and where none does the lowest base, equal bases by the lower physical band; every other candidate loses. -/
def Obligations.ClaimsFollowTheLog : Prop :=
  ∀ (tailSeq nextSeq df : Nat) (cs : List Candidate),
    let claim := fun (note : Option CommitNote) => resolveClaim tailSeq nextSeq df note cs
    let byBase := fun (floor : Nat) (c : Claim) =>
      let eligible := fun (x : Candidate) => floor ≤ x.base ∧ x.base < nextSeq ∧
        (x.mark = true → x.base + 2 ≤ tailSeq)
      c.floor = floor ∧ c.faulted = false ∧ (c.winner = none ↔ ∀ x ∈ cs, ¬ eligible x) ∧
      (∀ x ∈ cs, x ∈ c.losers ↔ c.winner ≠ some x) ∧
      ∀ w, c.winner = some w → w ∈ cs ∧ eligible w ∧
        ((∃ x ∈ cs, eligible x ∧ x.base < tailSeq) → w.base < tailSeq ∧
          ∀ x ∈ cs, eligible x → x.base < tailSeq → x.base < w.base ∨ x.base = w.base ∧ w.p ≤ x.p) ∧
        ((∀ x ∈ cs, eligible x → tailSeq ≤ x.base) →
          ∀ x ∈ cs, eligible x → w.base < x.base ∨ w.base = x.base ∧ w.p ≤ x.p)
    byBase df (claim none) ∧
    ∀ n : CommitNote,
      (n.snapSeq < df → claim (some n) = claim none) ∧
      (df ≤ n.snapSeq → n.newBand = none → byBase n.snapSeq (claim (some n))) ∧
      (∀ ph : Nat, df ≤ n.snapSeq → n.snapSeq < nextSeq → n.newBand = some ph →
        let c := claim (some n)
        c.floor = n.snapSeq ∧ (c.faulted = true ↔ c.winner = none) ∧
        (c.winner = none ↔ ∀ x ∈ cs, ¬ (x.p = ph ∧ x.base = n.snapSeq)) ∧
        (∀ x ∈ cs, x ∈ c.losers ↔ c.winner ≠ some x) ∧
        ∀ w, c.winner = some w → w ∈ cs ∧ w.p = ph ∧ w.base = n.snapSeq)

/-- The frame of a well-formed command of the initiator has 32 bytes and reads back as the command, with every field at every
value (R127, R199); a status has its tag and completion code as its two bytes, and reads back (R199, R208). The block of a
directive reads back as the directive and its number, with every parameter at every value its width holds (R200, R208). The
anchor has its signature, its fields and its check value where the table puts them, and what mount reads of it are the
layout, the tail, and every setting as it was stored, but for a retention entry's activity, which no anchor holds (R59, R149,
R198). That a fixed entry's byte is 1 is the model's choice (notes/assumptions/22.md). -/
def Obligations.FramesStatusesDirectivesAndAnchorsReadBack : Prop :=
  (∀ (i : Instr) (f : List Byte), wellFormed i = true → encodeFrame i = some f →
     f.length = 32 ∧ decodeFrame f = some i) ∧
  (∀ (tag : Fin 32) (c : Code),
     (InitOut.status tag c).statusBytes = some [BitVec.ofNat 8 tag.val, BitVec.ofNat 8 (codeNum c)] ∧
     readStatus (Sys2Proof.statusBytes tag c) = some (tag.val, c)) ∧
  (∀ (num : BitVec 32) (d : Directive),
     (∀ c, d = .unknown c → c = 0 ∨ 13 < c.toNat) →
     (∀ id a c len reply, d = .answer id a c len reply → reply.length = min len.toNat 4080) →
     decodeDirective (encodeDirective num d) = d ∧ directiveNum (encodeDirective num d) = num) ∧
  (∀ a : AnchorData,
     let g := a.layout
     let y := a.policy
     g.bandBlocks < 2 ^ 32 → g.bands < 2 ^ 32 → g.spares < 2 ^ 16 → g.conv < 2 ^ 64 → g.logLen < 2 ^ 32 →
     a.logBase < 2 ^ 32 → a.tail < 2 ^ 32 → a.tailSeq < 2 ^ 48 →
     (∀ v ∈ [y.lowQ, y.highQ, y.hardQ, y.paceQ, y.contexts, y.timeout], v < 2 ^ 8) →
     (∀ v ∈ [y.gap, y.burst], v < 2 ^ 16) →
     a.ranges.length = 8 → (∀ e ∈ a.ranges, e.start < 2 ^ 64 ∧ e.length < 2 ^ 64) →
     let b := encodeAnchor a
     bytesAt b 0 8 = ['S', 'B', '2', '4', 'A', 'N', 'C', 'R'].map (fun c => BitVec.ofNat 8 c.toNat) ∧
     field b 8 4 = g.bandBlocks ∧ field b 12 4 = g.bands ∧ field b 16 2 = g.spares ∧ field b 18 8 = g.conv ∧
     field b 26 4 = a.logBase ∧ field b 30 4 = g.logLen ∧ field b 34 4 = a.tail ∧ field b 38 6 = a.tailSeq ∧
     field b 44 1 = y.lowQ ∧ field b 45 1 = y.highQ ∧ field b 46 1 = y.hardQ ∧ field b 47 2 = y.gap ∧
     field b 49 1 = y.paceQ ∧ field b 50 2 = y.burst ∧ field b 52 1 = y.contexts ∧ field b 53 1 = y.timeout ∧
     (bytesAt b 54 6).map (·.toNat) =
       [a.disp.read, a.disp.write, a.disp.discard, a.disp.flush, a.disp.identify, a.disp.other].map dispNum ∧
     byteAt b 60 = a.enables ∧
     (∀ (i : Fin 8) (e : RangeEntry), a.ranges[i.val]? = some e →
       field b (61 + 18 * i) 8 = e.start ∧ field b (69 + 18 * i) 8 = e.length ∧
       field b (77 + 18 * i) 1 = rangeNum e.mode ∧ field b (78 + 18 * i) 1 = if e.fixed then 1 else 0) ∧
     field b 205 4 = (checkValue (bytesAt b 0 205)).toNat ∧ (∀ k, 209 ≤ k → byteAt b k = 0) ∧
     parseAnchor b =
       some { a with ranges := a.ranges.map fun e => { e with activity := false, count := 0 } })

/-- The layout of a band header (R196): its signature, logical band, base seq, target mark, and the check value
over the bytes before it; and mount reads back what it says (R30, R185). The layout of a record's header (R197): its
signature, kind, length, seq, the fields of its kind, an absent band as all ones (R195), and the check value at the kind's
offset, over the bytes before it and the data blocks of a DATA record (R43, R65); and what mount reads of it at the record's
position is the record's seq, length, kind and fields (R187). The write of a DATA record holds its n data blocks behind its
header. -/
def Obligations.BandAndRecordHeadersAreLaidOut : Prop :=
  (∀ (l base : Nat) (mark : Bool), l < 2 ^ 32 → base < 2 ^ 48 →
     let b := bandHeader l base mark
     bytesAt b 0 8 = ['S', 'B', '2', '4', 'B', 'A', 'N', 'D'].map (fun c => BitVec.ofNat 8 c.toNat) ∧
     field b 8 4 = l ∧ field b 12 6 = base ∧ byteAt b 18 = (if mark then 1 else 0) ∧
     field b 19 4 = (checkValue (bytesAt b 0 19)).toNat ∧ (∀ k, 23 ≤ k → byteAt b k = 0) ∧
     parseBandHeader b = some (l, base, mark)) ∧
  (∀ (r : Rec) (data : List Block), r.len < 2 ^ 16 → r.seq < 2 ^ 48 → (r.kind ≠ .data → data = []) →
     let b := recordHeader r data
     let check := fun (at_ : Nat) =>
       field b at_ 4 = (checkValue (bytesAt b 0 at_ ++ data.flatMap (fit 4096 0))).toNat ∧
       ∀ k, at_ + 4 ≤ k → byteAt b k = 0
     let base : Rec := { seq := r.seq, pos := r.pos, len := r.len, kind := r.kind }
     let reads := fun (x : Rec) => parseRecord b r.pos = some x
     bytesAt b 0 8 = ['S', 'B', '2', '4', 'L', 'R', 'E', 'C'].map (fun c => BitVec.ofNat 8 c.toNat) ∧
     field b 9 2 = r.len ∧ field b 11 6 = r.seq ∧
     (r.kind = .pad → field b 8 1 = 2 ∧ check 17 ∧ reads base) ∧
     (r.kind = .void → field b 8 1 = 5 ∧ check 17 ∧ reads base) ∧
     (∀ l, r.kind = .data → r.band = some l → l < 2 ^ 32 → r.off < 2 ^ 32 → r.n < 2 ^ 16 →
       field b 8 1 = 1 ∧ field b 17 4 = l ∧ field b 21 4 = r.off ∧ field b 25 2 = r.n ∧ check 27 ∧
       reads { base with band := some l, off := r.off, n := r.n }) ∧
     (∀ l, r.kind = .discard → r.band = some l → l < 2 ^ 32 → r.off < 2 ^ 32 → r.n < 2 ^ 32 →
       field b 8 1 = 3 ∧ field b 17 4 = l ∧ field b 21 4 = r.off ∧ field b 25 4 = r.n ∧
       byteAt b 29 = (if r.full then 1 else 0) ∧ check 30 ∧
       reads { base with band := some l, off := r.off, n := r.n, full := r.full }) ∧
     (∀ l, r.kind = .commit → r.band = some l → l < 2 ^ 32 → r.snapSeq < 2 ^ 48 → r.newFill < 2 ^ 32 →
       (∀ x ∈ r.oldBand, x < 2 ^ 32 - 1) → (∀ x ∈ r.newBand, x < 2 ^ 32 - 1) →
       field b 8 1 = 4 ∧ field b 17 4 = l ∧ field b 21 4 = r.oldBand.getD 0xFFFFFFFF ∧
       field b 25 4 = r.newBand.getD 0xFFFFFFFF ∧ field b 29 6 = r.snapSeq ∧ field b 35 4 = r.newFill ∧
       check 39 ∧
       reads { base with
         band := some l, oldBand := r.oldBand, newBand := r.newBand, snapSeq := r.snapSeq
         newFill := r.newFill })) ∧
  (∀ (p : Part) (o : Offer) (s : Nat) (r : Rec), p.log.find s = some r → r.kind = .data → o.work = .record s →
     ∃ data : List Block, data.length = r.n ∧ p.writeContent o = recordHeader r data :: data)

/-- Every command keeps the sizes of the fixed tables, the bounds of the bounded ones, a halt reason in HALTED and
only there, and the reserved drive slots to classes A and E (R18, R84, R86, R114, R128, R149, R157, R162, R170,
R175, R181). -/
def Obligations.EveryStepKeepsTheBounds : Prop :=
  ∀ s t : State, step s = .next t →
    s.part.sized ∧ s.part.bounded ∧ s.part.reasoned ∧ s.part.reservedKept →
    t.part.sized ∧ t.part.bounded ∧ t.part.reasoned ∧ t.part.reservedKept

/-- Every command keeps the extents in start order, disjoint and none empty (R67, R68). -/
def Obligations.EveryStepKeepsTheIndexInOrder : Prop :=
  ∀ s t : State, step s = .next t → s.part.indexOrdered → t.part.indexOrdered

/-- Every command keeps the occupancy equal to the total length of the records in the table, and in MOUNTING the blocks that
replay has accepted (R42, R186, R189). -/
def Obligations.EveryStepCountsTheLogBlocks : Prop :=
  ∀ s t : State, step s = .next t → s.part.blocksCounted → t.part.blocksCounted

/-- Every command keeps each context on the tag of its command, a window command in a context a WRITE, and the model's
identities of commands apart (R128, R129, R140, R147, R167). -/
def Obligations.EveryStepKeepsTheContextsSound : Prop :=
  ∀ s t : State, step s = .next t → s.part.commandsSound → t.part.commandsSound
end

