-- ==== Sys2Proof/Laws/Bytes.lean ====
section
/-! SUPPORT. What the byte operations do: little-endian fields read back, a block has one form, and a field of a
block is the field of the bytes it was made from. -/

namespace Sys2Proof.Machine

/-! ### Little-endian numbers (R195) -/

@[simp] theorem le_length (w x : Nat) : (le w x).length = w := by
  induction w generalizing x with
  | zero => rfl
  | succ w ih => simp [le, ih]

/-- Reading back the `w` low bytes of a number gives it modulo their range. -/
theorem leNat_le (w x : Nat) : leNat (le w x) = x % 256 ^ w := by
  induction w generalizing x with
  | zero => simp [le, leNat, Nat.mod_one]
  | succ w ih =>
    simp only [le, leNat, ih, BitVec.toNat_ofNat]
    rw [show (2 ^ 8 : Nat) = 256 from rfl, Nat.pow_succ, Nat.mul_comm (256 ^ w) 256, Nat.mod_mul]

theorem leNat_le_of_lt (w x : Nat) (h : x < 256 ^ w) : leNat (le w x) = x := by
  rw [leNat_le, Nat.mod_eq_of_lt h]

theorem leNat_lt (bs : List Byte) : leNat bs < 256 ^ bs.length := by
  induction bs with
  | nil => simp [leNat]
  | cons b bs ih =>
    have := b.isLt
    simp only [leNat, List.length_cons, Nat.pow_succ]
    omega

/-! ### Lists of bytes and blocks -/

/-- Dropping trailing zeros changes no byte. -/
theorem getD_dropTrailing (bs : List Byte) (i : Nat) :
    ((bs.reverse.dropWhile (· == 0)).reverse).getD i 0 = bs.getD i 0 := by
  induction bs using List.reverseRecOn with
  | nil => rfl
  | append_singleton l a ih =>
    rw [List.reverse_append, List.reverse_singleton, List.singleton_append, List.dropWhile_cons]
    by_cases h : (a == 0) = true
    · rw [if_pos h, ih]
      have h0 : a = 0 := by simpa using h
      subst h0
      simp only [List.getD_eq_getElem?_getD, List.getElem?_append]
      split
      · rfl
      · rename_i hi
        rw [List.getElem?_eq_none (by omega)]
        cases hk : i - l.length with
        | zero => rfl
        | succ k => simp
    · rw [if_neg h]; simp

/-- A byte of a block made from a list of at most 4,096 bytes is the list's byte. -/
theorem byteAt_toBlock (bs : List Byte) (i : Nat) (h : bs.length ≤ blockBytes) :
    byteAt (toBlock bs) i = bs.getD i 0 := by
  unfold byteAt toBlock
  rw [List.take_of_length_le h]
  exact getD_dropTrailing bs i

theorem dropWhile_idem (l : List Byte) :
    (l.dropWhile (· == 0)).dropWhile (· == 0) = l.dropWhile (· == 0) := by
  induction l with
  | nil => rfl
  | cons a l ih =>
    by_cases h : (a == 0) = true
    · simp only [List.dropWhile_cons, h, if_true, ih]
    · simp only [List.dropWhile_cons, if_neg h]

theorem toBlock_length (bs : List Byte) : (toBlock bs).length ≤ blockBytes := by
  unfold toBlock
  rw [List.length_reverse]
  refine Nat.le_trans (List.length_dropWhile_le _ _) ?_
  simp [List.length_take]

/-- A block is in its one form already. -/
@[simp] theorem toBlock_toBlock (bs : List Byte) : toBlock (toBlock bs) = toBlock bs := by
  have e : toBlock (toBlock bs) = ((toBlock bs).reverse.dropWhile (· == 0)).reverse := by
    conv => lhs; rw [toBlock.eq_1 (toBlock bs)]
    rw [List.take_of_length_le (toBlock_length bs)]
  rw [e]
  simp only [toBlock, List.reverse_reverse, dropWhile_idem]

/-- The bytes at `off` of a list that has `a` before `off` and goes on with `b`. -/
theorem bytesAt_append (a b c : List Byte) (off w : Nat) (ho : off = a.length) (hw : w = b.length) :
    bytesAt (a ++ (b ++ c)) off w = b := by
  subst ho hw
  apply List.ext_getElem
  · simp [bytesAt]
  · intro k hk hk2
    simp only [bytesAt, List.length_map, List.length_range] at hk
    simp only [bytesAt, byteAt, List.getElem_map, List.getElem_range]
    rw [List.getD_eq_getElem?_getD, List.getElem?_append_right (by omega), List.getElem?_append_left (by omega)]
    simp [hk2]

/-- The bytes at `off` of a block whose part before `off` is `a` and whose part from there on begins with
`b`. -/
theorem bytesAt_toBlock (a b c : List Byte) (off w : Nat) (ho : off = a.length) (hw : w = b.length)
    (h : (a ++ b ++ c).length ≤ blockBytes) : bytesAt (toBlock (a ++ b ++ c)) off w = b := by
  subst ho hw
  apply List.ext_getElem
  · simp [bytesAt]
  · intro k hk hk2
    simp only [bytesAt, List.length_map, List.length_range] at hk
    simp only [bytesAt, List.getElem_map, List.getElem_range]
    rw [byteAt_toBlock _ _ h, List.getD_eq_getElem?_getD, List.append_assoc, List.getElem?_append_right (by omega),
      List.getElem?_append_left (by omega)]
    simp [hk2]

/-- The field of `w` bytes written little-endian at `off` reads back (R195). -/
theorem field_toBlock (a c : List Byte) (off w x : Nat) (ho : off = a.length) (hx : x < 256 ^ w)
    (h : (a ++ le w x ++ c).length ≤ blockBytes) : field (toBlock (a ++ le w x ++ c)) off w = x := by
  unfold field
  rw [bytesAt_toBlock a (le w x) c off w ho (by simp) h, leNat_le_of_lt w x hx]

/-! ### Exact lengths -/

@[simp] theorem fit_length (n : Nat) (f : Byte) (bs : List Byte) : (fit n f bs).length = n := by
  simp [fit, List.length_take]; omega

theorem fit_of_length (n : Nat) (f : Byte) (bs : List Byte) (h : bs.length = n) : fit n f bs = bs := by
  simp [fit, ← h]

@[simp] theorem fitBlocks_length (n : Nat) (bs : List Block) : (fitBlocks n bs).length = n := by
  simp [fitBlocks, List.length_take]; omega

/-- Blocks in their one form, `n` of them from place `k`, are given as they stand. -/
theorem fitBlocks_drop (bs : List Block) (k n : Nat) (h : ∀ b ∈ bs, toBlock b = b) (hl : k + n ≤ bs.length) :
    fitBlocks n (bs.drop k) = (bs.drop k).take n := by
  have e : n - (bs.drop k).length = 0 := by simp; omega
  rw [fitBlocks, e, List.replicate_zero, List.append_nil]
  exact (List.map_congr_left fun b hb =>
    h b (List.mem_of_mem_drop (List.mem_of_mem_take hb))).trans (List.map_id _)

@[simp] theorem zeros_length (n : Nat) : (zeros n).length = n := by simp [zeros]

/-! ### Sealed headers (R65, R195) -/

/-- The bytes of a sealed header ahead of its check value are the header's. -/
theorem bytesAt_sealed (hdr : List Byte) (data : List Block) (off w : Nat) (h : off + w ≤ hdr.length)
    (h2 : hdr.length + 4 ≤ blockBytes) : bytesAt (sealed hdr data) off w = bytesAt hdr off w := by
  simp only [bytesAt]
  refine List.map_congr_left fun i hi => ?_
  have hi := List.mem_range.mp hi
  unfold sealed
  rw [byteAt_toBlock _ _ (by simpa using h2), List.getD_append _ _ _ _ (by omega)]
  rfl

/-- The same for one byte. -/
theorem byteAt_sealed (hdr : List Byte) (data : List Block) (i : Nat) (h : i < hdr.length)
    (h2 : hdr.length + 4 ≤ blockBytes) : byteAt (sealed hdr data) i = byteAt hdr i := by
  unfold sealed
  rw [byteAt_toBlock _ _ (by simpa using h2), List.getD_append _ _ _ _ h]
  rfl

/-- The check value of a sealed header matches (R65). -/
theorem checkMatches_sealed (hdr : List Byte) (data : List Block) (h : hdr.length + 4 ≤ blockBytes) :
    checkMatches (sealed hdr data) hdr.length data = true := by
  have hb : bytesAt (sealed hdr data) 0 hdr.length = hdr := by
    have := bytesAt_toBlock [] hdr (le 4 (checkValue (hdr ++ data.flatMap fullBlock)).toNat) 0 hdr.length rfl rfl
      (by simpa using h)
    exact this
  have hf := field_toBlock hdr [] hdr.length 4 (checkValue (hdr ++ data.flatMap fullBlock)).toNat rfl
    (by exact (checkValue (hdr ++ data.flatMap fullBlock)).isLt) (by simpa using h)
  rw [List.append_nil] at hf
  unfold checkMatches
  rw [hb]
  exact beq_iff_eq.mpr hf

end Sys2Proof.Machine
end

