-- ==== Sys2Proof/Laws/State.lean ====
section
/-! SUPPORT. Frames of the small updates of the part: an update leaves every block of the state but its own as it
was (one lemma per block per update). -/

namespace Sys2Proof.Machine

variable (s : Part)

@[simp] theorem Part.onL_sys (l : Nat) (f : LBand → LBand) :
    (s.onL l f).sys = s.sys := rfl
@[simp] theorem Part.onL_cfg (l : Nat) (f : LBand → LBand) :
    (s.onL l f).cfg = s.cfg := rfl
@[simp] theorem Part.onL_ret (l : Nat) (f : LBand → LBand) :
    (s.onL l f).ret = s.ret := rfl
@[simp] theorem Part.onL_win (l : Nat) (f : LBand → LBand) :
    (s.onL l f).win = s.win := rfl
@[simp] theorem Part.onL_ref (l : Nat) (f : LBand → LBand) :
    (s.onL l f).ref = s.ref := rfl
@[simp] theorem Part.onL_ini (l : Nat) (f : LBand → LBand) :
    (s.onL l f).ini = s.ini := rfl
@[simp] theorem Part.onL_pace (l : Nat) (f : LBand → LBand) :
    (s.onL l f).pace = s.pace := rfl
@[simp] theorem Part.onL_log (l : Nat) (f : LBand → LBand) :
    (s.onL l f).log = s.log := rfl
@[simp] theorem Part.onL_idx (l : Nat) (f : LBand → LBand) :
    (s.onL l f).idx = s.idx := rfl
@[simp] theorem Part.onL_mrg (l : Nat) (f : LBand → LBand) :
    (s.onL l f).mrg = s.mrg := rfl
@[simp] theorem Part.onL_port (l : Nat) (f : LBand → LBand) :
    (s.onL l f).port = s.port := rfl
@[simp] theorem Part.onL_mnt (l : Nat) (f : LBand → LBand) :
    (s.onL l f).mnt = s.mnt := rfl
@[simp] theorem Part.onL_fmt (l : Nat) (f : LBand → LBand) :
    (s.onL l f).fmt = s.fmt := rfl

@[simp] theorem Part.onP_sys (p : Nat) (f : PBand → PBand) :
    (s.onP p f).sys = s.sys := rfl
@[simp] theorem Part.onP_cfg (p : Nat) (f : PBand → PBand) :
    (s.onP p f).cfg = s.cfg := rfl
@[simp] theorem Part.onP_ret (p : Nat) (f : PBand → PBand) :
    (s.onP p f).ret = s.ret := rfl
@[simp] theorem Part.onP_win (p : Nat) (f : PBand → PBand) :
    (s.onP p f).win = s.win := rfl
@[simp] theorem Part.onP_ref (p : Nat) (f : PBand → PBand) :
    (s.onP p f).ref = s.ref := rfl
@[simp] theorem Part.onP_ini (p : Nat) (f : PBand → PBand) :
    (s.onP p f).ini = s.ini := rfl
@[simp] theorem Part.onP_pace (p : Nat) (f : PBand → PBand) :
    (s.onP p f).pace = s.pace := rfl
@[simp] theorem Part.onP_log (p : Nat) (f : PBand → PBand) :
    (s.onP p f).log = s.log := rfl
@[simp] theorem Part.onP_idx (p : Nat) (f : PBand → PBand) :
    (s.onP p f).idx = s.idx := rfl
@[simp] theorem Part.onP_mrg (p : Nat) (f : PBand → PBand) :
    (s.onP p f).mrg = s.mrg := rfl
@[simp] theorem Part.onP_port (p : Nat) (f : PBand → PBand) :
    (s.onP p f).port = s.port := rfl
@[simp] theorem Part.onP_mnt (p : Nat) (f : PBand → PBand) :
    (s.onP p f).mnt = s.mnt := rfl
@[simp] theorem Part.onP_fmt (p : Nat) (f : PBand → PBand) :
    (s.onP p f).fmt = s.fmt := rfl

@[simp] theorem Part.onRec_sys (q : Nat) (f : Rec → Rec) :
    (s.onRec q f).sys = s.sys := rfl
@[simp] theorem Part.onRec_cfg (q : Nat) (f : Rec → Rec) :
    (s.onRec q f).cfg = s.cfg := rfl
@[simp] theorem Part.onRec_ret (q : Nat) (f : Rec → Rec) :
    (s.onRec q f).ret = s.ret := rfl
@[simp] theorem Part.onRec_win (q : Nat) (f : Rec → Rec) :
    (s.onRec q f).win = s.win := rfl
@[simp] theorem Part.onRec_ref (q : Nat) (f : Rec → Rec) :
    (s.onRec q f).ref = s.ref := rfl
@[simp] theorem Part.onRec_ini (q : Nat) (f : Rec → Rec) :
    (s.onRec q f).ini = s.ini := rfl
@[simp] theorem Part.onRec_pace (q : Nat) (f : Rec → Rec) :
    (s.onRec q f).pace = s.pace := rfl
@[simp] theorem Part.onRec_bands (q : Nat) (f : Rec → Rec) :
    (s.onRec q f).bands = s.bands := rfl
@[simp] theorem Part.onRec_idx (q : Nat) (f : Rec → Rec) :
    (s.onRec q f).idx = s.idx := rfl
@[simp] theorem Part.onRec_mrg (q : Nat) (f : Rec → Rec) :
    (s.onRec q f).mrg = s.mrg := rfl
@[simp] theorem Part.onRec_port (q : Nat) (f : Rec → Rec) :
    (s.onRec q f).port = s.port := rfl
@[simp] theorem Part.onRec_mnt (q : Nat) (f : Rec → Rec) :
    (s.onRec q f).mnt = s.mnt := rfl
@[simp] theorem Part.onRec_fmt (q : Nat) (f : Rec → Rec) :
    (s.onRec q f).fmt = s.fmt := rfl

@[simp] theorem Part.onCtx_sys (i : Nat) (f : MergeCtx → MergeCtx) :
    (s.onCtx i f).sys = s.sys := rfl
@[simp] theorem Part.onCtx_cfg (i : Nat) (f : MergeCtx → MergeCtx) :
    (s.onCtx i f).cfg = s.cfg := rfl
@[simp] theorem Part.onCtx_ret (i : Nat) (f : MergeCtx → MergeCtx) :
    (s.onCtx i f).ret = s.ret := rfl
@[simp] theorem Part.onCtx_win (i : Nat) (f : MergeCtx → MergeCtx) :
    (s.onCtx i f).win = s.win := rfl
@[simp] theorem Part.onCtx_ref (i : Nat) (f : MergeCtx → MergeCtx) :
    (s.onCtx i f).ref = s.ref := rfl
@[simp] theorem Part.onCtx_ini (i : Nat) (f : MergeCtx → MergeCtx) :
    (s.onCtx i f).ini = s.ini := rfl
@[simp] theorem Part.onCtx_pace (i : Nat) (f : MergeCtx → MergeCtx) :
    (s.onCtx i f).pace = s.pace := rfl
@[simp] theorem Part.onCtx_bands (i : Nat) (f : MergeCtx → MergeCtx) :
    (s.onCtx i f).bands = s.bands := rfl
@[simp] theorem Part.onCtx_log (i : Nat) (f : MergeCtx → MergeCtx) :
    (s.onCtx i f).log = s.log := rfl
@[simp] theorem Part.onCtx_idx (i : Nat) (f : MergeCtx → MergeCtx) :
    (s.onCtx i f).idx = s.idx := rfl
@[simp] theorem Part.onCtx_port (i : Nat) (f : MergeCtx → MergeCtx) :
    (s.onCtx i f).port = s.port := rfl
@[simp] theorem Part.onCtx_mnt (i : Nat) (f : MergeCtx → MergeCtx) :
    (s.onCtx i f).mnt = s.mnt := rfl
@[simp] theorem Part.onCtx_fmt (i : Nat) (f : MergeCtx → MergeCtx) :
    (s.onCtx i f).fmt = s.fmt := rfl

@[simp] theorem Part.onFmt_sys (g : Format → Format) :
    (s.onFmt g).sys = s.sys := rfl
@[simp] theorem Part.onFmt_cfg (g : Format → Format) :
    (s.onFmt g).cfg = s.cfg := rfl
@[simp] theorem Part.onFmt_ret (g : Format → Format) :
    (s.onFmt g).ret = s.ret := rfl
@[simp] theorem Part.onFmt_win (g : Format → Format) :
    (s.onFmt g).win = s.win := rfl
@[simp] theorem Part.onFmt_ref (g : Format → Format) :
    (s.onFmt g).ref = s.ref := rfl
@[simp] theorem Part.onFmt_ini (g : Format → Format) :
    (s.onFmt g).ini = s.ini := rfl
@[simp] theorem Part.onFmt_pace (g : Format → Format) :
    (s.onFmt g).pace = s.pace := rfl
@[simp] theorem Part.onFmt_bands (g : Format → Format) :
    (s.onFmt g).bands = s.bands := rfl
@[simp] theorem Part.onFmt_log (g : Format → Format) :
    (s.onFmt g).log = s.log := rfl
@[simp] theorem Part.onFmt_idx (g : Format → Format) :
    (s.onFmt g).idx = s.idx := rfl
@[simp] theorem Part.onFmt_mrg (g : Format → Format) :
    (s.onFmt g).mrg = s.mrg := rfl
@[simp] theorem Part.onFmt_port (g : Format → Format) :
    (s.onFmt g).port = s.port := rfl
@[simp] theorem Part.onFmt_mnt (g : Format → Format) :
    (s.onFmt g).mnt = s.mnt := rfl

@[simp] theorem Part.alert_sys (a : Alert) :
    (s.alert a).sys = s.sys := rfl
@[simp] theorem Part.alert_cfg (a : Alert) :
    (s.alert a).cfg = s.cfg := rfl
@[simp] theorem Part.alert_ret (a : Alert) :
    (s.alert a).ret = s.ret := rfl
@[simp] theorem Part.alert_ref (a : Alert) :
    (s.alert a).ref = s.ref := rfl
@[simp] theorem Part.alert_ini (a : Alert) :
    (s.alert a).ini = s.ini := rfl
@[simp] theorem Part.alert_pace (a : Alert) :
    (s.alert a).pace = s.pace := rfl
@[simp] theorem Part.alert_bands (a : Alert) :
    (s.alert a).bands = s.bands := rfl
@[simp] theorem Part.alert_log (a : Alert) :
    (s.alert a).log = s.log := rfl
@[simp] theorem Part.alert_idx (a : Alert) :
    (s.alert a).idx = s.idx := rfl
@[simp] theorem Part.alert_mrg (a : Alert) :
    (s.alert a).mrg = s.mrg := rfl
@[simp] theorem Part.alert_port (a : Alert) :
    (s.alert a).port = s.port := rfl
@[simp] theorem Part.alert_mnt (a : Alert) :
    (s.alert a).mnt = s.mnt := rfl
@[simp] theorem Part.alert_fmt (a : Alert) :
    (s.alert a).fmt = s.fmt := rfl

@[simp] theorem Part.respond_sys (n : BitVec 32) (c : Byte) (r : Result) (d : List Byte) :
    (s.respond n c r d).sys = s.sys := rfl
@[simp] theorem Part.respond_cfg (n : BitVec 32) (c : Byte) (r : Result) (d : List Byte) :
    (s.respond n c r d).cfg = s.cfg := rfl
@[simp] theorem Part.respond_ret (n : BitVec 32) (c : Byte) (r : Result) (d : List Byte) :
    (s.respond n c r d).ret = s.ret := rfl
@[simp] theorem Part.respond_ref (n : BitVec 32) (c : Byte) (r : Result) (d : List Byte) :
    (s.respond n c r d).ref = s.ref := rfl
@[simp] theorem Part.respond_ini (n : BitVec 32) (c : Byte) (r : Result) (d : List Byte) :
    (s.respond n c r d).ini = s.ini := rfl
@[simp] theorem Part.respond_pace (n : BitVec 32) (c : Byte) (r : Result) (d : List Byte) :
    (s.respond n c r d).pace = s.pace := rfl
@[simp] theorem Part.respond_bands (n : BitVec 32) (c : Byte) (r : Result) (d : List Byte) :
    (s.respond n c r d).bands = s.bands := rfl
@[simp] theorem Part.respond_log (n : BitVec 32) (c : Byte) (r : Result) (d : List Byte) :
    (s.respond n c r d).log = s.log := rfl
@[simp] theorem Part.respond_idx (n : BitVec 32) (c : Byte) (r : Result) (d : List Byte) :
    (s.respond n c r d).idx = s.idx := rfl
@[simp] theorem Part.respond_mrg (n : BitVec 32) (c : Byte) (r : Result) (d : List Byte) :
    (s.respond n c r d).mrg = s.mrg := rfl
@[simp] theorem Part.respond_port (n : BitVec 32) (c : Byte) (r : Result) (d : List Byte) :
    (s.respond n c r d).port = s.port := rfl
@[simp] theorem Part.respond_mnt (n : BitVec 32) (c : Byte) (r : Result) (d : List Byte) :
    (s.respond n c r d).mnt = s.mnt := rfl
@[simp] theorem Part.respond_fmt (n : BitVec 32) (c : Byte) (r : Result) (d : List Byte) :
    (s.respond n c r d).fmt = s.fmt := rfl

@[simp] theorem Part.setPending_sys (n : BitVec 32) (c : Byte) :
    (s.setPending n c).sys = s.sys := rfl
@[simp] theorem Part.setPending_cfg (n : BitVec 32) (c : Byte) :
    (s.setPending n c).cfg = s.cfg := rfl
@[simp] theorem Part.setPending_ret (n : BitVec 32) (c : Byte) :
    (s.setPending n c).ret = s.ret := rfl
@[simp] theorem Part.setPending_ref (n : BitVec 32) (c : Byte) :
    (s.setPending n c).ref = s.ref := rfl
@[simp] theorem Part.setPending_ini (n : BitVec 32) (c : Byte) :
    (s.setPending n c).ini = s.ini := rfl
@[simp] theorem Part.setPending_pace (n : BitVec 32) (c : Byte) :
    (s.setPending n c).pace = s.pace := rfl
@[simp] theorem Part.setPending_bands (n : BitVec 32) (c : Byte) :
    (s.setPending n c).bands = s.bands := rfl
@[simp] theorem Part.setPending_log (n : BitVec 32) (c : Byte) :
    (s.setPending n c).log = s.log := rfl
@[simp] theorem Part.setPending_idx (n : BitVec 32) (c : Byte) :
    (s.setPending n c).idx = s.idx := rfl
@[simp] theorem Part.setPending_mrg (n : BitVec 32) (c : Byte) :
    (s.setPending n c).mrg = s.mrg := rfl
@[simp] theorem Part.setPending_port (n : BitVec 32) (c : Byte) :
    (s.setPending n c).port = s.port := rfl
@[simp] theorem Part.setPending_mnt (n : BitVec 32) (c : Byte) :
    (s.setPending n c).mnt = s.mnt := rfl
@[simp] theorem Part.setPending_fmt (n : BitVec 32) (c : Byte) :
    (s.setPending n c).fmt = s.fmt := rfl

@[simp] theorem Part.send_sys (m : InitOut) :
    (s.send m).sys = s.sys := rfl
@[simp] theorem Part.send_cfg (m : InitOut) :
    (s.send m).cfg = s.cfg := rfl
@[simp] theorem Part.send_ret (m : InitOut) :
    (s.send m).ret = s.ret := rfl
@[simp] theorem Part.send_win (m : InitOut) :
    (s.send m).win = s.win := rfl
@[simp] theorem Part.send_ref (m : InitOut) :
    (s.send m).ref = s.ref := rfl
@[simp] theorem Part.send_pace (m : InitOut) :
    (s.send m).pace = s.pace := rfl
@[simp] theorem Part.send_bands (m : InitOut) :
    (s.send m).bands = s.bands := rfl
@[simp] theorem Part.send_log (m : InitOut) :
    (s.send m).log = s.log := rfl
@[simp] theorem Part.send_idx (m : InitOut) :
    (s.send m).idx = s.idx := rfl
@[simp] theorem Part.send_mrg (m : InitOut) :
    (s.send m).mrg = s.mrg := rfl
@[simp] theorem Part.send_port (m : InitOut) :
    (s.send m).port = s.port := rfl
@[simp] theorem Part.send_mnt (m : InitOut) :
    (s.send m).mnt = s.mnt := rfl
@[simp] theorem Part.send_fmt (m : InitOut) :
    (s.send m).fmt = s.fmt := rfl

@[simp] theorem Part.refuse_sys (t : Nat) (c : Code) :
    (s.refuse t c).sys = s.sys := rfl
@[simp] theorem Part.refuse_cfg (t : Nat) (c : Code) :
    (s.refuse t c).cfg = s.cfg := rfl
@[simp] theorem Part.refuse_ret (t : Nat) (c : Code) :
    (s.refuse t c).ret = s.ret := rfl
@[simp] theorem Part.refuse_win (t : Nat) (c : Code) :
    (s.refuse t c).win = s.win := rfl
@[simp] theorem Part.refuse_ref (t : Nat) (c : Code) :
    (s.refuse t c).ref = s.ref := rfl
@[simp] theorem Part.refuse_pace (t : Nat) (c : Code) :
    (s.refuse t c).pace = s.pace := rfl
@[simp] theorem Part.refuse_bands (t : Nat) (c : Code) :
    (s.refuse t c).bands = s.bands := rfl
@[simp] theorem Part.refuse_log (t : Nat) (c : Code) :
    (s.refuse t c).log = s.log := rfl
@[simp] theorem Part.refuse_idx (t : Nat) (c : Code) :
    (s.refuse t c).idx = s.idx := rfl
@[simp] theorem Part.refuse_mrg (t : Nat) (c : Code) :
    (s.refuse t c).mrg = s.mrg := rfl
@[simp] theorem Part.refuse_port (t : Nat) (c : Code) :
    (s.refuse t c).port = s.port := rfl
@[simp] theorem Part.refuse_mnt (t : Nat) (c : Code) :
    (s.refuse t c).mnt = s.mnt := rfl
@[simp] theorem Part.refuse_fmt (t : Nat) (c : Code) :
    (s.refuse t c).fmt = s.fmt := rfl

@[simp] theorem Part.putTag_sys (t : Nat) (c : Option Cmd) :
    (s.putTag t c).sys = s.sys := rfl
@[simp] theorem Part.putTag_cfg (t : Nat) (c : Option Cmd) :
    (s.putTag t c).cfg = s.cfg := rfl
@[simp] theorem Part.putTag_ret (t : Nat) (c : Option Cmd) :
    (s.putTag t c).ret = s.ret := rfl
@[simp] theorem Part.putTag_win (t : Nat) (c : Option Cmd) :
    (s.putTag t c).win = s.win := rfl
@[simp] theorem Part.putTag_ref (t : Nat) (c : Option Cmd) :
    (s.putTag t c).ref = s.ref := rfl
@[simp] theorem Part.putTag_pace (t : Nat) (c : Option Cmd) :
    (s.putTag t c).pace = s.pace := rfl
@[simp] theorem Part.putTag_bands (t : Nat) (c : Option Cmd) :
    (s.putTag t c).bands = s.bands := rfl
@[simp] theorem Part.putTag_log (t : Nat) (c : Option Cmd) :
    (s.putTag t c).log = s.log := rfl
@[simp] theorem Part.putTag_idx (t : Nat) (c : Option Cmd) :
    (s.putTag t c).idx = s.idx := rfl
@[simp] theorem Part.putTag_mrg (t : Nat) (c : Option Cmd) :
    (s.putTag t c).mrg = s.mrg := rfl
@[simp] theorem Part.putTag_port (t : Nat) (c : Option Cmd) :
    (s.putTag t c).port = s.port := rfl
@[simp] theorem Part.putTag_mnt (t : Nat) (c : Option Cmd) :
    (s.putTag t c).mnt = s.mnt := rfl
@[simp] theorem Part.putTag_fmt (t : Nat) (c : Option Cmd) :
    (s.putTag t c).fmt = s.fmt := rfl

@[simp] theorem Part.onCmd_sys (c : Nat) (f : Cmd → Cmd) :
    (s.onCmd c f).sys = s.sys := rfl
@[simp] theorem Part.onCmd_cfg (c : Nat) (f : Cmd → Cmd) :
    (s.onCmd c f).cfg = s.cfg := rfl
@[simp] theorem Part.onCmd_ret (c : Nat) (f : Cmd → Cmd) :
    (s.onCmd c f).ret = s.ret := rfl
@[simp] theorem Part.onCmd_win (c : Nat) (f : Cmd → Cmd) :
    (s.onCmd c f).win = s.win := rfl
@[simp] theorem Part.onCmd_ref (c : Nat) (f : Cmd → Cmd) :
    (s.onCmd c f).ref = s.ref := rfl
@[simp] theorem Part.onCmd_pace (c : Nat) (f : Cmd → Cmd) :
    (s.onCmd c f).pace = s.pace := rfl
@[simp] theorem Part.onCmd_bands (c : Nat) (f : Cmd → Cmd) :
    (s.onCmd c f).bands = s.bands := rfl
@[simp] theorem Part.onCmd_log (c : Nat) (f : Cmd → Cmd) :
    (s.onCmd c f).log = s.log := rfl
@[simp] theorem Part.onCmd_idx (c : Nat) (f : Cmd → Cmd) :
    (s.onCmd c f).idx = s.idx := rfl
@[simp] theorem Part.onCmd_mrg (c : Nat) (f : Cmd → Cmd) :
    (s.onCmd c f).mrg = s.mrg := rfl
@[simp] theorem Part.onCmd_port (c : Nat) (f : Cmd → Cmd) :
    (s.onCmd c f).port = s.port := rfl
@[simp] theorem Part.onCmd_mnt (c : Nat) (f : Cmd → Cmd) :
    (s.onCmd c f).mnt = s.mnt := rfl
@[simp] theorem Part.onCmd_fmt (c : Nat) (f : Cmd → Cmd) :
    (s.onCmd c f).fmt = s.fmt := rfl

@[simp] theorem Part.partFinal_sys (c i : Nat) (x : PartState) :
    (s.partFinal c i x).sys = s.sys := rfl
@[simp] theorem Part.partFinal_cfg (c i : Nat) (x : PartState) :
    (s.partFinal c i x).cfg = s.cfg := rfl
@[simp] theorem Part.partFinal_ret (c i : Nat) (x : PartState) :
    (s.partFinal c i x).ret = s.ret := rfl
@[simp] theorem Part.partFinal_win (c i : Nat) (x : PartState) :
    (s.partFinal c i x).win = s.win := rfl
@[simp] theorem Part.partFinal_ref (c i : Nat) (x : PartState) :
    (s.partFinal c i x).ref = s.ref := rfl
@[simp] theorem Part.partFinal_pace (c i : Nat) (x : PartState) :
    (s.partFinal c i x).pace = s.pace := rfl
@[simp] theorem Part.partFinal_bands (c i : Nat) (x : PartState) :
    (s.partFinal c i x).bands = s.bands := rfl
@[simp] theorem Part.partFinal_log (c i : Nat) (x : PartState) :
    (s.partFinal c i x).log = s.log := rfl
@[simp] theorem Part.partFinal_idx (c i : Nat) (x : PartState) :
    (s.partFinal c i x).idx = s.idx := rfl
@[simp] theorem Part.partFinal_mrg (c i : Nat) (x : PartState) :
    (s.partFinal c i x).mrg = s.mrg := rfl
@[simp] theorem Part.partFinal_port (c i : Nat) (x : PartState) :
    (s.partFinal c i x).port = s.port := rfl
@[simp] theorem Part.partFinal_mnt (c i : Nat) (x : PartState) :
    (s.partFinal c i x).mnt = s.mnt := rfl
@[simp] theorem Part.partFinal_fmt (c i : Nat) (x : PartState) :
    (s.partFinal c i x).fmt = s.fmt := rfl

@[simp] theorem Part.addParts_sys (c k : Nat) :
    (s.addParts c k).sys = s.sys := rfl
@[simp] theorem Part.addParts_cfg (c k : Nat) :
    (s.addParts c k).cfg = s.cfg := rfl
@[simp] theorem Part.addParts_ret (c k : Nat) :
    (s.addParts c k).ret = s.ret := rfl
@[simp] theorem Part.addParts_win (c k : Nat) :
    (s.addParts c k).win = s.win := rfl
@[simp] theorem Part.addParts_ref (c k : Nat) :
    (s.addParts c k).ref = s.ref := rfl
@[simp] theorem Part.addParts_pace (c k : Nat) :
    (s.addParts c k).pace = s.pace := rfl
@[simp] theorem Part.addParts_bands (c k : Nat) :
    (s.addParts c k).bands = s.bands := rfl
@[simp] theorem Part.addParts_log (c k : Nat) :
    (s.addParts c k).log = s.log := rfl
@[simp] theorem Part.addParts_idx (c k : Nat) :
    (s.addParts c k).idx = s.idx := rfl
@[simp] theorem Part.addParts_mrg (c k : Nat) :
    (s.addParts c k).mrg = s.mrg := rfl
@[simp] theorem Part.addParts_port (c k : Nat) :
    (s.addParts c k).port = s.port := rfl
@[simp] theorem Part.addParts_mnt (c k : Nat) :
    (s.addParts c k).mnt = s.mnt := rfl
@[simp] theorem Part.addParts_fmt (c k : Nat) :
    (s.addParts c k).fmt = s.fmt := rfl

@[simp] theorem Part.offer_sys (o : Offer) :
    (s.offer o).sys = s.sys := rfl
@[simp] theorem Part.offer_cfg (o : Offer) :
    (s.offer o).cfg = s.cfg := rfl
@[simp] theorem Part.offer_ret (o : Offer) :
    (s.offer o).ret = s.ret := rfl
@[simp] theorem Part.offer_win (o : Offer) :
    (s.offer o).win = s.win := rfl
@[simp] theorem Part.offer_ref (o : Offer) :
    (s.offer o).ref = s.ref := rfl
@[simp] theorem Part.offer_ini (o : Offer) :
    (s.offer o).ini = s.ini := rfl
@[simp] theorem Part.offer_pace (o : Offer) :
    (s.offer o).pace = s.pace := rfl
@[simp] theorem Part.offer_bands (o : Offer) :
    (s.offer o).bands = s.bands := rfl
@[simp] theorem Part.offer_log (o : Offer) :
    (s.offer o).log = s.log := rfl
@[simp] theorem Part.offer_idx (o : Offer) :
    (s.offer o).idx = s.idx := rfl
@[simp] theorem Part.offer_mrg (o : Offer) :
    (s.offer o).mrg = s.mrg := rfl
@[simp] theorem Part.offer_mnt (o : Offer) :
    (s.offer o).mnt = s.mnt := rfl
@[simp] theorem Part.offer_fmt (o : Offer) :
    (s.offer o).fmt = s.fmt := rfl

@[simp] theorem Part.offerAll_sys (os : List Offer) :
    (s.offerAll os).sys = s.sys := rfl
@[simp] theorem Part.offerAll_cfg (os : List Offer) :
    (s.offerAll os).cfg = s.cfg := rfl
@[simp] theorem Part.offerAll_ret (os : List Offer) :
    (s.offerAll os).ret = s.ret := rfl
@[simp] theorem Part.offerAll_win (os : List Offer) :
    (s.offerAll os).win = s.win := rfl
@[simp] theorem Part.offerAll_ref (os : List Offer) :
    (s.offerAll os).ref = s.ref := rfl
@[simp] theorem Part.offerAll_ini (os : List Offer) :
    (s.offerAll os).ini = s.ini := rfl
@[simp] theorem Part.offerAll_pace (os : List Offer) :
    (s.offerAll os).pace = s.pace := rfl
@[simp] theorem Part.offerAll_bands (os : List Offer) :
    (s.offerAll os).bands = s.bands := rfl
@[simp] theorem Part.offerAll_log (os : List Offer) :
    (s.offerAll os).log = s.log := rfl
@[simp] theorem Part.offerAll_idx (os : List Offer) :
    (s.offerAll os).idx = s.idx := rfl
@[simp] theorem Part.offerAll_mrg (os : List Offer) :
    (s.offerAll os).mrg = s.mrg := rfl
@[simp] theorem Part.offerAll_mnt (os : List Offer) :
    (s.offerAll os).mnt = s.mnt := rfl
@[simp] theorem Part.offerAll_fmt (os : List Offer) :
    (s.offerAll os).fmt = s.fmt := rfl

@[simp] theorem Part.withdraw_sys (w : Work → Bool) :
    (s.withdraw w).sys = s.sys := rfl
@[simp] theorem Part.withdraw_cfg (w : Work → Bool) :
    (s.withdraw w).cfg = s.cfg := rfl
@[simp] theorem Part.withdraw_ret (w : Work → Bool) :
    (s.withdraw w).ret = s.ret := rfl
@[simp] theorem Part.withdraw_win (w : Work → Bool) :
    (s.withdraw w).win = s.win := rfl
@[simp] theorem Part.withdraw_ref (w : Work → Bool) :
    (s.withdraw w).ref = s.ref := rfl
@[simp] theorem Part.withdraw_ini (w : Work → Bool) :
    (s.withdraw w).ini = s.ini := rfl
@[simp] theorem Part.withdraw_pace (w : Work → Bool) :
    (s.withdraw w).pace = s.pace := rfl
@[simp] theorem Part.withdraw_bands (w : Work → Bool) :
    (s.withdraw w).bands = s.bands := rfl
@[simp] theorem Part.withdraw_log (w : Work → Bool) :
    (s.withdraw w).log = s.log := rfl
@[simp] theorem Part.withdraw_idx (w : Work → Bool) :
    (s.withdraw w).idx = s.idx := rfl
@[simp] theorem Part.withdraw_mrg (w : Work → Bool) :
    (s.withdraw w).mrg = s.mrg := rfl
@[simp] theorem Part.withdraw_mnt (w : Work → Bool) :
    (s.withdraw w).mnt = s.mnt := rfl
@[simp] theorem Part.withdraw_fmt (w : Work → Bool) :
    (s.withdraw w).fmt = s.fmt := rfl

@[simp] theorem Part.reserveIndex_sys (l : Nat) :
    (s.reserveIndex l).sys = s.sys := rfl
@[simp] theorem Part.reserveIndex_cfg (l : Nat) :
    (s.reserveIndex l).cfg = s.cfg := rfl
@[simp] theorem Part.reserveIndex_ret (l : Nat) :
    (s.reserveIndex l).ret = s.ret := rfl
@[simp] theorem Part.reserveIndex_win (l : Nat) :
    (s.reserveIndex l).win = s.win := rfl
@[simp] theorem Part.reserveIndex_ref (l : Nat) :
    (s.reserveIndex l).ref = s.ref := rfl
@[simp] theorem Part.reserveIndex_ini (l : Nat) :
    (s.reserveIndex l).ini = s.ini := rfl
@[simp] theorem Part.reserveIndex_pace (l : Nat) :
    (s.reserveIndex l).pace = s.pace := rfl
@[simp] theorem Part.reserveIndex_log (l : Nat) :
    (s.reserveIndex l).log = s.log := rfl
@[simp] theorem Part.reserveIndex_mrg (l : Nat) :
    (s.reserveIndex l).mrg = s.mrg := rfl
@[simp] theorem Part.reserveIndex_port (l : Nat) :
    (s.reserveIndex l).port = s.port := rfl
@[simp] theorem Part.reserveIndex_mnt (l : Nat) :
    (s.reserveIndex l).mnt = s.mnt := rfl
@[simp] theorem Part.reserveIndex_fmt (l : Nat) :
    (s.reserveIndex l).fmt = s.fmt := rfl

@[simp] theorem Part.releaseIndex_sys (l : Nat) :
    (s.releaseIndex l).sys = s.sys := rfl
@[simp] theorem Part.releaseIndex_cfg (l : Nat) :
    (s.releaseIndex l).cfg = s.cfg := rfl
@[simp] theorem Part.releaseIndex_ret (l : Nat) :
    (s.releaseIndex l).ret = s.ret := rfl
@[simp] theorem Part.releaseIndex_win (l : Nat) :
    (s.releaseIndex l).win = s.win := rfl
@[simp] theorem Part.releaseIndex_ref (l : Nat) :
    (s.releaseIndex l).ref = s.ref := rfl
@[simp] theorem Part.releaseIndex_ini (l : Nat) :
    (s.releaseIndex l).ini = s.ini := rfl
@[simp] theorem Part.releaseIndex_pace (l : Nat) :
    (s.releaseIndex l).pace = s.pace := rfl
@[simp] theorem Part.releaseIndex_log (l : Nat) :
    (s.releaseIndex l).log = s.log := rfl
@[simp] theorem Part.releaseIndex_mrg (l : Nat) :
    (s.releaseIndex l).mrg = s.mrg := rfl
@[simp] theorem Part.releaseIndex_port (l : Nat) :
    (s.releaseIndex l).port = s.port := rfl
@[simp] theorem Part.releaseIndex_mnt (l : Nat) :
    (s.releaseIndex l).mnt = s.mnt := rfl
@[simp] theorem Part.releaseIndex_fmt (l : Nat) :
    (s.releaseIndex l).fmt = s.fmt := rfl

@[simp] theorem Part.releaseHold_sys (p : Nat) :
    (s.releaseHold p).sys = s.sys := rfl
@[simp] theorem Part.releaseHold_cfg (p : Nat) :
    (s.releaseHold p).cfg = s.cfg := rfl
@[simp] theorem Part.releaseHold_ret (p : Nat) :
    (s.releaseHold p).ret = s.ret := rfl
@[simp] theorem Part.releaseHold_win (p : Nat) :
    (s.releaseHold p).win = s.win := rfl
@[simp] theorem Part.releaseHold_ref (p : Nat) :
    (s.releaseHold p).ref = s.ref := rfl
@[simp] theorem Part.releaseHold_ini (p : Nat) :
    (s.releaseHold p).ini = s.ini := rfl
@[simp] theorem Part.releaseHold_pace (p : Nat) :
    (s.releaseHold p).pace = s.pace := rfl
@[simp] theorem Part.releaseHold_bands (p : Nat) :
    (s.releaseHold p).bands = s.bands := rfl
@[simp] theorem Part.releaseHold_idx (p : Nat) :
    (s.releaseHold p).idx = s.idx := rfl
@[simp] theorem Part.releaseHold_mrg (p : Nat) :
    (s.releaseHold p).mrg = s.mrg := rfl
@[simp] theorem Part.releaseHold_port (p : Nat) :
    (s.releaseHold p).port = s.port := rfl
@[simp] theorem Part.releaseHold_mnt (p : Nat) :
    (s.releaseHold p).mnt = s.mnt := rfl
@[simp] theorem Part.releaseHold_fmt (p : Nat) :
    (s.releaseHold p).fmt = s.fmt := rfl

@[simp] theorem Part.resetFinished_sys (p : Nat) :
    (s.resetFinished p).sys = s.sys := rfl
@[simp] theorem Part.resetFinished_cfg (p : Nat) :
    (s.resetFinished p).cfg = s.cfg := rfl
@[simp] theorem Part.resetFinished_ret (p : Nat) :
    (s.resetFinished p).ret = s.ret := rfl
@[simp] theorem Part.resetFinished_win (p : Nat) :
    (s.resetFinished p).win = s.win := rfl
@[simp] theorem Part.resetFinished_ref (p : Nat) :
    (s.resetFinished p).ref = s.ref := rfl
@[simp] theorem Part.resetFinished_ini (p : Nat) :
    (s.resetFinished p).ini = s.ini := rfl
@[simp] theorem Part.resetFinished_pace (p : Nat) :
    (s.resetFinished p).pace = s.pace := rfl
@[simp] theorem Part.resetFinished_bands (p : Nat) :
    (s.resetFinished p).bands = s.bands := rfl
@[simp] theorem Part.resetFinished_idx (p : Nat) :
    (s.resetFinished p).idx = s.idx := rfl
@[simp] theorem Part.resetFinished_mrg (p : Nat) :
    (s.resetFinished p).mrg = s.mrg := rfl
@[simp] theorem Part.resetFinished_port (p : Nat) :
    (s.resetFinished p).port = s.port := rfl
@[simp] theorem Part.resetFinished_mnt (p : Nat) :
    (s.resetFinished p).mnt = s.mnt := rfl
@[simp] theorem Part.resetFinished_fmt (p : Nat) :
    (s.resetFinished p).fmt = s.fmt := rfl

@[simp] theorem Part.dropReq_sys (l : Nat) :
    (s.dropReq l).sys = s.sys := rfl
@[simp] theorem Part.dropReq_cfg (l : Nat) :
    (s.dropReq l).cfg = s.cfg := rfl
@[simp] theorem Part.dropReq_ret (l : Nat) :
    (s.dropReq l).ret = s.ret := rfl
@[simp] theorem Part.dropReq_win (l : Nat) :
    (s.dropReq l).win = s.win := rfl
@[simp] theorem Part.dropReq_ref (l : Nat) :
    (s.dropReq l).ref = s.ref := rfl
@[simp] theorem Part.dropReq_ini (l : Nat) :
    (s.dropReq l).ini = s.ini := rfl
@[simp] theorem Part.dropReq_pace (l : Nat) :
    (s.dropReq l).pace = s.pace := rfl
@[simp] theorem Part.dropReq_bands (l : Nat) :
    (s.dropReq l).bands = s.bands := rfl
@[simp] theorem Part.dropReq_log (l : Nat) :
    (s.dropReq l).log = s.log := rfl
@[simp] theorem Part.dropReq_idx (l : Nat) :
    (s.dropReq l).idx = s.idx := rfl
@[simp] theorem Part.dropReq_port (l : Nat) :
    (s.dropReq l).port = s.port := rfl
@[simp] theorem Part.dropReq_mnt (l : Nat) :
    (s.dropReq l).mnt = s.mnt := rfl
@[simp] theorem Part.dropReq_fmt (l : Nat) :
    (s.dropReq l).fmt = s.fmt := rfl

@[simp] theorem Part.idleCtx_sys (i : Nat) :
    (s.idleCtx i).sys = s.sys := rfl
@[simp] theorem Part.idleCtx_cfg (i : Nat) :
    (s.idleCtx i).cfg = s.cfg := rfl
@[simp] theorem Part.idleCtx_ret (i : Nat) :
    (s.idleCtx i).ret = s.ret := rfl
@[simp] theorem Part.idleCtx_win (i : Nat) :
    (s.idleCtx i).win = s.win := rfl
@[simp] theorem Part.idleCtx_ref (i : Nat) :
    (s.idleCtx i).ref = s.ref := rfl
@[simp] theorem Part.idleCtx_ini (i : Nat) :
    (s.idleCtx i).ini = s.ini := rfl
@[simp] theorem Part.idleCtx_pace (i : Nat) :
    (s.idleCtx i).pace = s.pace := rfl
@[simp] theorem Part.idleCtx_bands (i : Nat) :
    (s.idleCtx i).bands = s.bands := rfl
@[simp] theorem Part.idleCtx_log (i : Nat) :
    (s.idleCtx i).log = s.log := rfl
@[simp] theorem Part.idleCtx_idx (i : Nat) :
    (s.idleCtx i).idx = s.idx := rfl
@[simp] theorem Part.idleCtx_port (i : Nat) :
    (s.idleCtx i).port = s.port := rfl
@[simp] theorem Part.idleCtx_mnt (i : Nat) :
    (s.idleCtx i).mnt = s.mnt := rfl
@[simp] theorem Part.idleCtx_fmt (i : Nat) :
    (s.idleCtx i).fmt = s.fmt := rfl

@[simp] theorem Part.raise_sys (k : EventKind) (a : Option Alert) (b p n c : Option Nat) :
    (s.raise k a b p n c).sys = s.sys := rfl
@[simp] theorem Part.raise_cfg (k : EventKind) (a : Option Alert) (b p n c : Option Nat) :
    (s.raise k a b p n c).cfg = s.cfg := rfl
@[simp] theorem Part.raise_ret (k : EventKind) (a : Option Alert) (b p n c : Option Nat) :
    (s.raise k a b p n c).ret = s.ret := rfl
@[simp] theorem Part.raise_ref (k : EventKind) (a : Option Alert) (b p n c : Option Nat) :
    (s.raise k a b p n c).ref = s.ref := rfl
@[simp] theorem Part.raise_ini (k : EventKind) (a : Option Alert) (b p n c : Option Nat) :
    (s.raise k a b p n c).ini = s.ini := rfl
@[simp] theorem Part.raise_pace (k : EventKind) (a : Option Alert) (b p n c : Option Nat) :
    (s.raise k a b p n c).pace = s.pace := rfl
@[simp] theorem Part.raise_bands (k : EventKind) (a : Option Alert) (b p n c : Option Nat) :
    (s.raise k a b p n c).bands = s.bands := rfl
@[simp] theorem Part.raise_log (k : EventKind) (a : Option Alert) (b p n c : Option Nat) :
    (s.raise k a b p n c).log = s.log := rfl
@[simp] theorem Part.raise_idx (k : EventKind) (a : Option Alert) (b p n c : Option Nat) :
    (s.raise k a b p n c).idx = s.idx := rfl
@[simp] theorem Part.raise_mrg (k : EventKind) (a : Option Alert) (b p n c : Option Nat) :
    (s.raise k a b p n c).mrg = s.mrg := rfl
@[simp] theorem Part.raise_port (k : EventKind) (a : Option Alert) (b p n c : Option Nat) :
    (s.raise k a b p n c).port = s.port := rfl
@[simp] theorem Part.raise_mnt (k : EventKind) (a : Option Alert) (b p n c : Option Nat) :
    (s.raise k a b p n c).mnt = s.mnt := rfl
@[simp] theorem Part.raise_fmt (k : EventKind) (a : Option Alert) (b p n c : Option Nat) :
    (s.raise k a b p n c).fmt = s.fmt := rfl

@[simp] theorem Part.finish_sys (t : Nat) (c : Code) :
    (s.finish t c).sys = s.sys := rfl
@[simp] theorem Part.finish_cfg (t : Nat) (c : Code) :
    (s.finish t c).cfg = s.cfg := rfl
@[simp] theorem Part.finish_ret (t : Nat) (c : Code) :
    (s.finish t c).ret = s.ret := rfl
@[simp] theorem Part.finish_win (t : Nat) (c : Code) :
    (s.finish t c).win = s.win := rfl
@[simp] theorem Part.finish_ref (t : Nat) (c : Code) :
    (s.finish t c).ref = s.ref := rfl
@[simp] theorem Part.finish_pace (t : Nat) (c : Code) :
    (s.finish t c).pace = s.pace := rfl
@[simp] theorem Part.finish_bands (t : Nat) (c : Code) :
    (s.finish t c).bands = s.bands := rfl
@[simp] theorem Part.finish_log (t : Nat) (c : Code) :
    (s.finish t c).log = s.log := rfl
@[simp] theorem Part.finish_idx (t : Nat) (c : Code) :
    (s.finish t c).idx = s.idx := rfl
@[simp] theorem Part.finish_mrg (t : Nat) (c : Code) :
    (s.finish t c).mrg = s.mrg := rfl
@[simp] theorem Part.finish_port (t : Nat) (c : Code) :
    (s.finish t c).port = s.port := rfl
@[simp] theorem Part.finish_mnt (t : Nat) (c : Code) :
    (s.finish t c).mnt = s.mnt := rfl
@[simp] theorem Part.finish_fmt (t : Nat) (c : Code) :
    (s.finish t c).fmt = s.fmt := rfl

@[simp] theorem Part.enter_cfg (m : Mode) (h : HaltReason) :
    (s.enter m h).cfg = s.cfg := rfl
@[simp] theorem Part.enter_ret (m : Mode) (h : HaltReason) :
    (s.enter m h).ret = s.ret := rfl
@[simp] theorem Part.enter_ref (m : Mode) (h : HaltReason) :
    (s.enter m h).ref = s.ref := rfl
@[simp] theorem Part.enter_ini (m : Mode) (h : HaltReason) :
    (s.enter m h).ini = s.ini := rfl
@[simp] theorem Part.enter_pace (m : Mode) (h : HaltReason) :
    (s.enter m h).pace = s.pace := rfl
@[simp] theorem Part.enter_bands (m : Mode) (h : HaltReason) :
    (s.enter m h).bands = s.bands := rfl
@[simp] theorem Part.enter_log (m : Mode) (h : HaltReason) :
    (s.enter m h).log = s.log := rfl
@[simp] theorem Part.enter_idx (m : Mode) (h : HaltReason) :
    (s.enter m h).idx = s.idx := rfl
@[simp] theorem Part.enter_mrg (m : Mode) (h : HaltReason) :
    (s.enter m h).mrg = s.mrg := rfl
@[simp] theorem Part.enter_port (m : Mode) (h : HaltReason) :
    (s.enter m h).port = s.port := rfl
@[simp] theorem Part.enter_mnt (m : Mode) (h : HaltReason) :
    (s.enter m h).mnt = s.mnt := rfl
@[simp] theorem Part.enter_fmt (m : Mode) (h : HaltReason) :
    (s.enter m h).fmt = s.fmt := rfl

@[simp] theorem Part.takeFree_sys (p : Nat) :
    (s.takeFree p).sys = s.sys := by simp only [Part.takeFree]; split <;> rfl
@[simp] theorem Part.takeFree_cfg (p : Nat) :
    (s.takeFree p).cfg = s.cfg := by simp only [Part.takeFree]; split <;> rfl
@[simp] theorem Part.takeFree_ret (p : Nat) :
    (s.takeFree p).ret = s.ret := by simp only [Part.takeFree]; split <;> rfl
@[simp] theorem Part.takeFree_ref (p : Nat) :
    (s.takeFree p).ref = s.ref := by simp only [Part.takeFree]; split <;> rfl
@[simp] theorem Part.takeFree_ini (p : Nat) :
    (s.takeFree p).ini = s.ini := by simp only [Part.takeFree]; split <;> rfl
@[simp] theorem Part.takeFree_pace (p : Nat) :
    (s.takeFree p).pace = s.pace := by simp only [Part.takeFree]; split <;> rfl
@[simp] theorem Part.takeFree_log (p : Nat) :
    (s.takeFree p).log = s.log := by simp only [Part.takeFree]; split <;> rfl
@[simp] theorem Part.takeFree_idx (p : Nat) :
    (s.takeFree p).idx = s.idx := by simp only [Part.takeFree]; split <;> rfl
@[simp] theorem Part.takeFree_mrg (p : Nat) :
    (s.takeFree p).mrg = s.mrg := by simp only [Part.takeFree]; split <;> rfl
@[simp] theorem Part.takeFree_port (p : Nat) :
    (s.takeFree p).port = s.port := by simp only [Part.takeFree]; split <;> rfl
@[simp] theorem Part.takeFree_mnt (p : Nat) :
    (s.takeFree p).mnt = s.mnt := by simp only [Part.takeFree]; split <;> rfl
@[simp] theorem Part.takeFree_fmt (p : Nat) :
    (s.takeFree p).fmt = s.fmt := by simp only [Part.takeFree]; split <;> rfl

@[simp] theorem Part.toResetPending_sys (p : Nat) :
    (s.toResetPending p).sys = s.sys := by simp only [Part.toResetPending]; split <;> rfl
@[simp] theorem Part.toResetPending_cfg (p : Nat) :
    (s.toResetPending p).cfg = s.cfg := by simp only [Part.toResetPending]; split <;> rfl
@[simp] theorem Part.toResetPending_ret (p : Nat) :
    (s.toResetPending p).ret = s.ret := by simp only [Part.toResetPending]; split <;> rfl
@[simp] theorem Part.toResetPending_win (p : Nat) :
    (s.toResetPending p).win = s.win := by simp only [Part.toResetPending]; split <;> rfl
@[simp] theorem Part.toResetPending_ref (p : Nat) :
    (s.toResetPending p).ref = s.ref := by simp only [Part.toResetPending]; split <;> rfl
@[simp] theorem Part.toResetPending_ini (p : Nat) :
    (s.toResetPending p).ini = s.ini := by simp only [Part.toResetPending]; split <;> rfl
@[simp] theorem Part.toResetPending_pace (p : Nat) :
    (s.toResetPending p).pace = s.pace := by simp only [Part.toResetPending]; split <;> rfl
@[simp] theorem Part.toResetPending_log (p : Nat) :
    (s.toResetPending p).log = s.log := by simp only [Part.toResetPending]; split <;> rfl
@[simp] theorem Part.toResetPending_idx (p : Nat) :
    (s.toResetPending p).idx = s.idx := by simp only [Part.toResetPending]; split <;> rfl
@[simp] theorem Part.toResetPending_mrg (p : Nat) :
    (s.toResetPending p).mrg = s.mrg := by simp only [Part.toResetPending]; split <;> rfl
@[simp] theorem Part.toResetPending_port (p : Nat) :
    (s.toResetPending p).port = s.port := by simp only [Part.toResetPending]; split <;> rfl
@[simp] theorem Part.toResetPending_mnt (p : Nat) :
    (s.toResetPending p).mnt = s.mnt := by simp only [Part.toResetPending]; split <;> rfl
@[simp] theorem Part.toResetPending_fmt (p : Nat) :
    (s.toResetPending p).fmt = s.fmt := by simp only [Part.toResetPending]; split <;> rfl

@[simp] theorem Part.finishDirective_sys (r : Result) (d : List Byte) :
    (s.finishDirective r d).sys = s.sys := rfl
@[simp] theorem Part.finishDirective_cfg (r : Result) (d : List Byte) :
    (s.finishDirective r d).cfg = s.cfg := rfl
@[simp] theorem Part.finishDirective_ret (r : Result) (d : List Byte) :
    (s.finishDirective r d).ret = s.ret := rfl
@[simp] theorem Part.finishDirective_ref (r : Result) (d : List Byte) :
    (s.finishDirective r d).ref = s.ref := rfl
@[simp] theorem Part.finishDirective_ini (r : Result) (d : List Byte) :
    (s.finishDirective r d).ini = s.ini := rfl
@[simp] theorem Part.finishDirective_pace (r : Result) (d : List Byte) :
    (s.finishDirective r d).pace = s.pace := rfl
@[simp] theorem Part.finishDirective_bands (r : Result) (d : List Byte) :
    (s.finishDirective r d).bands = s.bands := rfl
@[simp] theorem Part.finishDirective_log (r : Result) (d : List Byte) :
    (s.finishDirective r d).log = s.log := rfl
@[simp] theorem Part.finishDirective_idx (r : Result) (d : List Byte) :
    (s.finishDirective r d).idx = s.idx := rfl
@[simp] theorem Part.finishDirective_mrg (r : Result) (d : List Byte) :
    (s.finishDirective r d).mrg = s.mrg := rfl
@[simp] theorem Part.finishDirective_port (r : Result) (d : List Byte) :
    (s.finishDirective r d).port = s.port := rfl
@[simp] theorem Part.finishDirective_mnt (r : Result) (d : List Byte) :
    (s.finishDirective r d).mnt = s.mnt := rfl
@[simp] theorem Part.finishDirective_fmt (r : Result) (d : List Byte) :
    (s.finishDirective r d).fmt = s.fmt := rfl

@[simp] theorem Part.finishClean_sys (l : Nat) (r : Result) :
    (s.finishClean l r).sys = s.sys := by simp only [Part.finishClean]; split <;> rfl
@[simp] theorem Part.finishClean_cfg (l : Nat) (r : Result) :
    (s.finishClean l r).cfg = s.cfg := by simp only [Part.finishClean]; split <;> rfl
@[simp] theorem Part.finishClean_ret (l : Nat) (r : Result) :
    (s.finishClean l r).ret = s.ret := by simp only [Part.finishClean]; split <;> rfl
@[simp] theorem Part.finishClean_ref (l : Nat) (r : Result) :
    (s.finishClean l r).ref = s.ref := by simp only [Part.finishClean]; split <;> rfl
@[simp] theorem Part.finishClean_ini (l : Nat) (r : Result) :
    (s.finishClean l r).ini = s.ini := by simp only [Part.finishClean]; split <;> rfl
@[simp] theorem Part.finishClean_pace (l : Nat) (r : Result) :
    (s.finishClean l r).pace = s.pace := by simp only [Part.finishClean]; split <;> rfl
@[simp] theorem Part.finishClean_bands (l : Nat) (r : Result) :
    (s.finishClean l r).bands = s.bands := by simp only [Part.finishClean]; split <;> rfl
@[simp] theorem Part.finishClean_log (l : Nat) (r : Result) :
    (s.finishClean l r).log = s.log := by simp only [Part.finishClean]; split <;> rfl
@[simp] theorem Part.finishClean_idx (l : Nat) (r : Result) :
    (s.finishClean l r).idx = s.idx := by simp only [Part.finishClean]; split <;> rfl
@[simp] theorem Part.finishClean_mrg (l : Nat) (r : Result) :
    (s.finishClean l r).mrg = s.mrg := by simp only [Part.finishClean]; split <;> rfl
@[simp] theorem Part.finishClean_port (l : Nat) (r : Result) :
    (s.finishClean l r).port = s.port := by simp only [Part.finishClean]; split <;> rfl
@[simp] theorem Part.finishClean_mnt (l : Nat) (r : Result) :
    (s.finishClean l r).mnt = s.mnt := by simp only [Part.finishClean]; split <;> rfl
@[simp] theorem Part.finishClean_fmt (l : Nat) (r : Result) :
    (s.finishClean l r).fmt = s.fmt := by simp only [Part.finishClean]; split <;> rfl

@[simp] theorem Part.evalLevel_sys :
    s.evalLevel.sys = s.sys := by simp only [Part.evalLevel]; split <;> rfl
@[simp] theorem Part.evalLevel_cfg :
    s.evalLevel.cfg = s.cfg := by simp only [Part.evalLevel]; split <;> rfl
@[simp] theorem Part.evalLevel_ret :
    s.evalLevel.ret = s.ret := by simp only [Part.evalLevel]; split <;> rfl
@[simp] theorem Part.evalLevel_ref :
    s.evalLevel.ref = s.ref := by simp only [Part.evalLevel]; split <;> rfl
@[simp] theorem Part.evalLevel_ini :
    s.evalLevel.ini = s.ini := by simp only [Part.evalLevel]; split <;> rfl
@[simp] theorem Part.evalLevel_bands :
    s.evalLevel.bands = s.bands := by simp only [Part.evalLevel]; split <;> rfl
@[simp] theorem Part.evalLevel_log :
    s.evalLevel.log = s.log := by simp only [Part.evalLevel]; split <;> rfl
@[simp] theorem Part.evalLevel_idx :
    s.evalLevel.idx = s.idx := by simp only [Part.evalLevel]; split <;> rfl
@[simp] theorem Part.evalLevel_mrg :
    s.evalLevel.mrg = s.mrg := by simp only [Part.evalLevel]; split <;> rfl
@[simp] theorem Part.evalLevel_port :
    s.evalLevel.port = s.port := by simp only [Part.evalLevel]; split <;> rfl
@[simp] theorem Part.evalLevel_mnt :
    s.evalLevel.mnt = s.mnt := by simp only [Part.evalLevel]; split <;> rfl
@[simp] theorem Part.evalLevel_fmt :
    s.evalLevel.fmt = s.fmt := by simp only [Part.evalLevel]; split <;> rfl

@[simp] theorem Part.evalPressure_sys :
    s.evalPressure.sys = s.sys := rfl
@[simp] theorem Part.evalPressure_cfg :
    s.evalPressure.cfg = s.cfg := rfl
@[simp] theorem Part.evalPressure_ret :
    s.evalPressure.ret = s.ret := rfl
@[simp] theorem Part.evalPressure_ref :
    s.evalPressure.ref = s.ref := rfl
@[simp] theorem Part.evalPressure_ini :
    s.evalPressure.ini = s.ini := rfl
@[simp] theorem Part.evalPressure_pace :
    s.evalPressure.pace = s.pace := rfl
@[simp] theorem Part.evalPressure_bands :
    s.evalPressure.bands = s.bands := rfl
@[simp] theorem Part.evalPressure_log :
    s.evalPressure.log = s.log := rfl
@[simp] theorem Part.evalPressure_mrg :
    s.evalPressure.mrg = s.mrg := rfl
@[simp] theorem Part.evalPressure_port :
    s.evalPressure.port = s.port := rfl
@[simp] theorem Part.evalPressure_mnt :
    s.evalPressure.mnt = s.mnt := rfl
@[simp] theorem Part.evalPressure_fmt :
    s.evalPressure.fmt = s.fmt := rfl

@[simp] theorem Part.addRecord_sys (k : ArbClass) (r : Rec) :
    (s.addRecord k r).sys = s.sys := rfl
@[simp] theorem Part.addRecord_cfg (k : ArbClass) (r : Rec) :
    (s.addRecord k r).cfg = s.cfg := rfl
@[simp] theorem Part.addRecord_ret (k : ArbClass) (r : Rec) :
    (s.addRecord k r).ret = s.ret := rfl
@[simp] theorem Part.addRecord_win (k : ArbClass) (r : Rec) :
    (s.addRecord k r).win = s.win := rfl
@[simp] theorem Part.addRecord_ref (k : ArbClass) (r : Rec) :
    (s.addRecord k r).ref = s.ref := rfl
@[simp] theorem Part.addRecord_ini (k : ArbClass) (r : Rec) :
    (s.addRecord k r).ini = s.ini := rfl
@[simp] theorem Part.addRecord_pace (k : ArbClass) (r : Rec) :
    (s.addRecord k r).pace = s.pace := rfl
@[simp] theorem Part.addRecord_bands (k : ArbClass) (r : Rec) :
    (s.addRecord k r).bands = s.bands := rfl
@[simp] theorem Part.addRecord_idx (k : ArbClass) (r : Rec) :
    (s.addRecord k r).idx = s.idx := rfl
@[simp] theorem Part.addRecord_mrg (k : ArbClass) (r : Rec) :
    (s.addRecord k r).mrg = s.mrg := rfl
@[simp] theorem Part.addRecord_mnt (k : ArbClass) (r : Rec) :
    (s.addRecord k r).mnt = s.mnt := rfl
@[simp] theorem Part.addRecord_fmt (k : ArbClass) (r : Rec) :
    (s.addRecord k r).fmt = s.fmt := rfl

@[simp] theorem Part.positionRecord_sys (k : ArbClass) (r : Rec) :
    (s.positionRecord k r).sys = s.sys := by simp only [Part.positionRecord]; split <;> rfl
@[simp] theorem Part.positionRecord_cfg (k : ArbClass) (r : Rec) :
    (s.positionRecord k r).cfg = s.cfg := by simp only [Part.positionRecord]; split <;> rfl
@[simp] theorem Part.positionRecord_ret (k : ArbClass) (r : Rec) :
    (s.positionRecord k r).ret = s.ret := by simp only [Part.positionRecord]; split <;> rfl
@[simp] theorem Part.positionRecord_win (k : ArbClass) (r : Rec) :
    (s.positionRecord k r).win = s.win := by simp only [Part.positionRecord]; split <;> rfl
@[simp] theorem Part.positionRecord_ref (k : ArbClass) (r : Rec) :
    (s.positionRecord k r).ref = s.ref := by simp only [Part.positionRecord]; split <;> rfl
@[simp] theorem Part.positionRecord_ini (k : ArbClass) (r : Rec) :
    (s.positionRecord k r).ini = s.ini := by simp only [Part.positionRecord]; split <;> rfl
@[simp] theorem Part.positionRecord_pace (k : ArbClass) (r : Rec) :
    (s.positionRecord k r).pace = s.pace := by simp only [Part.positionRecord]; split <;> rfl
@[simp] theorem Part.positionRecord_bands (k : ArbClass) (r : Rec) :
    (s.positionRecord k r).bands = s.bands := by simp only [Part.positionRecord]; split <;> rfl
@[simp] theorem Part.positionRecord_idx (k : ArbClass) (r : Rec) :
    (s.positionRecord k r).idx = s.idx := by simp only [Part.positionRecord]; split <;> rfl
@[simp] theorem Part.positionRecord_mrg (k : ArbClass) (r : Rec) :
    (s.positionRecord k r).mrg = s.mrg := by simp only [Part.positionRecord]; split <;> rfl
@[simp] theorem Part.positionRecord_mnt (k : ArbClass) (r : Rec) :
    (s.positionRecord k r).mnt = s.mnt := by simp only [Part.positionRecord]; split <;> rfl
@[simp] theorem Part.positionRecord_fmt (k : ArbClass) (r : Rec) :
    (s.positionRecord k r).fmt = s.fmt := by simp only [Part.positionRecord]; split <;> rfl

end Sys2Proof.Machine
end

