-- ==== Sys2Proof/Laws/Commands.lean ====
section
/-! SUPPORT. What the shared operations of the initiator port do: contexts, statuses, pieces, limits, and the
taking of an accepted frame. -/

namespace Sys2Proof.Machine

/-! ### Contexts and statuses -/

/-- The context of a tag that has just been given a value. -/
theorem Initiator.at_set_self (i : Initiator) (t : Nat) (c : Option Cmd) (h : t < i.tags.length) :
    ({ i with tags := i.tags.set t c } : Initiator).at t = c := by
  simp [Initiator.at, List.getD_eq_getElem?_getD, h]

/-- The contexts of the other tags. -/
theorem Initiator.at_set_ne (i : Initiator) (t k : Nat) (c : Option Cmd) (h : t ≠ k) :
    ({ i with tags := i.tags.set t c } : Initiator).at k = i.at k := by
  simp [Initiator.at, List.getD_eq_getElem?_getD, List.getElem?_set_ne h]

/-- The status a finished command's tag has received (R129). -/
@[simp] theorem Initiator.finish_sent (i : Initiator) (t : Nat) (c : Code) :
    (i.finish t c).sent = i.sent ++ [.status t c] := by
  simp only [Initiator.finish]; split <;> rfl

@[simp] theorem Initiator.finish_hold (i : Initiator) (t : Nat) (c : Code) :
    (i.finish t c).hold = i.hold := by
  simp only [Initiator.finish]; split <;> rfl

@[simp] theorem Initiator.finish_accept (i : Initiator) (t : Nat) (c : Code) :
    (i.finish t c).accept = i.accept := by
  simp only [Initiator.finish]; split <;> rfl

@[simp] theorem Initiator.finish_detached (i : Initiator) (t : Nat) (c : Code) :
    (i.finish t c).detached = i.detached := by
  simp only [Initiator.finish]; split <;> rfl

@[simp] theorem Initiator.finish_nextCid (i : Initiator) (t : Nat) (c : Code) :
    (i.finish t c).nextCid = i.nextCid := by
  simp only [Initiator.finish]; split <;> rfl

@[simp] theorem Initiator.finish_tags_length (i : Initiator) (t : Nat) (c : Code) :
    (i.finish t c).tags.length = i.tags.length := by
  simp only [Initiator.finish]; split <;> simp

/-- A finished command's context is FREE (R128, R137). -/
theorem Initiator.finish_at_self (i : Initiator) (t : Nat) (c : Code) :
    (i.finish t c).at t = none := by
  simp only [Initiator.finish]
  split
  · assumption
  · by_cases h : t < i.tags.length <;> simp [Initiator.at, List.getD_eq_getElem?_getD, h]

/-- Another tag's command keeps its context but for the set of a FLUSH (R140). -/
theorem Initiator.finish_at_ne (i : Initiator) (t k : Nat) (c : Code) (h : t ≠ k) :
    (i.finish t c).at k =
      match i.at t with
      | none => i.at k
      | some d => (i.at k).map fun e => { e with waits := e.waits.filter (· != d.cid) } := by
  simp only [Initiator.finish]
  have e : ({ i with sent := i.sent ++ [InitOut.status t c] } : Initiator).at t = i.at t := rfl
  rw [e]
  cases hx : i.at t with
  | none => rfl
  | some x =>
    simp only [Initiator.at, List.getD_eq_getElem?_getD, List.getElem?_map, List.getElem?_set_ne h]
    cases i.tags[k]? <;> rfl

/-- The statuses of several commands, one after another. -/
theorem Part.foldl_finish (l : List Nat) (s : Part) (c : Code) :
    l.foldl (fun s t => s.finish t c) s =
      { s with ini := l.foldl (fun i t => i.finish t c) s.ini } := by
  induction l generalizing s with
  | nil => rfl
  | cons a l ih => rw [List.foldl_cons, List.foldl_cons, ih]; rfl

theorem Initiator.foldl_finish_sent (l : List Nat) (i : Initiator) (c : Code) :
    (l.foldl (fun i t => i.finish t c) i).sent = i.sent ++ l.map fun k => .status k c := by
  induction l generalizing i with
  | nil => simp
  | cons a l ih => simp [List.foldl_cons, ih]

/-! ### Pieces and limits -/

/-- A command within one logical band is one piece (R7). -/
theorem pieces_one (d lba n : Nat) (h : 1 ≤ n) (h2 : lba % d + n ≤ d) :
    pieces d lba n = [(lba / d, lba % d, n)] := by
  have e : min n (d - lba % d) = n := by omega
  have e0 : n ≠ 0 := by omega
  simp [pieces, piecesFrom, e, e0]

/-- While mounted, E x D is the mounted value (R5). -/
theorem Part.logBlocks_mounted (s : Part) (h : s.mounted = true) :
    s.logBlocks = (s.sys.layout.bands - s.sys.layout.spares) * (s.sys.layout.bandBlocks - 1) := by
  simp [Part.logBlocks, h]

/-- A command below the window passes the limits (R6). -/
theorem Part.rangeCheck_pass (s : Part) (cls : Cls) (a n : Nat) (hm : s.mounted = true) (h1 : 1 ≤ n)
    (h2 : n ≤ 1024 ∨ cls = .discard) (h3 : a + n ≤ s.logBlocks) : s.rangeCheck cls a n = .pass := by
  have e0 : n ≠ 0 := by omega
  have e1 : ¬ s.logBlocks ≤ a := by omega
  have e2 : ¬ s.capacity < a + n := by simp only [Part.capacity]; omega
  have e3 : ¬ s.logBlocks < a + n := by omega
  have e4 : ¬ (cls ≠ .discard ∧ Config.maxTransfer < n) := by
    rintro ⟨x, y⟩
    simp only [Config.maxTransfer] at y
    rcases h2 with h2 | h2
    · omega
    · exact x h2
  simp only [Part.rangeCheck, e0, e1, e2, e3, e4, hm]
  simp

/-- Noting a command in the OBSERVE entries changes no entry's mode and range (R151). -/
theorem RangeEntry.observe_touches (e : RangeEntry) (a n : Nat) :
    (e.observe a n).mode = e.mode ∧ (e.observe a n).touches a n = e.touches a n := by
  unfold RangeEntry.observe; split <;> simp [RangeEntry.touches]

/-- So the HOLD entry a command touches is the same after it has been noted (R150). -/
theorem Retention.held_observe (r : Retention) (a n : Nat) :
    ({ r with entries := r.entries.map fun (e : RangeEntry) => e.observe a n } : Retention).held a n =
      r.held a n := by
  simp only [Retention.held, List.findIdx?_map]
  congr 1; funext e; simp [RangeEntry.observe_touches]

/-! ### Taking an accepted frame -/

/-- A command that needs nothing, or finds its frames free with nothing waiting, is taken at once (R134). -/
theorem Part.enqueue_taken (s : Part) (c : Cmd) (h : c.refer = false)
    (h2 : c.need = 0 ∨ s.ini.accept = [] ∧ c.need ≤ s.ini.freeFrames) :
    s.enqueue c = (s.putTag c.tag (some { c with st := .working })).take c.tag := by
  unfold Part.enqueue
  rw [if_neg]
  rcases h2 with h2 | ⟨h2, h3⟩
  · simp [h, h2]
  · simp [h, h2, Part.canTake, h3]

/-- An accepted frame that is taken at once (R130, R134). -/
theorem Part.acceptFrame_taken (s : Part) (c : Cmd) (h : c.refer = false)
    (h2 : c.need = 0 ∨ s.ini.accept = [] ∧ c.need ≤ s.ini.freeFrames) :
    s.acceptFrame c =
      (({ s with ini.nextCid := s.ini.nextCid + 1 } : Part).putTag c.tag
        (some { c with cid := s.ini.nextCid, st := .working })).take c.tag :=
  Part.enqueue_taken _ _ h h2

/-! ### Barriers and pins -/

/-- A repeated step stops where it does not apply. -/
theorem Part.repeatStep_none (f : Part → Option Part) (n : Nat) (s : Part) (h : f s = none) :
    Part.repeatStep f n s = s := by
  cases n <;> simp [Part.repeatStep, h]

/-- A repeated step goes on from what the step gives. -/
theorem Part.repeatStep_some (f : Part → Option Part) (n : Nat) (s t : Part) (h : f s = some t) :
    Part.repeatStep f (n + 1) s = Part.repeatStep f n t := by
  simp [Part.repeatStep, h]

/-- All that taking the head of the accept queue can do (R134). -/
theorem Part.takeHead_some (s t : Part) (h : s.takeHead = some t) :
    ∃ tag rest c, s.ini.accept = tag :: rest ∧ s.ini.at tag = some c ∧ s.canTake c = true ∧
      t = ({ s with ini.accept := rest } : Part).take tag := by
  unfold Part.takeHead at h
  split at h
  · cases h
  · rename_i tag rest ha
    split at h
    · cases h
    · rename_i c hc
      split at h
      · rename_i hk
        cases h
        exact ⟨tag, rest, c, ha, hc, hk, rfl⟩
      · cases h

/-- The head that can be taken is (R134). -/
theorem Part.takeHead_of (s : Part) (tag : Nat) (rest : List Nat) (c : Cmd) (ha : s.ini.accept = tag :: rest)
    (hc : s.ini.at tag = some c) (hk : s.canTake c = true) :
    s.takeHead = some (({ s with ini.accept := rest } : Part).take tag) := by
  simp [Part.takeHead, ha, hc, hk]

/-- Without a barrier, no part is made final by one (R137). -/
theorem Part.barrierParts_none (s : Part)
    (h : s.log.table.all (fun r => r.barrier.isNone) = true) : s.barrierParts = s := by
  have : s.log.lowestBarrier (fun _ => true) = none := by
    simp only [Log.lowestBarrier, Option.map_eq_none_iff, List.find?_eq_none]
    intro r hr
    have := List.all_eq_true.mp h r hr
    cases hb : r.barrier <;> simp_all
  simp [Part.barrierParts, this]

/-- Every referral's end: the queue is empty, and the ids have joined the front of the expired-id list one after
another (R162, R166). -/
theorem Referral.expireAll_eq (r : Referral) :
    r.expireAll = { r with
      queue := []
      expired := r.queue.foldl (fun l e => (e.id :: l.filter (· != e.id)).take 4) r.expired } := by
  have h : ∀ (l : List ReferralEntry) (x : Referral),
      l.foldl (fun r e => r.expire e.id) x =
        { x with expired := l.foldl (fun l e => (e.id :: l.filter (· != e.id)).take 4) x.expired } := by
    intro l
    induction l with
    | nil => intro x; rfl
    | cons a l ih => intro x; rw [List.foldl_cons, ih]; rfl
  exact h r.queue { r with queue := [] }

end Sys2Proof.Machine
end

