-- ==== Sys2Proof/Laws/Degraded.lean ====
section
/-! SUPPORT. Laws of the entry into DEGRADED (R192) and of the pending directive. -/

namespace Sys2Proof.Machine

/-- An event leaves the pending directive as it was. -/
@[simp] theorem Window.raise_dirPending (w : Window) (k a b c d e) :
    (w.raise k a b c d e).dirPending = w.dirPending := by
  unfold Window.raise; (repeat' split) <;> rfl

@[simp] theorem Part.raise_pendingSettings (p : Part) (k a b c d e) :
    (p.raise k a b c d e).pendingSettings = p.pendingSettings := by
  simp only [Part.pendingSettings, Part.raise, Window.raise_dirPending]

@[simp] theorem Part.enter_pendingSettings (p : Part) (k a) :
    (p.enter k a).pendingSettings = p.pendingSettings := by
  simp only [Part.enter, Part.raise_pendingSettings]; rfl

/-- A finished directive is not pending. -/
theorem Part.finishDirective_pendingSettings (p : Part) (a b) (h : p.win.dirPending ≠ none) :
    (p.finishDirective a b).pendingSettings = none := by
  obtain ⟨d, hd⟩ := Option.ne_none_iff_exists'.mp h
  have : (p.finishDirective a b).win.dirPending = none := by
    simp only [Part.finishDirective, Window.finish, hd, Window.raise_dirPending, Window.update]
    split <;> rfl
  simp only [Part.pendingSettings, this]

/-- Where no append waits, none is dropped (R37). -/
theorem Part.foldl_dropAppends_empty (l : List Nat) :
    ∀ s : Part, (∀ b ∈ s.bands.lbt, b.queue = []) → l.foldl Part.dropAppends s = s := by
  induction l with
  | nil => intro s _; rfl
  | cons n l ih =>
    intro s hs
    have : s.dropAppends n = s := by
      have hq : (s.bands.lband n).queue = [] := by
        simp only [Bands.lband, List.getD_eq_getElem?_getD]
        cases hh : s.bands.lbt[n]? with
        | none => rfl
        | some b => exact hs b (List.mem_of_getElem? hh)
      simp only [Part.dropAppends, hq, List.filter_nil, List.getLast?_nil, List.isEmpty_nil, if_true, Part.onL]
      have : (s.bands.lbt.modify n fun b => { b with queue := [], pf := b.pf }) = s.bands.lbt := by
        apply List.ext_getElem (by simp)
        intro m h1 h2
        simp only [List.getElem_modify]
        split
        · have := hs _ (List.getElem_mem h2)
          generalize s.bands.lbt[m] = b at *
          cases b; simp_all
        · rfl
      rw [this]; rfl
    simp only [List.foldl_cons, this]
    exact ih s hs

/-- A context in IDLE or RELEASE does nothing on entry into DEGRADED (R107). -/
theorem Part.foldl_degradeCtx_ended (l : List Nat) (is) :
    ∀ s : Part, (∀ c ∈ s.mrg.ctxs, c.st = .idle ∨ c.st = .release) →
      l.foldl (Part.degradeCtx is) s = s := by
  induction l with
  | nil => intro s _; rfl
  | cons n l ih =>
    intro s hs
    have : Part.degradeCtx is s n = s := by
      have : (s.mrg.ctx n).st = .idle ∨ (s.mrg.ctx n).st = .release := by
        simp only [Merge.ctx, List.getD_eq_getElem?_getD]
        cases hh : s.mrg.ctxs[n]? with
        | none => simp
        | some b => exact hs b (List.mem_of_getElem? hh)
      unfold Part.degradeCtx
      rcases this with e | e <;> simp [e]
    simp only [List.foldl_cons, this]
    exact ih s hs

/-- Contexts that answer no CLEAN lose no mark. -/
theorem MergeCtx.map_unclean (l : List MergeCtx) (h : ∀ c ∈ l, c.clean = false) :
    (l.map fun c => { c with clean := false }) = l := by
  conv_rhs => rw [← List.map_id l]
  apply List.map_congr_left
  intro c hc
  rw [show (false) = c.clean from (h c hc).symm]; rfl

/-- An entry into DEGRADED from a quiet part changes the mode and finishes a pending settings directive,
and no more (R176, R192). -/
theorem Part.enterDegraded_quiet (s : Part) (hm : s.sys.mode = .active) (hq : s.quiet) :
    s.enterDegraded = (s.enter .degraded .none).failSettings := by
  obtain ⟨h1, h2, h3, h4, h5, h6, h7, h8⟩ := hq
  have hb : ∀ t : Part, t.log = s.log → t.barrierParts = t := by
    intro t ht
    apply Part.barrierParts_none
    rw [ht, List.all_eq_true]; intro r hr; simp [h7 r hr]
  rw [Part.enterDegraded, if_pos hm]
  obtain ⟨t, ht⟩ : ∃ t, t = s.enter .degraded .none := ⟨_, rfl⟩
  have hl : t.log = s.log := by rw [ht]; rfl
  simp only []
  rw [← ht]
  have e1 : t.markVoids = t := by simp [Part.markVoids, ht, Part.enter, h3]
  rw [e1, hb t hl]
  have e2 : t.dropHeld = t := by
    have : t.ini.hold = [] := by rw [ht]; exact h1
    simp only [Part.dropHeld, this, List.foldl_nil]
    rw [show ({ t with ini.hold := [] } : Part) = t by rw [← this]]
  have e3 : t.withdrawWrites = t := by
    have hp : t.port.offers = [] := by rw [ht]; exact h3
    simp only [Part.withdrawWrites, hp, List.filter_nil, List.foldl_nil]
    rw [show ({ t with port.offers := [] } : Part) = t by rw [← hp]]
    apply Part.foldl_dropAppends_empty
    rw [ht]; exact h6
  have e4 : ∀ (l is : List Nat), l.foldl (Part.degradeCtx is) t = t := by
    intro l is
    apply Part.foldl_degradeCtx_ended
    rw [ht]; exact fun c hc => (h8 c hc).1
  have e5 : t.failMergeDirectives = t := by
    have hr : t.mrg.reqs = [] := by rw [ht]; exact h4
    have hd : t.mrg.drain = none := by rw [ht]; exact h5
    have hc : ∀ c ∈ t.mrg.ctxs, c.clean = false := by rw [ht]; exact fun c hc => (h8 c hc).2
    have hf : t.mrg.ctxs.find? (·.clean) = none := by
      rw [List.find?_eq_none]; intro c h; simp [hc c h]
    unfold Part.failMergeDirectives
    simp only [hr, List.find?_nil, hf, List.map_nil, MergeCtx.map_unclean _ hc, hd]
    clear hc hf e4 e3 e2 e1 hl ht
    obtain ⟨_, _, _, _, _, _, _, _, _, _, ⟨_, _, _, _, _⟩, _, _, _⟩ := t
    simp_all
  rw [e2, e3, e4, e5]
  have fs : t.failSettings.log = t.log ∧ t.failSettings.ini = t.ini := by
    unfold Part.failSettings; split
    · exact ⟨rfl, rfl⟩
    · split <;> exact ⟨rfl, rfl⟩
  have e6 : t.failSettings.degradeAccept = t.failSettings := by
    have : t.failSettings.ini.accept = [] := by rw [fs.2, ht]; exact h2
    simp only [Part.degradeAccept, this, List.filter_nil, List.foldl_nil]
    obtain ⟨z, hz⟩ : ∃ z, z = t.failSettings := ⟨_, rfl⟩
    rw [← hz] at this ⊢
    rw [show ({ z with ini.accept := [] } : Part) = z by rw [← this]]
  rw [e6]
  exact hb _ (fs.1.trans hl)

end Sys2Proof.Machine
end

