-- ==== Sys2Proof/Laws/Exec.lean ====
section
/-! SUPPORT. What each command's meaning is, one equation per command, and when the part acts at all. -/

namespace Sys2Proof.Machine

variable (s : State)

/-- A command acts on the part while RESET_N is released. -/
theorem State.act_awake {f : Part → Part} (h : s.part.sys.inReset = false) :
    s.act f = .next { s with part := f s.part } := by simp [State.act, Part.awake, h]

/-- A command changes nothing while RESET_N is asserted. -/
theorem State.act_asleep {f : Part → Part} (h : s.part.sys.inReset = true) : s.act f = .next s := by
  simp [State.act, Part.awake, h]

theorem exec_resetNAssert :
    exec (.resetNAssert) s =
      (.next { s with part := s.part.assertReset }) := rfl
theorem exec_resetNRelease (windowEn : Bool) :
    exec (.resetNRelease windowEn) s =
      (.next { s with part := s.part.releaseReset windowEn }) := rfl
theorem exec_tick :
    exec (.tick) s =
      (s.act Part.tick) := rfl
theorem exec_linkDownTimerExpiry :
    exec (.linkDownTimerExpiry) s =
      (s.act Part.linkExpiry) := rfl
theorem exec_referralExpiryFirst (id : BitVec 16) :
    exec (.referralExpiryFirst id) s =
      (s.act (·.expireFirst id.toNat)) := rfl
theorem exec_referralExpiryLate (id : BitVec 16) :
    exec (.referralExpiryLate id) s =
      (s.act (·.expireLate id.toNat)) := rfl
theorem exec_drivePortLinkReset :
    exec (.drivePortLinkReset) s =
      (s.act Part.linkReset) := rfl
theorem exec_driveLinkUp :
    exec (.driveLinkUp) s =
      (s.act Part.linkUp) := rfl
theorem exec_upstreamLinkReset :
    exec (.upstreamLinkReset) s =
      (s.act Part.upstreamReset) := rfl
theorem exec_read (tag : Fin 32) (lba : BitVec 64) (count : BitVec 32) :
    exec (.read tag lba count) s =
      (s.act (·.readFrame tag lba.toNat count.toNat)) := rfl
theorem exec_write (tag : Fin 32) (lba : BitVec 64) (count : BitVec 32) :
    exec (.write tag lba count) s =
      (s.act (·.writeFrame tag lba.toNat count.toNat)) := rfl
theorem exec_discard (tag : Fin 32) (lba : BitVec 64) (count : BitVec 32) :
    exec (.discard tag lba count) s =
      (s.act (·.discardFrame tag lba.toNat count.toNat)) := rfl
theorem exec_flush (tag : Fin 32) :
    exec (.flush tag) s =
      (s.act (·.flushFrame tag)) := rfl
theorem exec_identify (tag : Fin 32) :
    exec (.identify tag) s =
      (s.act (·.identifyFrame tag)) := rfl
theorem exec_other (tag : Fin 32) (opcode : Byte) (params : List Byte) (dir : Byte) (count : BitVec 32) :
    exec (.other tag opcode params dir count) s =
      (s.act (·.otherFrame tag opcode params dir count.toNat)) := rfl
theorem exec_frameUnknownClass (tag : Fin 32) (cls : Byte) :
    exec (.frameUnknownClass tag cls) s =
      (s.act fun p => if (clsOf cls).isSome then p else p.unknownFrame tag) := rfl
theorem exec_eventsPageRead (tag : Fin 32) :
    exec (.eventsPageRead tag) s =
      (s.act fun p => p.readFrame tag (p.logBlocks + 1) 1) := rfl
theorem exec_writeDataBlock (tag : Fin 32) (block : Block) :
    exec (.writeDataBlock tag block) s =
      (s.act (·.dataBlock tag block)) := rfl
theorem exec_windowWriteIgnored (tag : Fin 32) (_block : Block) :
    exec (.windowWriteIgnored tag _block) s =
      (s.act (·.ignoredBlock tag)) := rfl
theorem exec_directiveUnknownCode (tag : Fin 32) (num : BitVec 32) (code : Byte) :
    exec (.directiveUnknownCode tag num code) s =
      (s.act (·.directiveRow tag num (.unknown code))) := rfl
theorem exec_setPolicy (tag : Fin 32) (num : BitVec 32) (lowQ highQ hardQ : Byte) (gap : BitVec 16) (paceQ : Byte) (burst : BitVec 16) (contexts timeout : Byte) :
    exec (.setPolicy tag num lowQ highQ hardQ gap paceQ burst contexts timeout) s =
      (s.act (·.directiveRow tag num (.setPolicy lowQ highQ hardQ gap paceQ burst contexts timeout))) := rfl
theorem exec_setDisposition (tag : Fin 32) (num : BitVec 32) (cls disp : Byte) :
    exec (.setDisposition tag num cls disp) s =
      (s.act (·.directiveRow tag num (.setDisposition cls disp))) := rfl
theorem exec_setRange (tag : Fin 32) (num : BitVec 32) (index mode fixed : Byte) (start length : BitVec 64) :
    exec (.setRange tag num index mode fixed start length) s =
      (s.act (·.directiveRow tag num (.setRange index mode fixed start length))) := rfl
theorem exec_setAlerts (tag : Fin 32) (num : BitVec 32) (mask : Byte) :
    exec (.setAlerts tag num mask) s =
      (s.act (·.directiveRow tag num (.setAlerts mask))) := rfl
theorem exec_ackAlerts (tag : Fin 32) (num : BitVec 32) (mask : Byte) :
    exec (.ackAlerts tag num mask) s =
      (s.act (·.directiveRow tag num (.ackAlerts mask))) := rfl
theorem exec_clearFlags (tag : Fin 32) (num : BitVec 32) :
    exec (.clearFlags tag num) s =
      (s.act (·.directiveRow tag num .clearFlags)) := rfl
theorem exec_query (tag : Fin 32) (num : BitVec 32) (lba : BitVec 64) :
    exec (.query tag num lba) s =
      (s.act (·.directiveRow tag num (.query lba))) := rfl
theorem exec_answerComplete (tag : Fin 32) (num : BitVec 32) (id : BitVec 16) (code : Byte) (len : BitVec 16) (reply : List Byte) :
    exec (.answerComplete tag num id code len reply) s =
      (s.act (·.directiveRow tag num (.answer id 1 code len reply))) := rfl
theorem exec_answerRelease (tag : Fin 32) (num : BitVec 32) (id : BitVec 16) :
    exec (.answerRelease tag num id) s =
      (s.act (·.directiveRow tag num (.answer id 2 0 0 []))) := rfl
theorem exec_stop (tag : Fin 32) (num : BitVec 32) :
    exec (.stop tag num) s =
      (s.act (·.directiveRow tag num .stop)) := rfl
theorem exec_clean (tag : Fin 32) (num : BitVec 32) (band : BitVec 32) :
    exec (.clean tag num band) s =
      (s.act (·.directiveRow tag num (.clean band))) := rfl
theorem exec_drain (tag : Fin 32) (num : BitVec 32) :
    exec (.drain tag num) s =
      (s.act (·.directiveRow tag num .drain)) := rfl
theorem exec_format (tag : Fin 32) (num : BitVec 32) (bandBlocks : BitVec 32) (spares : BitVec 16) (logLen : BitVec 32) :
    exec (.format tag num bandBlocks spares logLen) s =
      (s.act (·.directiveRow tag num (.format bandBlocks spares logLen))) := rfl
theorem exec_restart (tag : Fin 32) (num : BitVec 32) :
    exec (.restart tag num) s =
      (s.act (·.directiveRow tag num .restart)) := rfl
theorem exec_acceptQueueTake :
    exec (.acceptQueueTake) s =
      (s.act Part.serveAccept) := rfl
theorem exec_admission :
    exec (.admission) s =
      (s.act Part.admission) := rfl
theorem exec_internalRecordPosition :
    exec (.internalRecordPosition) s =
      (s.act Part.positionInternal) := rfl
theorem exec_driveGrant :
    exec (.driveGrant) s =
      (s.act Part.grantAll) := rfl
theorem exec_driveStaleCompletion (slot : Fin 32) (code : DriveCode) :
    exec (.driveStaleCompletion slot code) s =
      (s.act (·.staleCompletion slot code)) := rfl
theorem exec_foregroundReadComplete (slot : Fin 32) (code : DriveCode) (blocks : List Block) :
    exec (.foregroundReadComplete slot code blocks) s =
      (s.act fun p => p.complete slot
    (fun w => match w with
      | .fgRead _ _ => true
      | _ => false)
    fun o p => match o.work with
      | .fgRead cid i => p.fgReadFinal cid i o.cmd.start o.pin (finalCode code) blocks
      | _ => p) := rfl
theorem exec_forwardedDataIn (slot : Fin 32) (blocks : List Block) :
    exec (.forwardedDataIn slot blocks) s =
      (s.act (·.forwardData slot blocks)) := rfl
theorem exec_forwardedCommandComplete (slot : Fin 32) (code : DriveCode) :
    exec (.forwardedCommandComplete slot code) s =
      (s.act fun p => p.complete slot
    (fun w => match w with
      | .forwarded _ => true
      | _ => false)
    fun o p => match o.work with
      | .forwarded cid => p.forwardedFinal cid (finalCode code)
      | _ => p) := rfl
theorem exec_recordWriteComplete (slot : Fin 32) (code : DriveCode) :
    exec (.recordWriteComplete slot code) s =
      (s.act fun p => p.complete slot
    (fun w => match w with
      | .record _ => true
      | _ => false)
    fun o p => match o.work with
      | .record q => p.recordFinal q (finalCode code)
      | _ => p) := rfl
theorem exec_voidRewriteComplete (slot : Fin 32) (code : DriveCode) :
    exec (.voidRewriteComplete slot code) s =
      (s.act fun p => p.complete slot
    (fun w => match w with
      | .voidRewrite _ => true
      | _ => false)
    fun o p => match o.work with
      | .voidRewrite q => p.voidFinal q (finalCode code)
      | _ => p) := rfl
theorem exec_settlement :
    exec (.settlement) s =
      (s.act Part.settle) := rfl
theorem exec_reclaimAdvance :
    exec (.reclaimAdvance) s =
      (s.act Part.reclaimAdvance) := rfl
theorem exec_anchorWriteComplete (slot : Fin 32) (code : DriveCode) :
    exec (.anchorWriteComplete slot code) s =
      (s.act fun p => p.complete slot (· == .anchor) fun _ p => p.anchorFinal (finalCode code)) := rfl
theorem exec_appendIssue (band : BitVec 32) :
    exec (.appendIssue band) s =
      (s.act (·.appendIssue band.toNat)) := rfl
theorem exec_appendWriteComplete (slot : Fin 32) (code : DriveCode) :
    exec (.appendWriteComplete slot code) s =
      (s.act fun p => p.complete slot
    (fun w => match w with
      | .append _ _ _ => true
      | _ => false)
    fun o p => p.bandWriteFinal o (finalCode code)) := rfl
theorem exec_bandQueryComplete (slot : Fin 32) (code : DriveCode) (wps : List Nat) :
    exec (.bandQueryComplete slot code wps) s =
      (s.act fun p => p.complete slot Work.isQuery fun o p => p.queryFinal o (finalCode code) wps) := rfl
theorem exec_bandResetOffer :
    exec (.bandResetOffer) s =
      (s.act Part.offerResets) := rfl
theorem exec_bandResetComplete (slot : Fin 32) (code : DriveCode) :
    exec (.bandResetComplete slot code) s =
      (s.act fun p => p.complete slot
    (fun w => match w with
      | .bandReset _ => true
      | _ => false)
    fun o p => match o.work with
      | .bandReset b => p.resetFinal b (finalCode code)
      | _ => p) := rfl
theorem exec_targetBandHanded :
    exec (.targetBandHanded) s =
      (s.act Part.handBand) := rfl
theorem exec_mergeStart :
    exec (.mergeStart) s =
      (s.act Part.deadlockCheck) := rfl
theorem exec_mergeSnapshot (ctx : Fin 2) :
    exec (.mergeSnapshot ctx) s =
      (s.act (·.snapshot ctx)) := rfl
theorem exec_mergeReadIssue (ctx : Fin 2) :
    exec (.mergeReadIssue ctx) s =
      (s.act (·.issueRead ctx)) := rfl
theorem exec_mergeReadComplete (slot : Fin 32) (code : DriveCode) (blocks : List Block) :
    exec (.mergeReadComplete slot code blocks) s =
      (s.act fun p => p.complete slot
    (fun w => match w with
      | .mergeRead _ _ _ => true
      | _ => false)
    fun o p => match o.work with
      | .mergeRead i off n => p.mergeReadFinal i off n o.pin (finalCode code) blocks
      | _ => p) := rfl
theorem exec_targetUnitOffer (ctx : Fin 2) :
    exec (.targetUnitOffer ctx) s =
      (s.act (·.offerUnit ctx)) := rfl
theorem exec_targetUnitComplete (slot : Fin 32) (code : DriveCode) :
    exec (.targetUnitComplete slot code) s =
      (s.act fun p => p.complete slot
    (fun w => match w with
      | .targetUnit _ _ => true
      | _ => false)
    fun o p => p.bandWriteDone o code) := rfl
theorem exec_contextIdle (ctx : Fin 2) :
    exec (.contextIdle ctx) s =
      (s.act (·.releaseCtx ctx)) := rfl
theorem exec_carryForwardReadComplete (slot : Fin 32) (code : DriveCode) (blocks : List Block) :
    exec (.carryForwardReadComplete slot code blocks) s =
      (s.act fun p => p.complete slot
    (fun w => match w with
      | .carryRead _ _ => true
      | _ => false)
    fun o p => match o.work with
      | .carryRead i k => p.carryReadFinal i k o.pin (finalCode code) blocks
      | _ => p) := rfl
theorem exec_commandStatus (tag : Fin 32) :
    exec (.commandStatus tag) s =
      (s.act (·.commandStatus tag)) := rfl
theorem exec_flushDone (tag : Fin 32) :
    exec (.flushDone tag) s =
      (s.act (·.flushDone tag)) := rfl
theorem exec_mountStart :
    exec (.mountStart) s =
      (s.act Part.mountStart) := rfl
theorem exec_driveIdentifyComplete (slot : Fin 32) (code : DriveCode) (bands bandBlocks conv : Nat) (_model serial : List Byte) :
    exec (.driveIdentifyComplete slot code bands bandBlocks conv _model serial) s =
      (s.act fun p => p.complete slot (fun w => w == .mountIdentify || w == .formatIdentify) fun o p =>
    p.identifyFinal o (finalCode code) { bands := bands, bandBlocks := bandBlocks, conv := conv } serial) := rfl
theorem exec_mountAnchorReadComplete (slot : Fin 32) (code : DriveCode) (block : Block) :
    exec (.mountAnchorReadComplete slot code block) s =
      (s.act fun p => p.complete slot (· == .mountAnchor) fun _ p => p.anchorReadFinal (finalCode code) block) := rfl
theorem exec_mountHeaderReadComplete (slot : Fin 32) (code : DriveCode) (block : Block) :
    exec (.mountHeaderReadComplete slot code block) s =
      (s.act fun p => p.complete slot
    (fun w => match w with
      | .mountHeader _ => true
      | _ => false)
    fun o p => match o.work with
      | .mountHeader b => p.headerReadFinal b (finalCode code) block
      | _ => p) := rfl
theorem exec_replayReadComplete (slot : Fin 32) (code : DriveCode) (blocks : List Block) :
    exec (.replayReadComplete slot code blocks) s =
      (s.act fun p => p.complete slot Work.isReplay fun o p => p.replayFinal o.work (finalCode code) blocks) := rfl
theorem exec_claimResolution :
    exec (.claimResolution) s =
      (s.act Part.claimResolution) := rfl
theorem exec_formatQuiesceDone :
    exec (.formatQuiesceDone) s =
      (s.act Part.formatQuiesced) := rfl
theorem exec_formatLogClearComplete (slot : Fin 32) (code : DriveCode) :
    exec (.formatLogClearComplete slot code) s =
      (s.act fun p => p.complete slot
    (fun w => match w with
      | .formatClear _ _ => true
      | _ => false)
    fun o p => match o.work with
      | .formatClear k n => p.formatCleared k n (finalCode code)
      | _ => p) := rfl
theorem exec_formatBandResetComplete (slot : Fin 32) (code : DriveCode) :
    exec (.formatBandResetComplete slot code) s =
      (s.act fun p => p.complete slot
    (fun w => match w with
      | .formatReset _ => true
      | _ => false)
    fun o p => match o.work with
      | .formatReset b => p.formatReset b (finalCode code)
      | _ => p) := rfl
theorem exec_formatAnchorWriteComplete (slot : Fin 32) (code : DriveCode) :
    exec (.formatAnchorWriteComplete slot code) s =
      (s.act fun p => p.complete slot (· == .formatAnchor) fun _ p => p.formatAnchored (finalCode code)) := rfl
theorem exec_answerUnknownAction (tag : Fin 32) (num : BitVec 32) (id : BitVec 16) (action : Byte) :
    exec (.answerUnknownAction tag num id action) s =
      (s.act (·.directiveRow tag num (.answer id action 0 0 []))) := rfl

end Sys2Proof.Machine
end

