-- ==== Sys2Proof/Laws/Directives.lean ====
section
/-! SUPPORT. How a directive row runs: the block at its page is kept for the echo, the tests of R174 decide, and the
window WRITE counts its block. -/

namespace Sys2Proof.Machine

/-- A directive block is in its one form. -/
@[simp] theorem toBlock_encodeDirective (num : BitVec 32) (d : Directive) :
    toBlock (encodeDirective num d) = encodeDirective num d := by
  simp [encodeDirective]

/-- A directive row whose block goes to the DIRECTIVE page (R167, R168, R174). -/
theorem Part.directiveRow_due (s : Part) (tag : Nat) (num : BitVec 32) (d : Directive)
    (h : s.ini.windowPage tag = some 2) :
    s.directiveRow tag num d =
      (({ s with win.echo := encodeDirective num d } : Part).takeDirective num d).windowTaken tag := by
  simp [Part.directiveRow, Part.directiveBlock, h, directivePage, Part.takeEchoed]

/-- A directive row with no such block due changes nothing. -/
theorem Part.directiveRow_other (s : Part) (tag : Nat) (num : BitVec 32) (d : Directive)
    (h : s.ini.windowPage tag ≠ some 2) : s.directiveRow tag num d = s := by
  simp [Part.directiveRow, Part.directiveBlock, h, directivePage]

/-- A known directive that its mode allows, and that finds no other pending if it takes time, has its own effect
(R174). -/
theorem Part.takeDirective_applied (s : Part) (num : BitVec 32) (d : Directive) (h1 : d.known = true)
    (h2 : d.allowedIn s.sys.mode = true) (h3 : d.takesTime = false ∨ s.win.dirPending = none) :
    s.takeDirective num d = s.applyDirective num d := by
  rcases h3 with h3 | h3 <;> simp [Part.takeDirective, h1, h2, h3]

/-- The outcome of a directive row whose block goes to the DIRECTIVE page. -/
theorem State.act_directiveRow (p : Part) (q : List Instr) (tag : Nat) (num : BitVec 32) (d : Directive)
    (h : p.sys.inReset = false) (h2 : p.ini.windowPage tag = some 2) :
    (⟨p, q⟩ : State).act (·.directiveRow tag num d) =
      .next ⟨(({ p with win.echo := encodeDirective num d } : Part).takeDirective num d).windowTaken tag, q⟩ := by
  rw [State.act_awake _ h]
  exact congrArg (fun x => Host.Outcome.next (State.mk x q)) (p.directiveRow_due tag num d h2)

end Sys2Proof.Machine
end

