-- ==== Sys2Proof/Laws/PerInstr.lean ====
section
/-! SUPPORT. Laws stated once per command. -/

namespace Sys2Proof.Laws

/-- A frame on the initiator link has 32 bytes and begins with the tag (R199). -/
theorem frameBytes_shape (t : Fin 32) (cls dir opcode : Byte) (lba : BitVec 64) (count : BitVec 32)
    (params : List Byte) :
    (frameBytes t cls dir opcode lba count params).length = 32 ∧
      Machine.byteAt (frameBytes t cls dir opcode lba count params) 1 = cls := by
  simp [frameBytes, Machine.byteAt]

/-- `EncodableFields` of a command: the frame that carries it, if it arrives in one, has 32 bytes, and the class
code at offset 1 names a class unless the command is FRAME_UNKNOWN_CLASS (R127, R199). -/
def EncodableFields.Statement (i : Instr) : Prop :=
  ∀ f, encodeFrame i = some f → wellFormed i = true →
    f.length = 32 ∧
      ((Machine.clsOf (Machine.byteAt f 1)).isSome = true ∨ ∃ t c, i = .frameUnknownClass t c)

theorem encodableFields_of_none {i : Instr} (h : encodeFrame i = none) : EncodableFields.Statement i := by
  intro f hf
  rw [h] at hf
  cases hf

theorem encodableFields_of_frame {i : Instr} {t : Fin 32} {cls dir opcode : Byte} {lba : BitVec 64}
    {count : BitVec 32} {params : List Byte}
    (h : encodeFrame i = some (frameBytes t cls dir opcode lba count params))
    (hc : (Machine.clsOf cls).isSome = true) : EncodableFields.Statement i := by
  intro f hf _
  rw [h] at hf
  cases hf
  obtain ⟨hl, hb⟩ := frameBytes_shape t cls dir opcode lba count params
  exact ⟨hl, .inl (by rw [hb]; exact hc)⟩

theorem EncodableFields.resetNAssert :
    EncodableFields.Statement .resetNAssert := encodableFields_of_none rfl

theorem EncodableFields.resetNRelease (windowEn : Bool) :
    EncodableFields.Statement (.resetNRelease windowEn) := encodableFields_of_none rfl

theorem EncodableFields.tick :
    EncodableFields.Statement .tick := encodableFields_of_none rfl

theorem EncodableFields.linkDownTimerExpiry :
    EncodableFields.Statement .linkDownTimerExpiry := encodableFields_of_none rfl

theorem EncodableFields.referralExpiryFirst (id : BitVec 16) :
    EncodableFields.Statement (.referralExpiryFirst id) := encodableFields_of_none rfl

theorem EncodableFields.referralExpiryLate (id : BitVec 16) :
    EncodableFields.Statement (.referralExpiryLate id) := encodableFields_of_none rfl

theorem EncodableFields.drivePortLinkReset :
    EncodableFields.Statement .drivePortLinkReset := encodableFields_of_none rfl

theorem EncodableFields.driveLinkUp :
    EncodableFields.Statement .driveLinkUp := encodableFields_of_none rfl

theorem EncodableFields.upstreamLinkReset :
    EncodableFields.Statement .upstreamLinkReset := encodableFields_of_none rfl

theorem EncodableFields.read (tag : Fin 32) (lba : BitVec 64) (count : BitVec 32) :
    EncodableFields.Statement (.read tag lba count) := encodableFields_of_frame rfl rfl

theorem EncodableFields.write (tag : Fin 32) (lba : BitVec 64) (count : BitVec 32) :
    EncodableFields.Statement (.write tag lba count) := encodableFields_of_frame rfl rfl

theorem EncodableFields.discard (tag : Fin 32) (lba : BitVec 64) (count : BitVec 32) :
    EncodableFields.Statement (.discard tag lba count) := encodableFields_of_frame rfl rfl

theorem EncodableFields.flush (tag : Fin 32) :
    EncodableFields.Statement (.flush tag) := encodableFields_of_frame rfl rfl

theorem EncodableFields.identify (tag : Fin 32) :
    EncodableFields.Statement (.identify tag) := encodableFields_of_frame rfl rfl

theorem EncodableFields.other (tag : Fin 32) (opcode : Byte) (params : List Byte) (dir : Byte) (count : BitVec 32) :
    EncodableFields.Statement (.other tag opcode params dir count) := encodableFields_of_frame rfl rfl

theorem EncodableFields.frameUnknownClass (tag : Fin 32) (cls : Byte) :
    EncodableFields.Statement (.frameUnknownClass tag cls) := by
  intro f hf _
  cases hf
  exact ⟨(frameBytes_shape _ _ _ _ _ _ _).1, .inr ⟨_, _, rfl⟩⟩

theorem EncodableFields.eventsPageRead (tag : Fin 32) :
    EncodableFields.Statement (.eventsPageRead tag) := encodableFields_of_none rfl

theorem EncodableFields.writeDataBlock (tag : Fin 32) (block : Block) :
    EncodableFields.Statement (.writeDataBlock tag block) := encodableFields_of_none rfl

theorem EncodableFields.windowWriteIgnored (tag : Fin 32) (block : Block) :
    EncodableFields.Statement (.windowWriteIgnored tag block) := encodableFields_of_none rfl

theorem EncodableFields.directiveUnknownCode (tag : Fin 32) (num : BitVec 32) (code : Byte) :
    EncodableFields.Statement (.directiveUnknownCode tag num code) := encodableFields_of_none rfl

theorem EncodableFields.setPolicy (tag : Fin 32) (num : BitVec 32) (lowQ highQ hardQ : Byte) (gap : BitVec 16) (paceQ : Byte) (burst : BitVec 16) (contexts timeout : Byte) :
    EncodableFields.Statement (.setPolicy tag num lowQ highQ hardQ gap paceQ burst contexts timeout) := encodableFields_of_none rfl

theorem EncodableFields.setDisposition (tag : Fin 32) (num : BitVec 32) (cls disp : Byte) :
    EncodableFields.Statement (.setDisposition tag num cls disp) := encodableFields_of_none rfl

theorem EncodableFields.setRange (tag : Fin 32) (num : BitVec 32) (index mode fixed : Byte) (start length : BitVec 64) :
    EncodableFields.Statement (.setRange tag num index mode fixed start length) := encodableFields_of_none rfl

theorem EncodableFields.setAlerts (tag : Fin 32) (num : BitVec 32) (mask : Byte) :
    EncodableFields.Statement (.setAlerts tag num mask) := encodableFields_of_none rfl

theorem EncodableFields.ackAlerts (tag : Fin 32) (num : BitVec 32) (mask : Byte) :
    EncodableFields.Statement (.ackAlerts tag num mask) := encodableFields_of_none rfl

theorem EncodableFields.clearFlags (tag : Fin 32) (num : BitVec 32) :
    EncodableFields.Statement (.clearFlags tag num) := encodableFields_of_none rfl

theorem EncodableFields.query (tag : Fin 32) (num : BitVec 32) (lba : BitVec 64) :
    EncodableFields.Statement (.query tag num lba) := encodableFields_of_none rfl

theorem EncodableFields.answerComplete (tag : Fin 32) (num : BitVec 32) (id : BitVec 16) (code : Byte) (len : BitVec 16) (reply : List Byte) :
    EncodableFields.Statement (.answerComplete tag num id code len reply) := encodableFields_of_none rfl

theorem EncodableFields.answerRelease (tag : Fin 32) (num : BitVec 32) (id : BitVec 16) :
    EncodableFields.Statement (.answerRelease tag num id) := encodableFields_of_none rfl

theorem EncodableFields.stop (tag : Fin 32) (num : BitVec 32) :
    EncodableFields.Statement (.stop tag num) := encodableFields_of_none rfl

theorem EncodableFields.clean (tag : Fin 32) (num : BitVec 32) (band : BitVec 32) :
    EncodableFields.Statement (.clean tag num band) := encodableFields_of_none rfl

theorem EncodableFields.drain (tag : Fin 32) (num : BitVec 32) :
    EncodableFields.Statement (.drain tag num) := encodableFields_of_none rfl

theorem EncodableFields.format (tag : Fin 32) (num : BitVec 32) (bandBlocks : BitVec 32) (spares : BitVec 16) (logLen : BitVec 32) :
    EncodableFields.Statement (.format tag num bandBlocks spares logLen) := encodableFields_of_none rfl

theorem EncodableFields.restart (tag : Fin 32) (num : BitVec 32) :
    EncodableFields.Statement (.restart tag num) := encodableFields_of_none rfl

theorem EncodableFields.acceptQueueTake :
    EncodableFields.Statement .acceptQueueTake := encodableFields_of_none rfl

theorem EncodableFields.admission :
    EncodableFields.Statement .admission := encodableFields_of_none rfl

theorem EncodableFields.internalRecordPosition :
    EncodableFields.Statement .internalRecordPosition := encodableFields_of_none rfl

theorem EncodableFields.driveGrant :
    EncodableFields.Statement .driveGrant := encodableFields_of_none rfl

theorem EncodableFields.driveStaleCompletion (slot : Fin 32) (code : DriveCode) :
    EncodableFields.Statement (.driveStaleCompletion slot code) := encodableFields_of_none rfl

theorem EncodableFields.foregroundReadComplete (slot : Fin 32) (code : DriveCode) (blocks : List Block) :
    EncodableFields.Statement (.foregroundReadComplete slot code blocks) := encodableFields_of_none rfl

theorem EncodableFields.forwardedDataIn (slot : Fin 32) (blocks : List Block) :
    EncodableFields.Statement (.forwardedDataIn slot blocks) := encodableFields_of_none rfl

theorem EncodableFields.forwardedCommandComplete (slot : Fin 32) (code : DriveCode) :
    EncodableFields.Statement (.forwardedCommandComplete slot code) := encodableFields_of_none rfl

theorem EncodableFields.recordWriteComplete (slot : Fin 32) (code : DriveCode) :
    EncodableFields.Statement (.recordWriteComplete slot code) := encodableFields_of_none rfl

theorem EncodableFields.voidRewriteComplete (slot : Fin 32) (code : DriveCode) :
    EncodableFields.Statement (.voidRewriteComplete slot code) := encodableFields_of_none rfl

theorem EncodableFields.settlement :
    EncodableFields.Statement .settlement := encodableFields_of_none rfl

theorem EncodableFields.reclaimAdvance :
    EncodableFields.Statement .reclaimAdvance := encodableFields_of_none rfl

theorem EncodableFields.anchorWriteComplete (slot : Fin 32) (code : DriveCode) :
    EncodableFields.Statement (.anchorWriteComplete slot code) := encodableFields_of_none rfl

theorem EncodableFields.appendIssue (band : BitVec 32) :
    EncodableFields.Statement (.appendIssue band) := encodableFields_of_none rfl

theorem EncodableFields.appendWriteComplete (slot : Fin 32) (code : DriveCode) :
    EncodableFields.Statement (.appendWriteComplete slot code) := encodableFields_of_none rfl

theorem EncodableFields.bandQueryComplete (slot : Fin 32) (code : DriveCode) (wps : List Nat) :
    EncodableFields.Statement (.bandQueryComplete slot code wps) := encodableFields_of_none rfl

theorem EncodableFields.bandResetOffer :
    EncodableFields.Statement .bandResetOffer := encodableFields_of_none rfl

theorem EncodableFields.bandResetComplete (slot : Fin 32) (code : DriveCode) :
    EncodableFields.Statement (.bandResetComplete slot code) := encodableFields_of_none rfl

theorem EncodableFields.targetBandHanded :
    EncodableFields.Statement .targetBandHanded := encodableFields_of_none rfl

theorem EncodableFields.mergeStart :
    EncodableFields.Statement .mergeStart := encodableFields_of_none rfl

theorem EncodableFields.mergeSnapshot (ctx : Fin 2) :
    EncodableFields.Statement (.mergeSnapshot ctx) := encodableFields_of_none rfl

theorem EncodableFields.mergeReadIssue (ctx : Fin 2) :
    EncodableFields.Statement (.mergeReadIssue ctx) := encodableFields_of_none rfl

theorem EncodableFields.mergeReadComplete (slot : Fin 32) (code : DriveCode) (blocks : List Block) :
    EncodableFields.Statement (.mergeReadComplete slot code blocks) := encodableFields_of_none rfl

theorem EncodableFields.targetUnitOffer (ctx : Fin 2) :
    EncodableFields.Statement (.targetUnitOffer ctx) := encodableFields_of_none rfl

theorem EncodableFields.targetUnitComplete (slot : Fin 32) (code : DriveCode) :
    EncodableFields.Statement (.targetUnitComplete slot code) := encodableFields_of_none rfl

theorem EncodableFields.contextIdle (ctx : Fin 2) :
    EncodableFields.Statement (.contextIdle ctx) := encodableFields_of_none rfl

theorem EncodableFields.carryForwardReadComplete (slot : Fin 32) (code : DriveCode) (blocks : List Block) :
    EncodableFields.Statement (.carryForwardReadComplete slot code blocks) := encodableFields_of_none rfl

theorem EncodableFields.commandStatus (tag : Fin 32) :
    EncodableFields.Statement (.commandStatus tag) := encodableFields_of_none rfl

theorem EncodableFields.flushDone (tag : Fin 32) :
    EncodableFields.Statement (.flushDone tag) := encodableFields_of_none rfl

theorem EncodableFields.mountStart :
    EncodableFields.Statement .mountStart := encodableFields_of_none rfl

theorem EncodableFields.driveIdentifyComplete (slot : Fin 32) (code : DriveCode) (bands bandBlocks conv : Nat) (model serial : List Byte) :
    EncodableFields.Statement (.driveIdentifyComplete slot code bands bandBlocks conv model serial) := encodableFields_of_none rfl

theorem EncodableFields.mountAnchorReadComplete (slot : Fin 32) (code : DriveCode) (block : Block) :
    EncodableFields.Statement (.mountAnchorReadComplete slot code block) := encodableFields_of_none rfl

theorem EncodableFields.mountHeaderReadComplete (slot : Fin 32) (code : DriveCode) (block : Block) :
    EncodableFields.Statement (.mountHeaderReadComplete slot code block) := encodableFields_of_none rfl

theorem EncodableFields.replayReadComplete (slot : Fin 32) (code : DriveCode) (blocks : List Block) :
    EncodableFields.Statement (.replayReadComplete slot code blocks) := encodableFields_of_none rfl

theorem EncodableFields.claimResolution :
    EncodableFields.Statement .claimResolution := encodableFields_of_none rfl

theorem EncodableFields.formatQuiesceDone :
    EncodableFields.Statement .formatQuiesceDone := encodableFields_of_none rfl

theorem EncodableFields.formatLogClearComplete (slot : Fin 32) (code : DriveCode) :
    EncodableFields.Statement (.formatLogClearComplete slot code) := encodableFields_of_none rfl

theorem EncodableFields.formatBandResetComplete (slot : Fin 32) (code : DriveCode) :
    EncodableFields.Statement (.formatBandResetComplete slot code) := encodableFields_of_none rfl

theorem EncodableFields.formatAnchorWriteComplete (slot : Fin 32) (code : DriveCode) :
    EncodableFields.Statement (.formatAnchorWriteComplete slot code) := encodableFields_of_none rfl

theorem EncodableFields.answerUnknownAction (tag : Fin 32) (num : BitVec 32) (id : BitVec 16) (action : Byte) :
    EncodableFields.Statement (.answerUnknownAction tag num id action) := encodableFields_of_none rfl

end Sys2Proof.Laws
end

