-- ==== Sys2Proof/Tests/Slice0.lean ====
section
/-! SUPPORT. Tests: the WellFormed smoke, one-step checks whose expected values are worked from the tables of the
spec by hand, and, for each statement for the provers that has hypotheses, `witness_<its name>`: operands and
states that meet the hypotheses of each of its clauses, at the ends of their ranges. -/

namespace Sys2Proof.Tests

open Sys2Proof.Machine

/-! ### States -/

/-- The smallest layout: P = 64, S = 16,384, R = 4, LOG_LEN = 16,384, so D = 16,383, E = 60, E x D = 982,980. -/
def geo : Layout := { bandBlocks := 16384, bands := 64, spares := 4, conv := 65536, logLen := 16384 }

def drv : DriveGeo := { bands := 64, bandBlocks := 16384, conv := 65536 }

/-- ACTIVE on a new drive, the link up and nothing staged. -/
def live : Part :=
  { sys := { mode := .active, drive := some drv, layout := geo }
    cfg := { loaded := true }
    bands :=
      { lbt := List.replicate 60 {}, pool := List.replicate 64 { st := .free }, free := List.range 64 }
    log := { nextSeq := 1 }
    port := { linkUp := true } }

def inMode (m : Mode) (p : Part) : Part := { p with sys := { p.sys with mode := m } }

/-- Tag `t` holds `c`. -/
def onTag (t : Nat) (c : Cmd) (p : Part) : Part := { p with ini.tags := p.ini.tags.set t (some c) }

/-- Drive slot `k` runs `o`. -/
def inSlot (k : Nat) (o : Offer) (p : Part) : Part :=
  { p with port.slots := p.port.slots.set k (some { offer := o }) }

def onBand (l : Nat) (b : LBand) (p : Part) : Part := { p with bands.lbt := p.bands.lbt.set l b }
def onPool (n : Nat) (b : PBand) (p : Part) : Part := { p with bands.pool := p.bands.pool.set n b }
def onCtx (i : Nat) (c : MergeCtx) (p : Part) : Part := { p with mrg.ctxs := p.mrg.ctxs.set i c }
def logged (rs : List Rec) (p : Part) : Part := { p with log.table := rs }
def offering (os : List Offer) (p : Part) : Part := { p with port.offers := os }
def indexed (es : List Extent) (p : Part) : Part := { p with idx.extents := es }

/-- A window WRITE of page 2 on tag 0. -/
def windowWrite : Cmd := { cid := 0, tag := 0, cls := .write, lba := 982982, count := 1, st := .receiving,
                           window := true, page := 2 }

/-- `live` with a directive block due on tag 0. -/
def due : Part := onTag 0 windowWrite live

/-- A tag's command is the only one: a context found on any tag is it. -/
theorem at_onTag {t k : Nat} {c x : Cmd} (h : (onTag t c live).ini.at k = some x) : k = t ∧ x = c := by
  have hk : (((List.replicate 32 none).set t (some c)).getD k none : Option Cmd) = some x := h
  rw [List.getD_eq_getElem?_getD, List.getElem?_set] at hk
  split at hk
  · split at hk
    · subst_vars
      simpa using hk.symm
    · simp at hk
  · rw [List.getElem?_replicate] at hk
    split at hk <;> simp at hk

/-- The counter of identities at `n`. -/
def counted (n : Nat) (p : Part) : Part := { p with ini.nextCid := n }

/-- `commandsSound`, tag by tag, for a part with no detached command. -/
def soundTags (p : Part) : Bool :=
  (List.range 32).all fun k => (List.range 32).all fun l =>
    match p.ini.at k, p.ini.at l with
    | some c, some x =>
      c.tag == k && decide (c.cid < p.ini.nextCid) && (!c.window || c.cls == .write) &&
        (x.cid != c.cid || l == k)
    | _, _ => true

theorem sound_of {p : Part} (hl : p.ini.tags.length = 32) (hd : p.ini.detached = []) (h : soundTags p = true) :
    p.commandsSound := by
  have lt : ∀ k c, p.ini.at k = some c → k < 32 := by
    intro k c hk
    by_contra hn
    simp only [Initiator.at, List.getD_eq_getElem?_getD] at hk
    rw [List.getElem?_eq_none (by omega)] at hk
    simp at hk
  have at2 : ∀ k l c x, p.ini.at k = some c → p.ini.at l = some x →
      ((c.tag = k ∧ c.cid < p.ini.nextCid) ∧ (c.window = false ∨ c.cls = .write)) ∧ (x.cid ≠ c.cid ∨ l = k) := by
    intro k l c x hk hx
    have := List.all_eq_true.mp (List.all_eq_true.mp h k (List.mem_range.mpr (lt k c hk))) l
      (List.mem_range.mpr (lt l x hx))
    simpa [hk, hx] using this
  refine ⟨fun k c hk => ?_, by simp [hd]⟩
  obtain ⟨⟨⟨h1, h2⟩, h3⟩, -⟩ := at2 k k c c hk hk
  refine ⟨h1, h2, fun hw => ?_, fun l x hx he => ?_, by simp [hd]⟩
  · simpa [hw] using h3
  · simpa [he] using (at2 k l c x hk hx).2

/-! ### WellFormed refuses each ill-formed operand -/

/-- A byte too many for a block. -/
def longBlock : Block := List.replicate 4097 1

theorem test_referral_id_0_is_refused : wellFormed (.referralExpiryFirst 0) = false := by decide
theorem test_late_id_0_is_refused : wellFormed (.referralExpiryLate 0) = false := by decide
theorem test_15_parameter_bytes_are_refused :
    wellFormed (.other 0 0 (List.replicate 15 0) 0 0) = false := by decide
theorem test_class_6_is_no_unknown_class : wellFormed (.frameUnknownClass 0 6) = false := by decide
theorem test_code_13_is_no_unknown_code : wellFormed (.directiveUnknownCode 0 0 13) = false := by decide
theorem test_reply_shorter_than_its_length_is_refused :
    wellFormed (.answerComplete 0 0 1 0 2 [7]) = false := by decide
theorem test_action_2_is_no_unknown_action : wellFormed (.answerUnknownAction 0 0 1 2) = false := by decide
theorem test_long_blocks_are_refused :
    blockOk longBlock = false ∧
    (wellFormed (.writeDataBlock 0 longBlock) || wellFormed (.windowWriteIgnored 0 longBlock) ||
      wellFormed (.mountAnchorReadComplete 0 .good longBlock) ||
      wellFormed (.mountHeaderReadComplete 0 .good longBlock) ||
      wellFormed (.foregroundReadComplete 0 .good [longBlock]) ||
      wellFormed (.forwardedDataIn 0 [longBlock]) || wellFormed (.mergeReadComplete 0 .good [longBlock]) ||
      wellFormed (.carryForwardReadComplete 0 .good [longBlock]) ||
      wellFormed (.replayReadComplete 0 .good [longBlock])) = false := by
  have h : blockOk longBlock = false := by
    unfold blockOk longBlock
    rw [List.length_replicate]
    rfl
  refine ⟨h, ?_⟩
  simp [wellFormed, blocksOk, h]
theorem test_more_than_8192_pointers_are_refused (wps : List Nat) (h : wps.length = 8193) :
    wellFormed (.bandQueryComplete 0 .good wps) = false :=
  decide_eq_false (by rw [h]; decide)
theorem test_long_model_and_serial_texts_are_refused :
    wellFormed (.driveIdentifyComplete 0 .good 64 16384 65536 (List.replicate 41 0) []) = false ∧
    wellFormed (.driveIdentifyComplete 0 .good 64 16384 65536 [] (List.replicate 21 0)) = false := by decide

/-! ### Frames written out byte by byte (R127, R199, R208) -/

/-- Tag 5, class 1 (READ), lba 0x0102030405060708, count 3: each number low byte first. -/
theorem test_read_frame :
    decodeFrame
      ([5, 1, 0, 0] ++ [8, 7, 6, 5, 4, 3, 2, 1] ++ [3, 0, 0, 0] ++ List.replicate 16 0) =
      some (.read 5 0x0102030405060708 3) := by decide
/-- Tag 31, class 6 (OTHER), data-in (1), opcode 0x9E, count 0x400. -/
theorem test_other_frame :
    decodeFrame
      ([31, 6, 1, 0x9E] ++ List.replicate 8 0 ++ [0, 4, 0, 0] ++
        [0, 1, 2, 3, 4, 5, 6, 7, 8, 9, 10, 11, 12, 13, 14, 15]) =
      some (.other 31 0x9E [0, 1, 2, 3, 4, 5, 6, 7, 8, 9, 10, 11, 12, 13, 14, 15] 1 0x400) := by decide
/-- Classes 2 to 5 and 7. -/
theorem test_class_codes :
    decodeFrame ([0, 2, 0, 0] ++ [9, 0, 0, 0, 0, 0, 0, 0] ++ [1, 0, 0, 0] ++ List.replicate 16 0) =
      some (.write 0 9 1) ∧
    decodeFrame ([0, 3, 0, 0] ++ [9, 0, 0, 0, 0, 0, 0, 0] ++ [1, 0, 0, 0] ++ List.replicate 16 0) =
      some (.discard 0 9 1) ∧
    decodeFrame ([0, 4] ++ List.replicate 30 0) = some (.flush 0) ∧
    decodeFrame ([0, 5] ++ List.replicate 30 0) = some (.identify 0) ∧
    decodeFrame ([0, 7] ++ List.replicate 30 0) = some (.frameUnknownClass 0 7) ∧
    decodeFrame ([32, 1] ++ List.replicate 30 0) = none := by decide
/-- The table gives no row any bits. -/
theorem test_no_table_words : decodeTableWord 32 0xFFFFFFFF = none := by decide

/-- R65: the check value of the nine characters "123456789" is 0xCBF43926. -/
theorem test_check_value :
    checkValue [0x31, 0x32, 0x33, 0x34, 0x35, 0x36, 0x37, 0x38, 0x39] = 0xCBF43926 := by decide +kernel

/-! ### Witnesses: the block as a whole -/

theorem witness_ResetStateAndPins :
    ({ sys := { inReset := true } } : Part).sys.inReset = true ∧ Instr.tick ≠ .resetNAssert ∧
      ∀ v, Instr.tick ≠ .resetNRelease v := by decide

/-- A referral of OTHER on tag 4. -/
def referral (id : Nat) (st : Stage) (ticks : Nat) : ReferralEntry :=
  { id := id, tag := 4, cls := .other, lba := 0, count := 0, opcode := 7, params := [], dir := .noData,
    stage := st, ticks := ticks }

def referring (es : List ReferralEntry) (p : Part) : Part := { p with ref.queue := es }

/-- The smallest and the largest id, FIRST and LATE. -/
theorem witness_TimersTickAndReferralsExpire :
    let p := referring [referral 1 .first 0, referral 65535 .late 0] live
    p.sys.inReset = false ∧
    p.ref.find (1 : BitVec 16).toNat = some (referral 1 .first 0) ∧
    p.ref.find (65535 : BitVec 16).toNat = some (referral 65535 .late 0) := by decide

/-- The link DOWN for `t` ticks. -/
def downFor (t : Nat) (p : Part) : Part := { p with port.linkUp := false, port.timer := some t }

/-- The timer at 299 and at 300 ticks, with a window WRITE and an OTHER command active. -/
theorem witness_HaltAndUpstreamResetDropEveryCommand :
    let p := downFor 299 live
    let c : Cmd := { cid := 1, tag := 4, cls := .other, st := .referred }
    let r := downFor 300 (counted 2 (onTag 4 c (inMode .formatting due)))
    let o : Offer := { cls := .a, work := .anchor, cmd := .write 0 1 }
    let v : Offer := { cls := .b, work := .fgRead 0 0, cmd := .read 65537 1, order := 1, attempt := 2 }
    let u := offering [o, v] live
    (p.sys.inReset = false ∧ p.port.linkUp = false ∧ p.sys.mode ≠ .offline ∧ p.sys.mode ≠ .halted ∧
      p.port.timer = some 299) ∧
    (r.sys.inReset = false ∧ r.port.linkUp = false ∧ r.sys.mode ≠ .offline ∧ r.sys.mode ≠ .halted ∧
      r.port.timer = some 300 ∧ r.commandsSound ∧ r.ini.at 4 = some c ∧ c.window = false ∧
      r.ini.at 0 = some windowWrite ∧ windowWrite.window = true) ∧
    (u.sys.inReset = false ∧ (o ∈ u.port.offers ∧ o.work.ofCommand = none) ∧
      (v ∈ u.port.offers ∧ 1 < v.attempt)) :=
  ⟨by decide, ⟨by decide, by decide, by decide, by decide, by decide,
    sound_of (by decide) (by decide) (by decide +kernel), by decide⟩, by decide⟩

/-- A WRITE of `n` blocks at `lba` on tag 0, RECEIVING. -/
def writing (lba n : Nat) : Cmd :=
  { cid := 0, tag := 0, cls := .write, lba := lba, count := n, st := .receiving, frames := n }

/-- A foreground read of one block. -/
def readOffer : Offer := { cls := .b, work := .fgRead 0 0, cmd := .read 65537 1, order := 1 }

/-- A data-in OTHER of `n` blocks on tag 0, `taken` of them passed. -/
def receivingIn (n : Nat) (taken : List Block) : Cmd :=
  { cid := 0, tag := 0, cls := .other, count := n, dir := .dataIn, frames := n, parts := [.pending], data := taken }

/-- What a link reset may have aborted: an anchor write, a record's, a VOID rewrite, a band reset, a query, a band write. -/
def aborted : List Offer :=
  [{ cls := .a, work := .anchor, cmd := .write 0 1, order := 2 },
   { cls := .c, work := .record 1, cmd := .write 8 2, order := 1 },
   { cls := .a, work := .voidRewrite 1, cmd := .write 8 1 }, { cls := .f, work := .bandReset 63, cmd := .bandReset 63 },
   { cls := .f, work := .refreshQuery 63, cmd := .bandQuery 63 1 },
   { cls := .d, work := .append 59 63 0, cmd := .write 1097728 2, band := some (63, 0) }]

/-- The link DOWN and `os` awaiting recovery. -/
def awaiting (os : List Offer) (p : Part) : Part := { downFor 0 p with port.awaiting := os }

theorem witness_DriveLinkGoesDownAndUp :
    (live.sys.inReset = false ∧ live.sys.mode ≠ .offline ∧ live.port.linkUp = true) ∧
    (let p := downFor 0 live
     p.sys.inReset = false ∧ p.sys.mode ≠ .offline ∧ p.port.linkUp = false) ∧
    (let p := State.reset.part
     p.sys.inReset = false ∧ p.port.linkUp = false ∧ p.sys.mode = .offline) ∧
    (let o : Offer := { cls := .b, work := .forwarded 0, cmd := .forwarded 0 [] .dataIn 2, order := 1 }
     let m : Offer := { cls := .e, work := .mergeRead 1 0 1, cmd := .read 8 1, attempt := 2 }
     let waiting := offering [{ cls := .b, work := .fgRead 1 0, cmd := .read 65538 1 }] live
     (∀ x ∈ [readOffer, o, m, { readOffer with attempt := 2 }, { o with attempt := 2 }] ++ aborted,
       let p := awaiting [x] (inMode .degraded waiting)
       p.sys.inReset = false ∧ p.port.linkUp = false ∧ p.sys.mode ≠ .offline ∧ p.port.awaiting = [x] ∧
       p.log.table.all (fun r => r.barrier.isNone) = true ∧ (∀ y ∈ p.port.offers, y.recovered = false) ∧
       (x.cmd.limited = true ↔ x ∉ aborted) ∧ (x ∈ aborted ∧ x.band = none → x.work.isQuery = !x.cmd.modifies)) ∧
     (let p := awaiting (aborted.take 2) live
      p.port.awaiting = aborted.take 2 ∧ 1 < 2 ∧ p.sys.mode ≠ .degraded ∧
      ∀ x ∈ aborted.take 2, x.cmd.limited = false ∧ x.band = none ∧ 1 ≤ x.attempt) ∧
     (let p := onCtx 1 { st := .copy, band := some 59 } (awaiting [m] live)
      p.mrg.ctxs.length = 2 ∧ (p.mrg.ctx (1 : Fin 2)).st = .copy ∧ (p.mrg.ctx (1 : Fin 2)).band = some 59 ∧
      59 < p.bands.lbt.length) ∧
     (let g : Seg := { kind := .band, abs := 65537, n := 1, pin := some (.band 63) }
      let c : Cmd := { cid := 0, tag := 31, cls := .read, count := 1, frames := 1, segs := [g] }
      let p := onTag 31 c live
      p.ini.at 31 = some c ∧ c.tag = 31 ∧ p.ini.detached = [] ∧ c.fail = none ∧ readOffer.work = .fgRead c.cid 0 ∧
      readOffer.cmd = .read 65537 1 ∧ c.segs = [g] ∧ c.cursor = 0 ∧ g.outcome = none ∧
      ∀ t x, p.ini.at t = some x → x.cid = c.cid → t = 31) ∧
     (let c := { writing 0 1 with st := .working, parts := [.pending] }
      let r : Rec := { seq := 1, pos := 0, len := 2, kind := .data, origin := .cmd c.cid 0 }
      let p := { onTag 0 c (logged [r] (inMode .degraded live)) with
        log.anchor.flight := some { tail := 0, tailSeq := 1, block := [] } }
      r ∈ p.log.table ∧ r.st = .issued ∧ p.ini.at 0 = some c ∧ c.parts.getD 0 .done = .pending ∧
      p.log.anchor.flight.isSome = true) ∧
     (let c := receivingIn 2 [[]]
      let p := counted 1 (onTag 0 c (awaiting [o] live))
      p.commandsSound ∧ p.ini.at 0 = some c ∧ o.work = .forwarded c.cid ∧ c.parts = [.pending] ∧
      c.dir = .dataIn ∧ c.data ≠ [])) :=
  ⟨by decide, by decide, by decide, by decide, by decide, by decide,
    ⟨rfl, rfl, rfl, rfl, rfl, rfl, rfl, rfl, rfl, fun _ _ h _ => (at_onTag h).1⟩, by decide,
    sound_of (by decide) (by decide) (by decide +kernel), by decide⟩

/-! ### Witnesses: commands of the initiator -/

/-- A busy tag 31; and, with E x D at 982,980, each limit at its ends. -/
theorem witness_FramesAreRefusedInOrder :
    (let p := onTag 31 { writing 0 1 with tag := 31 } live
     p.sys.inReset = false ∧ (p.ini.at (31 : Fin 32)).isSome = true ∧ p.ini.at (0 : Fin 32) = none ∧
       clsOf 0 = none ∧ clsOf 7 = none) ∧
    (let w := (geo.bands - geo.spares) * (geo.bandBlocks - 1)
     (live.sys.inReset = false ∧ live.ini.at (0 : Fin 32) = none ∧ live.sys.mode = .active ∧ w = 982980) ∧
     ((0 : BitVec 32).toNat = 0 ∧ 1024 < (1025 : BitVec 32).toNat) ∧
     (live.sys.windowEn = true ∧ w ≤ (982980 : BitVec 64).toNat ∧ 982980 + 256 ≤ w + 256) ∧
     (let p := inMode .mounting live
      p.sys.inReset = false ∧ p.ini.at (0 : Fin 32) = none ∧ ¬ (p.sys.mode = .active ∨ p.sys.mode = .degraded) ∧
      1 ≤ (1 : BitVec 32).toNat ∧ (1024 : BitVec 32).toNat ≤ 1024 ∧
      ¬ (p.sys.windowEn = true ∧ 0 ≤ 256 ∧ 256 + 1 ≤ 0 + 256)) ∧
     ((if live.sys.windowEn then w + 256 else w) < (983236 : BitVec 64).toNat + 1) ∧
     ((982979 : BitVec 64).toNat < w ∧ w < 982979 + 257 ∧ 982979 + 257 ≤ w + 256) ∧
     (let p := inMode .degraded live
      p.sys.mode = .degraded ∧ (982979 : BitVec 64).toNat + 1 ≤ w)) := by decide

/-- The last offset below the fill of a FULL band, and a band with no physical band; 1,023 blocks before the end of a band and
one behind it, with either band mapped or not. -/
theorem witness_ReadOfUnstagedBlocksIsResolved :
    let p := onBand 0 { st := .full, phys := some 63, f := 16383, pf := 16383 } live
    let r := onBand 1 { st := .filling, phys := some 62, f := 1, pf := 1 } live
    let b := onBand 1 { st := .filling, phys := some 62, f := 1, pf := 1 } p
    (∀ x ∈ [p, r, b], x.sys.inReset = false ∧ x.ini.at (0 : Fin 32) = none ∧ x.ini.tags.length = 32 ∧
      x.sys.mode = .active ∧ x.ini.accept = [] ∧ 1024 ≤ x.ini.freeFrames) ∧
    ((15359 : BitVec 64).toNat / 16383 = 0 ∧ 15359 % 16383 + 1024 ≤ 16383 ∧
      15359 + 1024 ≤ (geo.bands - geo.spares) * 16383 ∧ p.idx.supply 16383 0 15359 1024 = [] ∧
      (p.bands.lband 0).phys = some 63 ∧ 15359 + 1024 ≤ (p.bands.lband 0).f) ∧
    ((982979 : BitVec 64).toNat / 16383 = 59 ∧ 982979 % 16383 + 1 ≤ 16383 ∧
      982979 + 1 ≤ (geo.bands - geo.spares) * 16383 ∧ p.idx.supply 16383 59 16382 1 = [] ∧
      (p.bands.lband 59).phys = none) ∧
    ((15360 : BitVec 64).toNat / 16383 = 0 ∧ 16383 < 15360 % 16383 + 1024 ∧ 15360 + 1024 ≤ 2 * 16383 ∧
      15360 + 1024 - 16383 = 1 ∧ b.idx.supply 16383 0 15360 1023 = [] ∧ b.idx.supply 16383 1 0 1 = [] ∧
      (b.bands.lband 1).phys = some 62 ∧ 1 ≤ (b.bands.lband 1).f ∧ (b.bands.lband 0).phys = some 63 ∧
      16383 ≤ (b.bands.lband 0).f ∧ (r.bands.lband 1).phys = some 62 ∧ (r.bands.lband 0).phys = none ∧
      (live.bands.lband 0).phys = none ∧ (live.bands.lband 1).phys = none) := by decide

theorem witness_WriteAcceptedSolicitsItsData :
    live.sys.inReset = false ∧ live.ini.at (0 : Fin 32) = none ∧ live.ini.tags.length = 32 ∧
    live.sys.mode = .active ∧ 1 ≤ (1024 : BitVec 32).toNat ∧ (1024 : BitVec 32).toNat ≤ 1024 ∧
    live.ini.accept = [] ∧ 1024 ≤ live.ini.freeFrames ∧
    (981956 : BitVec 64).toNat + 1024 ≤ (geo.bands - geo.spares) * (geo.bandBlocks - 1) ∧
    live.ret.held 981956 1024 = none := by decide

/-- Entry 7 holds blocks 10 to 19; the last of them is written. -/
def holding : Part :=
  { live with ret.entries := live.ret.entries.set 7 { start := 10, length := 10, mode := .hold } }

theorem witness_HoldRangeRefusesAndLatches :
    let full := { holding with
      ret.latch := some { tag := 1, cls := .write, lba := 10, count := 1, index := 7 } }
    (holding.sys.inReset = false ∧ holding.ini.at (0 : Fin 32) = none ∧ holding.sys.mode = .active ∧
      1 ≤ (1 : BitVec 32).toNat ∧ (1 : BitVec 32).toNat ≤ 1024 ∧
      (19 : BitVec 64).toNat + 1 ≤ (geo.bands - geo.spares) * (geo.bandBlocks - 1) ∧
      holding.cfg.dispInForce.discard = .translate ∧ holding.ret.held 19 1 = some 7 ∧ holding.ret.latch = none) ∧
    (full.sys.inReset = false ∧ full.ini.at (0 : Fin 32) = none ∧ full.sys.mode = .active ∧
      full.cfg.dispInForce.discard = .translate ∧ full.ret.held 10 1 = some 7 ∧ full.ret.latch ≠ none) := by decide

/-- All but one block of band 59, which is EMPTY, or FILLING with an unsettled record; and a DISCARD of the last block of band
0, the whole of band 1 and the first block of band 2, none of which, two of which and all of which give a record. -/
theorem witness_PartialDiscardIsSettledOutOrHeld :
    let o := (966598 : BitVec 64).toNat % 16383
    let p := onBand 59 { st := .filling, phys := some 1, f := 1, pf := 2, unsettled := 1 } live
    (live.sys.inReset = false ∧ live.ini.at (0 : Fin 32) = none ∧ live.ini.tags.length = 32 ∧
      live.sys.mode = .active ∧ live.cfg.dispInForce.discard = .translate ∧
      live.ret.entries.all (·.mode == .off) = true ∧
      (966598 : BitVec 64).toNat / 16383 = 59 ∧ o + 16382 ≤ 16383 ∧
      966598 + 16382 ≤ (geo.bands - geo.spares) * 16383) ∧
    ((live.bands.lband 59).st ≠ .faulted ∧ (live.bands.lband 59).pf ≤ o ∧
      live.idx.overlaps 16383 59 o 16382 = false ∧ (live.bands.lband 59).unsettled = 0 ∧
      live.ini.hold.all (·.band != 59) = true) ∧
    ((p.bands.lband 59).st ≠ .faulted ∧ ¬ (p.bands.lband 59).unsettled = 0) ∧
    (let full : LBand := { st := .full, phys := some 63, f := 16383, pf := 16383 }
     let after (p : Part) : List (Nat × Nat × Nat × Nat × Bool) := match exec (.discard 0 16382 16385) ⟨p, []⟩ with
       | .next s => s.part.ini.hold.map fun e => (e.part, e.band, e.off, e.n, e.full)
       | _ => []
     pieces 16383 (16382 : BitVec 64).toNat (16385 : BitVec 32).toNat = [(0, 16382, 1), (1, 0, 16383), (2, 0, 1)] ∧
     (∀ x ∈ pieces 16383 16382 16385, (live.bands.lband x.1).st ≠ .faulted) ∧
     (((onBand 2 { st := .faulted } live).bands.lband 2).st = .faulted) ∧ after live = [] ∧
     after (onBand 0 full (onBand 1 full live)) = [(0, 0, 16382, 1, false), (1, 1, 0, 16383, true)] ∧
     after (onBand 0 full (onBand 1 full (onBand 2 full live))) =
       [(0, 0, 16382, 1, false), (1, 1, 0, 16383, true), (2, 2, 0, 1, false)]) :=
  ⟨by decide, by decide, by decide, by decide, by decide, by decide, by decide, by decide, by decide⟩

theorem witness_StatusesWaitForPartsAndSets :
    let p := onTag 0 { writing 0 1 with st := .working, parts := [.done, .failed .mediumError],
                                        fail := some .mediumError } live
    let fl : Cmd := { cid := 1, tag := 1, cls := .flush }
    (live.sys.inReset = false ∧ live.ini.tags.length = 32 ∧ live.ini.at (0 : Fin 32) = none ∧
      live.sys.mode = .active ∧ live.cfg.dispInForce.flush = .translate ∧
      (live.ini.active.filter fun c => c.cls == .write || c.cls == .discard) = []) ∧
    ((onTag 1 { writing 0 1 with tag := 1 } live).ini.active.filter
      fun c => c.cls == .write || c.cls == .discard) ≠ [] ∧
    ((onTag 1 fl live).ini.at (1 : Fin 32) = some fl ∧ fl.st = .working ∧ fl.waits = [] ∧
      { fl with waits := [0] }.waits ≠ []) ∧
    (∃ c, p.ini.at (0 : Fin 32) = some c ∧ c.st = .working ∧ c.window = false ∧ c.cls = .write ∧
      c.parts.all (· != .pending) = true ∧ c.segs.all (fun g => g.outcome.isSome) = true) ∧
    ¬ ([PartState.done, .pending].all (· != .pending) = true) := by
  refine ⟨by decide, by decide, by decide, ⟨_, rfl, ?_⟩, by decide⟩
  decide

theorem witness_IdentifyAndOtherAreAnswered :
    (live.sys.inReset = false ∧ live.ini.tags.length = 32 ∧ live.ini.at (0 : Fin 32) = none ∧
      live.sys.serial.length = 20 ∧ live.cfg.dispInForce.identify = .translate) ∧
    ((inMode .halted live).sys.mode ≠ .active ∧ (inMode .halted live).sys.mode ≠ .degraded) ∧
    (let p := { live with cfg.disp.other := .pass }
     p.sys.mode = .active ∧ (List.replicate 16 (0 : Byte)).length = 16 ∧ p.cfg.dispInForce.other = .pass) ∧
    live.cfg.dispInForce.other = .reject ∧ (1 ≤ (1 : BitVec 32).toNat ∧ (1024 : BitVec 32).toNat ≤ 1024) ∧
    (let p := { live with cfg.disp.other := .refer }
     p.cfg.dispInForce.other = .refer ∧ (2 : Byte) = 2) := by decide

/-- 33 records; the first, the second and the last page, in ACTIVE and in MOUNTING; an enabled class pending; and the last
entry of each page, a pass and a latch. -/
theorem witness_WindowPagesAreServed :
    let p := { live with win.events := List.replicate 33 { num := 0, kind := .mountDone } }
    let m := inMode .mounting p
    let a := { live with win.pending := 1 }
    (p.sys.inReset = false ∧ p.ini.at (0 : Fin 32) = none ∧ p.sys.windowEn = true ∧
      p.win.events.take 32 ≠ [] ∧ live.win.events.take 32 = []) ∧
    (p.sys.mode = .active ∧
      982980 = (p.sys.layout.bands - p.sys.layout.spares) * (p.sys.layout.bandBlocks - 1) ∧
      (982980 : BitVec 64).toNat = 982980 + 0 ∧ 1 ≤ (256 : BitVec 32).toNat ∧ 0 + 256 ≤ 256 ∧
      (983235 : BitVec 64).toNat = 982980 + 255 ∧ 255 + 1 ≤ 256) ∧
    (m.sys.inReset = false ∧ m.ini.at (0 : Fin 32) = none ∧ m.sys.windowEn = true ∧ m.sys.mode ≠ .active ∧
      m.sys.mode ≠ .degraded ∧ (0 : BitVec 64).toNat = 0 + 0) ∧
    (a.sys.inReset = false ∧ a.win.pending.getLsbD 0 = true ∧ a.cfg.enables.getLsbD 0 = true) ∧
    (let x : CarryPass := { seq := 1, list := [] }
     let r : Rec := { seq := 1, pos := 0, len := 2, kind := .data, live := 1 }
     let c := onCtx 1 { st := .copy, carry := some x } (logged [r] live)
     (c.mrg.ctx (1 : Fin 2)).carry = some x ∧ c.log.find x.seq = some r ∧ (c.mrg.ctx (0 : Fin 2)).carry = none ∧
     live.win.pending = 0 ∧ (a.win.pending.getLsbD 0 = true ∧ ∀ j, j < 0 → a.win.pending.getLsbD j = false)) ∧
    (let w := { live with win.responses := List.replicate 8 { num := 1, code := 7, result := .done }
                          ref.queue := List.replicate 4 (referral 1 .first 5)
                          ret.latch := some { tag := 31, cls := .write, lba := 0, count := 1, index := 7 } }
     p.win.events[31]?.isSome = true ∧ w.win.responses[7]?.isSome = true ∧ w.ref.queue[3]?.isSome = true ∧
     w.ret.entries[7]?.isSome = true ∧ w.ret.latch ≠ none ∧ live.ret.latch = none ∧ live.win.events = []) := by decide

/-- A data-out OTHER of `n` blocks on tag 0. -/
def sending (n : Nat) : Cmd :=
  { cid := 0, tag := 0, cls := .other, count := n, dir := .dataOut, st := .receiving, frames := n }

theorem witness_BlocksAreTakenInOrder :
    let p := onTag 0 (writing 0 2) live
    let r := onTag 0 (sending 1) live
    let w : Cmd := { windowWrite with page := 0, count := 2 }
    let v := onTag 0 w live
    (p.sys.inReset = false ∧ p.ini.at (0 : Fin 32) = some (writing 0 2) ∧ (writing 0 2).window = false ∧
      (writing 0 2).st = .receiving ∧ (writing 0 2).data.length + 1 < (writing 0 2).count) ∧
    (r.ini.at (0 : Fin 32) = some (sending 1) ∧ (sending 1).window = false ∧ (sending 1).st = .receiving ∧
      (sending 1).data.length + 1 = (sending 1).count ∧ (sending 1).cls = .other ∧ r.sys.mode = .active) ∧
    (v.ini.at (0 : Fin 32) = some w ∧ w.window = true ∧ w.page + w.taken ≠ 2 ∧ w.taken + 1 ≠ w.count ∧
      { w with taken := 1 }.taken + 1 = w.count ∧ { w with taken := 1 }.page + 1 ≠ 2) := by decide

/-- The head waits with one frame too few and is taken with all of its frames: a WRITE of 1,024 blocks, an OTHER either way, a
READ of logical blocks of an EMPTY band, which are zeros (R19), and one whose first block is a ZERO extent and the next in
the log. One to be referred waits at 4 entries, and is taken at 3. -/
theorem witness_AcceptQueueServesItsHead :
    let other (n : Nat) : Cmd := { writing 5000 1024 with cid := 1, tag := 1, frames := n }
    let p (c : Cmd) (n : Nat) := { onTag 1 (other n) (onTag 0 { c with st := .waiting, frames := 0 } live) with
      ini.accept := [0, 1] }
    let head (c : Cmd) (s : Part) := s.sys.inReset = false ∧
      s.ini.at (0 : Fin 32) = some { c with st := .waiting, frames := 0 } ∧ s.ini.accept = (0 : Fin 32).val :: [1] ∧ c.refer = false
    let w := writing 0 1024
    let io (d : Dir) : Cmd := { w with cls := .other, dir := d }
    let r : Cmd := { w with cls := .read, lba := 59 * 16383 }
    let d : Cmd := { w with cls := .discard, refer := true }
    let full := Config.commandFrames - 1023
    let room := Config.commandFrames - 1024
    let es : List Extent := [{ start := 59 * 16383, len := 1, kind := .zero, seq := 1, lp := 0 },
      { start := 59 * 16383 + 1, len := 1, kind := .data, seq := 1, lp := 1 }]
    let segs (s : Part) := (pieces (s.sys.layout.bandBlocks - 1) r.lba r.count).flatMap s.resolve
    let referred (n : Nat) := referring (List.replicate n (referral 1 .first 5)) (p d full)
    live.ini.accept = [] ∧
    (∀ c ∈ [w, io .dataIn, io .dataOut, r], head c (p c full) ∧ head c (p c room) ∧
      (p c full).ini.freeFrames < c.count ∧ c.count ≤ (p c room).ini.freeFrames ∧
      (c.cls = .read ∨ c.cls = .write ∨ c.cls = .other ∧ c.dir ≠ .noData)) ∧
    (∀ g ∈ segs (p r room), g.outcome = some true ∧ g.pin = none) ∧
    (∃ g ∈ segs (indexed es (p r room)), g.outcome = none) ∧
    (∃ g ∈ (segs (indexed es (p r room))).head?, g.outcome = some true) ∧
    d.refer = true ∧ (∀ n ∈ [3, 4], (referred n).sys.inReset = false ∧
      (referred n).ini.at (0 : Fin 32) = some { d with st := .waiting, frames := 0 }) ∧
    4 ≤ (referred 4).ref.queue.length ∧ (referred 3).ref.queue.length < 4 := by decide

/-! ### Witnesses: directives -/

theorem witness_DirectiveTestsInOrder :
    let m := inMode .mounting due
    let b := { due with win.dirPending := some { num := 9, code := 8 } }
    (∀ m ∈ [Mode.offline, .mounting, .active, .degraded, .formatting, .halted],
      (inMode m due).sys.inReset = false ∧ (inMode m due).ini.windowPage (0 : Fin 32) = some 2 ∧
      (inMode m b).ini.windowPage (0 : Fin 32) = some 2 ∧ (inMode m b).sys.mode = m) ∧
    ((0 : Byte) = 0 ∧ 13 < (14 : Byte).toNat) ∧ ((0 : Byte) ≠ 1 ∧ (3 : Byte) ≠ 2) ∧
    (m.sys.inReset = false ∧ m.ini.windowPage (0 : Fin 32) = some 2 ∧ m.sys.mode = .mounting) ∧
    (b.ini.windowPage (0 : Fin 32) = some 2 ∧ b.sys.mode = .active ∧ b.win.dirPending ≠ none) := by decide

/-- The first and the last entry, the last logical block and the one behind it, the least and the greatest
quanta in order, and an occupancy at each threshold of the default quanta; ACTIVE with the anchor writer at rest and with a
write in flight, and HALTED. -/
theorem witness_SettingsAreStoredThroughTheAnchor :
    (∀ p ∈ [due, { due with log.anchor.flight := some { tail := 0, tailSeq := 1, block := [] } }, inMode .halted due],
      p.sys.inReset = false ∧ p.ini.windowPage (0 : Fin 32) = some 2 ∧
      (p.sys.mode = .active ∨ p.sys.mode = .halted) ∧ p.win.dirPending = none) ∧
    (clsOf 6 = some .other ∧ dispOf 2 = some .refer ∧ dispAllowed .other .refer = true ∧
      dispAllowed .other .translate = false ∧ dispOf 0 = some .translate) ∧
    (rangeOf 0 = some .off ∧ rangeOf 2 = some .hold ∧
      due.ret.entries[(0 : Byte).toNat]? = some {} ∧ due.ret.entries[(7 : Byte).toNat]? = some {} ∧
      ({} : RangeEntry).fixed ≠ true ∧ ({ fixed := true } : RangeEntry).fixed = true ∧
      (let p := { due with ret.entries := due.ret.entries.set 7 { fixed := true } }
       p.ret.entries.length = 8 ∧ 7 < (8 : Byte).toNat ∧ 7 < (255 : Byte).toNat ∧ rangeOf 3 = none ∧ rangeOf 255 = none ∧
       p.ret.entries[(0 : Byte).toNat]? = some {} ∧ p.ret.entries[(7 : Byte).toNat]? = some { fixed := true }) ∧
      clsOf 0 = none ∧ clsOf 7 = none ∧ dispOf 4 = none ∧ dispOf 255 = none) ∧
    (let w := (due.sys.layout.bands - due.sys.layout.spares) * (due.sys.layout.bandBlocks - 1)
     w ≤ (982980 : BitVec 64).toNat ∧ ¬ w ≤ (982979 : BitVec 64).toNat) ∧
    (let q (x : Byte) := max 16 (min 248 x.toNat)
     let t (x : Byte) := due.sys.layout.logLen * q x / 256
     ¬ (q 16 < q 15) ∧ q 0 < q 17 ∧ q 17 < q 255 ∧ q 128 < q 192 ∧ q 192 < q 240 ∧
     (due.pace.level = .normal ∧ due.log.occ < t 0 ∧ (inMode .halted due).pace.level ≠ .pressure) ∧
     8191 < t 128 ∧ t 128 ≤ 8192 ∧ 12287 < t 192 ∧ t 192 ≤ 12288 ∧ 15359 < t 240 ∧ t 240 ≤ 15360 ∧
     t 192 - due.sys.layout.logLen / 32 ≤ 11776 ∧ 11775 < t 192 - due.sys.layout.logLen / 32) := by decide

/-- A record's extent over block 982,979, the last, and a discarded block 0. -/
theorem witness_AlertsAreAcknowledgedAndBlocksQueried :
    let z : Extent := { start := 0, len := 1, kind := .zero, seq := 2, lp := 0 }
    let x : Extent := { start := 982979, len := 1, kind := .data, seq := 1, lp := 1 }
    let p := indexed [z, x] due
    p.sys.inReset = false ∧ p.ini.windowPage (0 : Fin 32) = some 2 ∧ p.sys.mode ≠ .mounting ∧
    p.sys.mode = .active ∧ (geo.bands - geo.spares) * (geo.bandBlocks - 1) ≤ (982980 : BitVec 64).toNat ∧
    (982979 : BitVec 64).toNat < (geo.bands - geo.spares) * (geo.bandBlocks - 1) ∧
    p.idx.lookup (0 : BitVec 64).toNat = some z ∧ z.kind = .zero ∧
    p.idx.lookup (1 : BitVec 64).toNat = none ∧
    p.idx.lookup (982979 : BitVec 64).toNat = some x ∧ x.kind = .data := by decide

theorem witness_ClearFlagsEmptiesTheLatch :
    let p := { due with ret.entries := due.ret.entries.set 0 { start := 982979, length := 1, mode := .hold } }
    p.sys.inReset = false ∧ p.ini.windowPage (0 : Fin 32) = some 2 ∧ p.sys.mode ≠ .mounting ∧
    (p.windowTaken (0 : Fin 32)).ini.at (0 : Fin 32) = none ∧ p.sys.mode = .active ∧
    1 ≤ (1 : BitVec 32).toNat ∧ (1 : BitVec 32).toNat ≤ 1024 ∧
    (982979 : BitVec 64).toNat + 1 ≤ (geo.bands - geo.spares) * (geo.bandBlocks - 1) ∧
    p.ret.held 982979 1 = some 0 := by decide

/-- An IDENTIFY and an OTHER without data that wait for an answer, and reply lengths of 3,840 and 3,841. -/
theorem witness_AnswerCompletesTheReferredCommand :
    let e := { referral 1 .first 5 with cls := .identify }
    let f := referral 2 .late 1
    let p := { referring [e, f] due with ref.expired := [9] }
    p.sys.inReset = false ∧ p.ini.windowPage (0 : Fin 32) = some 2 ∧ p.sys.mode ≠ .mounting ∧
    codeOf 0 = some .good ∧ codeOf 7 = some .tagConflict ∧
    (p.ref.find (1 : BitVec 16).toNat = some e ∧ e.cls = .identify ∧ 3840 < (3841 : BitVec 16).toNat ∧
      (3840 : BitVec 16).toNat ≤ 3840) ∧
    (codeOf 9 = some .aborted ∧ Code.aborted ≠ .good ∧ Code.aborted ≠ .tagConflict) ∧
    (p.ref.find (2 : BitVec 16).toNat = some f ∧ ¬ (f.cls = .identify ∨ f.cls = .other ∧ f.dir = .dataIn) ∧
      Code.good ≠ .tagConflict ∧ (0 : BitVec 16) = 0 ∧ (1 : BitVec 16) ≠ 0) ∧
    (p.ref.find (9 : BitVec 16).toNat = none ∧ (9 : BitVec 16).toNat ∈ p.ref.expired ∧
      p.ref.find (0 : BitVec 16).toNat = none ∧ (0 : BitVec 16).toNat ∉ p.ref.expired) := by decide

/-- A referred command on tag 4, with the window WRITE of the ANSWER on tag 0. -/
def referred (c : Cmd) (p : Part) : Part := counted 2 (onTag 4 c (referring [referral 1 .first 5] p))

/-- Every class referred, with 3 entries held and the id counter at its end; every class released, a DISCARD of a
whole band and of its last block, and an OTHER whose frames are short. -/
theorem witness_ReferralsBeginAndAreReleased :
    (let p := { live with
       ref := { queue := [referral 1 .first 5, referral 2 .first 5, referral 65534 .first 5], nextId := 65535 }
       cfg.disp := { read := .translate, write := .translate, discard := .refer, flush := .refer,
                     identify := .refer, other := .refer } }
     p.sys.inReset = false ∧ p.ini.tags.length = 32 ∧ p.ini.at (0 : Fin 32) = none ∧ p.ini.accept = [] ∧
     p.ref.queue.length < 4 ∧ p.sys.mode = .active ∧ p.cfg.dispInForce.flush = .refer ∧ p.cfg.dispInForce.identify = .refer ∧
     p.cfg.dispInForce.other = .refer ∧ p.cfg.dispInForce.discard = .refer ∧ (List.replicate 16 (0 : Byte)).length = 16 ∧
     (1024 : BitVec 32).toNat ≤ 1024 ∧ p.ret.entries.all (·.mode == .off) = true ∧
     1 ≤ (1 : BitVec 32).toNat ∧
     (982979 : BitVec 64).toNat + 1 ≤ (geo.bands - geo.spares) * (geo.bandBlocks - 1)) ∧
    (let c : Cmd := { cid := 1, tag := 4, cls := .other, st := .referred }
     let d : Cmd := { c with cls := .discard, count := 16383 }
     let e : Cmd := { c with cls := .discard, lba := 16382, count := 1 }
     let i : Cmd := { c with dir := .dataIn, count := 1 }
     let f := onBand 0 { st := .faulted } (referred d due)
     let h := onBand 0 { st := .filling, phys := some 1, f := 16383, pf := 16383 } (referred e due)
     let w := { referred i due with ini.accept := [9] }
     (∀ x ∈ [c, d, e, i, { c with cls := .flush }, { c with cls := .identify }],
       let p := referred x due
       p.sys.inReset = false ∧ p.ini.windowPage (0 : Fin 32) = some 2 ∧ p.sys.mode ≠ .mounting ∧
       p.ini.tags.length = 32 ∧ p.commandsSound ∧ p.ref.find (1 : BitVec 16).toNat = some (referral 1 .first 5) ∧
       p.ini.at (referral 1 .first 5).tag = some x) ∧
     (inMode .degraded (referred d due)).sys.mode ≠ .active ∧
     (1 ≤ d.count ∧ d.lba % 16383 + d.count ≤ 16383 ∧ 1 ≤ e.count ∧ e.lba % 16383 + e.count ≤ 16383) ∧
     (f.bands.lband 0).st = .faulted ∧
     (let p := referred d due
      (p.bands.lband 0).st = .empty ∧ p.idx.overlaps 16383 0 0 16383 = false ∧ (p.bands.lband 0).unsettled = 0 ∧
      p.ini.hold.all (·.band != 0) = true) ∧
     ((h.bands.lband 0).st ≠ .faulted ∧ ¬ (h.bands.lband 0).pf ≤ 16382) ∧
     (c.dir = .noData ∧ i.dir ≠ .dataOut ∧ w.ini.accept ≠ [] ∧ (referred i due).ini.accept = [] ∧
       i.count ≤ (referred i due).ini.freeFrames)) := by
  refine ⟨by decide, ?_, by decide, by decide, by decide, by decide, by decide, by decide⟩
  intro x hx
  simp only [List.mem_cons, List.not_mem_nil, or_false] at hx
  obtain rfl | rfl | rfl | rfl | rfl | rfl := hx <;>
    exact ⟨rfl, rfl, by decide, rfl, sound_of rfl rfl (by decide +kernel), rfl, rfl⟩

def draining (d : Drain) (p : Part) : Part :=
  { p with
    mrg.drain := some d
    win.dirPending := some { num := 3, code := 8 } }

theorem witness_StopEndsTheDrain :
    let c : MergeCtx := { st := .copy, band := some 0, origin := some .drain }
    let p := draining {} due
    let r := onCtx 1 c p
    let t := onCtx 0 { st := .release } (draining { cursor := 60, stopped := true } due)
    (due.sys.inReset = false ∧ due.ini.windowPage (0 : Fin 32) = some 2 ∧ due.sys.mode = .active ∧
      due.mrg.drain = none) ∧
    (r.ini.windowPage (0 : Fin 32) = some 2 ∧ r.mrg.drain = some {} ∧
      ∃ c ∈ r.mrg.ctxs, c.origin = some .drain) ∧
    (p.mrg.drain = some {} ∧ (∀ c ∈ p.mrg.ctxs, c.origin ≠ some .drain) ∧
      p.win.dirPending = some { num := 3, code := 8 }) ∧
    (t.mrg.drain = some { cursor := 60, stopped := true } ∧ t.sys.layout.logBands = 60 ∧
      t.mrg.ctxs.length = 2 ∧ (t.mrg.ctx 0).st = .release ∧ (t.mrg.ctx 0).reads = [] ∧
      (t.mrg.ctx 0).unitOut = false ∧ (t.mrg.ctx 0).carry = none ∧
      (t.mrg.ctx (1 - (0 : Fin 2)).val).origin ≠ some .drain ∧
      t.win.dirPending = some { num := 3, code := 8 }) := by decide

/-- Bands 59 and 60, the last and the one past it; a FAULTED band, one with an extent and one in the list; a list of
63 entries, and one of 64. -/
theorem witness_CleanAndDrainAskForMerges :
    let x : Extent := { start := 59 * 16383, len := 1, kind := .zero, seq := 1, lp := 0 }
    let p := onBand 1 { st := .faulted } (indexed [x] { due with mrg.reqs := [{ band := 58, urgent := true }] })
    p.sys.inReset = false ∧ p.ini.windowPage (0 : Fin 32) = some 2 ∧ p.sys.mode = .active ∧
    p.win.dirPending = none ∧ geo.bands - geo.spares ≤ (60 : BitVec 32).toNat ∧
    (59 : BitVec 32).toNat < geo.bands - geo.spares ∧ (p.bands.lband 1).st = .faulted ∧
    p.idx.count (geo.bandBlocks - 1) 59 ≠ 0 ∧ p.idx.count (geo.bandBlocks - 1) 0 = 0 ∧
    (∃ e ∈ p.mrg.reqs, e.band = 58) ∧ (¬ ∃ e ∈ p.mrg.reqs, e.band = 59) ∧
    (List.replicate 63 (MergeReq.mk 0 false false)).length < 64 ∧
    ¬ (List.replicate 64 (MergeReq.mk 0 false false)).length < 64 := by decide

theorem witness_FormatAndRestartAreTaken :
    let h := { due with ret.entries := due.ret.entries.set 0 { mode := .hold, fixed := true } }
    let k := inMode .halted due
    let b := onTag 1 { writing 0 1 with tag := 1 } due
    let g := inMode .degraded (onCtx 1 { st := .commit } (logged
      [{ seq := 1, pos := 0, len := 1, kind := .commit, origin := .merge 1, st := .issued }] due))
    let u (c : MergeCtx) := onCtx 1 c (inMode .degraded due)
    (∀ x ∈ [u { reads := [(0, 1)] }, u { unitOut := true }, u { carry := some { seq := 1, list := [], flight := [0] } }],
      x.sys.inReset = false ∧ x.ini.windowPage (0 : Fin 32) = some 2 ∧ x.win.dirPending = none ∧
      x.mrg.ctxs.length = 2 ∧ x.sys.mode = .degraded ∧ x.ini.plainTags = []) ∧
    (due.cfg.loaded = true ∧ ({} : Settings).loaded = false) ∧
    (∀ p ∈ [due, h, k, b], p.sys.inReset = false ∧ p.ini.windowPage (0 : Fin 32) = some 2 ∧
      (p.sys.mode = .active ∨ p.sys.mode = .halted) ∧ p.win.dirPending = none) ∧
    (b.sys.mode = .active ∧ b.ini.plainTags ≠ []) ∧
    (∃ c ∈ (onCtx 1 { st := .release } due).mrg.ctxs, c.st ≠ .idle) ∧
    (due.ini.plainTags = [] ∧ (∀ c ∈ due.mrg.ctxs, c.st = .idle) ∧ due.mrg.ctxs.length = 2) ∧
    (∃ e ∈ h.ret.entries, e.fixed = true ∧ e.mode = .hold) ∧
    (¬ ∃ e ∈ due.ret.entries, e.fixed = true ∧ e.mode = .hold) ∧ due.sys.drive = some drv ∧
    ({ k with sys.drive := none } : Part).sys.drive = none ∧
    ((16384 : BitVec 32).toNat = drv.bandBlocks ∧ 64 ≤ drv.bands ∧ drv.bands ≤ 131072 ∧
      (4 : BitVec 16).toNat = 4 ∧ (16384 : BitVec 32).toNat % 1024 = 0 ∧ 8 + 16384 ≤ drv.conv ∧
      1 ≤ drv.bands - 4) ∧
    ¬ 4 ≤ (3 : BitVec 16).toNat ∧
    (g.sys.inReset = false ∧ g.ini.windowPage (0 : Fin 32) = some 2 ∧ g.win.dirPending = none ∧
      g.mrg.ctxs.length = 2 ∧ g.sys.mode = .degraded ∧ g.ini.plainTags = [] ∧
      ∀ c ∈ g.mrg.ctxs, c.reads = [] ∧ c.unitOut = false ∧ c.carry = none) := by decide

/-! ### Witnesses: placement and the log -/

/-- A gap of 256 from pf; an EMPTY band at offset 256 with 3 bands free, and with 2. -/
theorem witness_PlacementIsDecidedByTheBand :
    let b : LBand := { st := .filling, phys := some 0, f := 10, pf := 10 }
    let p := onBand 0 b live
    let r := { live with bands.free := [1, 2, 3] }
    (b.st = .filling ∧ b.pf ≤ 266 ∧ 266 - b.pf ≤ p.cfg.policy.gap ∧ ¬ 267 - b.pf ≤ p.cfg.policy.gap ∧
      b.unsettled = 0 ∧ (∀ e ∈ p.ini.hold, e.band ≠ 0) ∧ p.idx.overlaps 16383 0 266 1 = false) ∧
    ((r.bands.lband 0).st = .empty ∧ 256 ≤ r.cfg.policy.gap ∧ ¬ 257 ≤ r.cfg.policy.gap ∧
      2 < r.bands.free.length - r.mrg.waitBand.length ∧ ¬ 2 < [1, 2].length) := by decide

/-- The last block of a WRITE in band 0: FAULTED; DEGRADED; FILLING at pf; EMPTY; FULL. And of one of two pieces, the last
block of band 0 and the first of band 1: both ALLOCATE, DIRECT then ALLOCATE, STAGED then ALLOCATE, and FAULTED. -/
theorem witness_LastBlockPlacesTheWrite :
    let c : Cmd := { writing 0 2 with data := [[]] }
    let base := onTag 0 c { live with bands.free := [0, 1, 2] }
    let f := onBand 0 { st := .faulted } base
    let d := onBand 0 { st := .filling, phys := some 63 } base
    let s := onBand 0 { st := .full, phys := some 63, f := 16383, pf := 16383 } base
    (∀ p ∈ [base, f, d, s, inMode .degraded base], p.sys.inReset = false ∧ p.ini.tags.length = 32 ∧
      p.ini.at (0 : Fin 32) = some c ∧ p.ini.detached = [] ∧ c.lba / 16383 < p.bands.lbt.length) ∧
    (∀ k x, base.ini.at k = some x → x.cid = c.cid → k = (0 : Fin 32)) ∧
    (c.window = false ∧ c.st = .receiving ∧ c.cls = .write ∧ c.parts = [] ∧ 1 ≤ c.count ∧
      c.data.length + 1 = c.count ∧ c.lba % 16383 + c.count ≤ 16383) ∧
    (f.bands.lband 0).st = .faulted ∧
    ((inMode .degraded base).sys.mode = .degraded ∧ (base.bands.lband 0).st ≠ .faulted) ∧
    (d.sys.mode = .active ∧ d.decidePiece 0 0 2 = .direct) ∧
    (base.sys.mode = .active ∧ base.decidePiece 0 0 2 = .allocate) ∧
    (s.sys.mode = .active ∧ (s.bands.lband 0).st ≠ .faulted ∧ s.decidePiece 0 0 2 = .staged) ∧
    (let e := { c with lba := 16382 }
     let near (b : LBand) := onTag 0 e (onBand 0 b base)
     let last : LBand := { st := .filling, phys := some 63, f := 16382, pf := 16382 }
     e.lba / 16383 = 0 ∧ 16383 < e.lba % 16383 + e.count ∧ e.lba % 16383 + e.count ≤ 2 * 16383 ∧
     1 < base.bands.lbt.length ∧ (onBand 1 { st := .faulted } base).bands.lband 1 = { st := .faulted } ∧
     (near last).decidePiece 0 16382 1 = .direct ∧ (near last).decidePiece 1 0 1 = .allocate ∧
     (near {}).decidePiece 0 16382 1 = .staged ∧ (near {}).decidePiece 1 0 1 = .allocate ∧
     ((near last).bands.lband 0).st ≠ .faulted ∧ ((near last).bands.lband 1).st ≠ .faulted) := by
  refine ⟨by decide, fun k x h _ => (at_onTag h).1, by decide, by decide, by decide, by decide, by decide,
    by decide, by decide⟩

theorem witness_StagedPieceSplitsInto128BlockRecords :
    1 ≤ 1 ∧ 0 < (1 + 127) / 128 ∧ 1024 ≤ 1024 ∧ 7 < (1024 + 127) / 128 ∧
      ({ kind := .discard, band := 0, off := 0, n := 1, cid := 0, part := 0 } : HoldEntry).kind =
        .discard := by decide

/-- LOG_LEN = 16,384: T_low 8,192, T_high 12,288, T_hard 15,360. -/
theorem witness_LevelAndPacingFollowTheOccupancy :
    let at' (l : Level) (o : Nat) : Part := { live with
      pace.level := l
      log.occ := o }
    (8192 < 12288 ∧ 12288 < 15360) ∧
    ((inMode .formatting (at' .normal 12288)).sys.mode = .formatting ∧
      (inMode .formatting (at' .normal 12288)).nextLevel = .pressure) ∧
    ((at' .normal 12288).sys.mode = .active ∧ (at' .normal 12288).pace.level ≠ .pressure ∧
      (at' .normal 12288).nextLevel = .pressure) ∧
    ((at' .pressure 8192).pace.level = .pressure ∧ (at' .pressure 8192).nextLevel = .reclaim) ∧
    ((at' .pressure 15360).nextLevel = .full ∧ (at' .pressure 12288).nextLevel = .pressure ∧
      (at' .normal 8191).nextLevel = .normal) := by decide

/-- A record of the largest cost that just fits T_hard does not, when one block more is in use; a COMMIT record
fits the last block of the log, and the records of a pass, with the PAD the second of them needs, its last 5. A record of 2 blocks with one block left before the end of the log needs a PAD; at PRESSURE
it fits a credit of 3, and not one of 2. -/
theorem witness_RecordsAreAdmittedAndPositioned :
    let e : HoldEntry := { kind := .data, band := 59, off := 0, n := 128, cid := 0, part := 0 }
    let p := { live with ini.hold := [e] }
    let r := { onCtx 1 { st := .commit, band := some 3, target := some 7, newFill := 1 } live with
      pace.level := .full
      log := { nextSeq := 9, occ := 16383, head := 16383, waiting := [.commit 1] } }
    let z (cr : Nat) := { live with
      ini.hold := [{ e with n := 1 }]
      pace := { level := .pressure, credit := cr }
      log := { nextSeq := 5, occ := 12288, head := 16383 } }
    ((z 3).sys.inReset = false ∧ (z 3).ini.hold = [{ e with n := 1 }] ∧ (z 3).log.head < (z 3).sys.layout.logLen ∧
      ¬ 2 ≤ (z 3).sys.layout.logLen - (z 3).log.head ∧ (z 3).sys.mode = .active ∧ (z 3).log.waiting = [] ∧
      (z 3).pace.level = .pressure ∧ 1 + 2 ≤ (z 3).pace.credit ∧ ¬ 1 + 2 ≤ (z 2).pace.credit ∧
      12288 + 1 + 2 ≤ (z 3).sys.layout.logLen * (z 3).cfg.policy.hardQ / 256 ∧ (z 3).idx.pressure = false ∧
      (z 3).sys.layout.logLen * (z 3).cfg.policy.highQ / 256 - (z 3).sys.layout.logLen / 32 ≤ 12288 + 1 + 2) ∧
    (let d : HoldEntry := { kind := .discard, full := true, band := 3, off := 0, n := 16383, cid := 1, part := 0 }
     let y := { live with ini.hold := [e, d], log := { nextSeq := 5, occ := 8063 }, idx.reserved := 61438 }
     let v := { y with log.occ := 12159, pace.level := .reclaim, idx.reserved := 65534 }
     let t (x : Nat) := geo.logLen * x / 256
     y.ini.hold = e :: [d] ∧ 8063 + 129 = t y.cfg.policy.lowQ ∧ 61440 ≤ y.idx.extents.length + (y.idx.reserved + 2) ∧
     v.ini.hold = e :: [d] ∧ 12159 + 129 = t v.cfg.policy.highQ ∧
     v.idx.extents.length + v.idx.reserved + 2 ≤ 65536) ∧
    (p.sys.inReset = false ∧ p.ini.hold = [e] ∧ p.log.head < p.sys.layout.logLen ∧
      1 + e.n ≤ p.sys.layout.logLen - p.log.head ∧
      p.sys.mode = .active ∧ p.log.waiting = [] ∧ 15231 + 129 ≤ p.sys.layout.logLen * p.cfg.policy.hardQ / 256 ∧
      ¬ 15232 + 129 ≤ p.sys.layout.logLen * p.cfg.policy.hardQ / 256 ∧
      p.log.occ + 129 ≤ p.sys.layout.logLen * p.cfg.policy.hardQ / 256 ∧ p.log.table.length + 2 ≤ 32768 ∧
      p.idx.extents.length + p.idx.reserved + 2 ≤ 65536 ∧
      p.idx.count 16383 59 + (p.bands.lband 59).reserved ≤ 4094 ∧ p.pace.level = .normal ∧
      p.log.occ + 129 < p.sys.layout.logLen * p.cfg.policy.lowQ / 256 ∧
      p.cfg.policy.lowQ ≤ p.cfg.policy.highQ ∧ p.cfg.policy.lowQ ≤ p.cfg.policy.hardQ ∧
      p.idx.pressure = false ∧ p.idx.extents.length + p.idx.reserved + 2 < 61440) ∧
    (r.sys.inReset = false ∧ r.sys.mode = .active ∧ r.log.waiting = [.commit 1] ∧
      r.log.head < r.sys.layout.logLen ∧ r.log.occ + 1 ≤ r.sys.layout.logLen ∧
      r.log.table.length + 2 ≤ 32768 ∧ ¬ 16384 + 1 ≤ r.sys.layout.logLen) ∧
    (let x (s n : Nat) (k : ExtKind) : Extent := { start := 3 * 16383 + s, len := n, kind := k, seq := 7, lp := 0 }
     let m : CarryPass := { seq := 7, list := [x 0 1 .zero, x 4 1 .data, x 9 1 .zero] }
     let c (o : Nat) := { onCtx 1 { st := .commit, band := some 3, carry := some m } live with
       log := { nextSeq := 9, occ := o, head := 16382, waiting := [.carry 1] } }
     let after (o : Nat) : List (Nat × Nat × Nat × RecKind) := match exec .internalRecordPosition ⟨c o, []⟩ with
       | .next s => s.part.log.table.map fun r => (r.seq, r.pos, r.len, r.kind)
       | _ => []
     (c 0).sys.inReset = false ∧ (c 0).sys.mode = .active ∧ (c 0).log.waiting = [.carry 1] ∧
     1 < (c 0).mrg.ctxs.length ∧ ((c 0).mrg.ctx 1).carry = some m ∧ ((c 0).mrg.ctx 1).band = some 3 ∧
     (∀ e ∈ m.list, 1 ≤ e.len ∧ e.len ≤ 128) ∧ 129 < geo.logLen ∧ (c 0).log.head < geo.logLen ∧
     after 16380 = [] ∧
     after 16379 =
       [(9, 16382, 1, .discard), (10, 16383, 1, .pad), (11, 0, 2, .data), (12, 2, 1, .discard)]) :=
  ⟨by decide, by decide, by decide, by decide, by decide, by decide, by decide, by decide, by decide, by decide,
    by decide, by decide, by decide, by decide, by decide⟩

/-- A DATA record of one block of band 0. -/
def rec1 : Rec := { seq := 1, pos := 0, len := 2, kind := .data, band := some 0, n := 1, origin := .cmd 0 0,
                    reserve := true }

theorem witness_RecordWritesCompleteOrVoid :
    let o : Offer := { cls := .c, work := .record 1, cmd := .write 8 2 }
    let v : Offer := { cls := .a, work := .voidRewrite 1, cmd := .write 8 1 }
    let p := inSlot 0 o (logged [rec1] live)
    let r := inSlot 31 v (logged [rec1] live)
    (p.sys.inReset = false ∧ p.port.slots.getD (0 : Fin 32) none = some { offer := o } ∧ o.band = none ∧
      p.log.find rec1.seq = some rec1 ∧ p.log.table.all (fun x => x.barrier.isNone) = true ∧
      o.work = .record rec1.seq ∧ p.sys.mode ≠ .degraded) ∧
    (r.sys.inReset = false ∧ r.port.slots.getD (31 : Fin 32) none = some { offer := v } ∧ v.band = none ∧
      r.log.find rec1.seq = some rec1 ∧ v.work = .voidRewrite rec1.seq ∧ r.sys.mode = .active) := by decide

theorem witness_DegradedStopsEveryWrite :
    let v : Offer := { cls := .a, work := .voidRewrite 1, cmd := .write 8 1 }
    let p := offering [readOffer] (inSlot 31 v (logged [rec1] live))
    p.sys.inReset = false ∧ p.sys.mode = .active ∧
    p.port.slots.getD (31 : Fin 32) none = some { offer := v } ∧ v.work = .voidRewrite rec1.seq ∧
    p.log.find rec1.seq = some rec1 ∧ ∀ x ∈ p.port.offers, x.attempt = 1 := by decide

theorem witness_SettlementPutsTheExtentInTheIndex :
    let r := { rec1 with st := .completed }
    let p := onTag 0 (writing 0 1) (logged [r, { rec1 with seq := 2, pos := 2 }] live)
    p.sys.inReset = false ∧ p.log.find (p.log.settled + 1) = some r ∧ r.seq = p.log.settled + 1 ∧
    r.st = .completed ∧ r.void = false ∧ r.kind = .data ∧ r.band = some 0 ∧ r.origin = .cmd 0 0 ∧
    r.reserve = true ∧ 0 < p.bands.lbt.length ∧
    (∀ x, p.log.find (p.log.settled + 2) = some x → x.st ≠ .completed) ∧
    p.ini.at 0 = some (writing 0 1) ∧ (writing 0 1).cid = 0 := by
  refine ⟨by decide, by decide, by decide, by decide, by decide, by decide, by decide, by decide, by decide,
    by decide, ?_, by decide, by decide⟩
  intro x h
  have hx : ({ rec1 with seq := 2, pos := 2 } : Rec) = x := Option.some.inj h
  subst hx
  decide

/-- The record that settles next, alone in the log. -/
def settling (r : Rec) (p : Part) : Part := logged [{ r with st := .completed }] p

/-- The next record of such a log is not COMPLETED: there is none. -/
theorem settling_last (r : Rec) (p : Part) (h : p.log.settled = 0) (hr : r.seq = 1) (x : Rec) :
    (settling r p).log.find ((settling r p).log.settled + 2) = some x → x.st ≠ .completed := by
  intro hx
  simp [settling, logged, Log.find, h, hr] at hx

def commit1 : Rec :=
  { seq := 1, pos := 0, len := 1, kind := .commit, band := some 59, origin := .merge 1, newBand := some 0 }

def discard1 (full : Bool) : Rec :=
  { seq := 1, pos := 0, len := 1, kind := .discard, band := some 59, n := if full then 16383 else 1, full := full
    origin := .cmd 0 0, reserve := !full }

/-- The COMMIT of a merge from band 63 to band 0, one of a cancelled merge, and a partial and a full DISCARD of a
band, of one that is MERGING too. -/
theorem witness_CommitsAndDiscardsSettle :
    let m : MergeCtx := { st := .commit, band := some 59, origin := some .drain, old := some 63, target := some 0,
                          newFill := 16383 }
    let c := settling commit1 (onCtx 1 m live)
    let k := settling { commit1 with origin := .none } live
    let d (full : Bool) := settling (discard1 full) (onTag 0 { writing 0 1 with cls := .discard } live)
    let o : Offer := { cls := .e, work := .mergeRead 1 0 1, cmd := .read 9 1, pin := some (.band 63) }
    let g := offering [o, { o with attempt := 2 }] (onPool 63 { readers := 2 } (onCtx 1 { m with st := .copy }
      (onBand 59 { st := .merging, phys := some 63 } (d true))))
    (∀ p ∈ [c, k, d false, d true, g], p.sys.inReset = false ∧ p.log.settled = 0 ∧
      (∃ r, p.log.table = [r] ∧ p.log.find (p.log.settled + 1) = some r ∧ r.seq = 1 ∧ r.st = .completed ∧
        r.void = false)) ∧
    (∀ (r : Rec) (p : Part), p.log.settled = 0 → r.seq = 1 → ∀ x,
      (settling r p).log.find ((settling r p).log.settled + 2) = some x → x.st ≠ .completed) ∧
    (commit1.origin = .merge 1 ∧ 1 < c.mrg.ctxs.length ∧ (c.mrg.ctx 1).band = some 59 ∧ 59 < c.bands.lbt.length ∧
      1 ∉ (c.mrg.ctx 1).pins ∧ (c.mrg.ctx 1).target = some 0 ∧ (c.mrg.ctx 1).old = some 63 ∧
      0 < c.bands.pool.length ∧ 63 < c.bands.pool.length ∧ (c.mrg.ctx 1).clean = false ∧
      (c.idx.extents.filter (fun e => e.start / 16383 == 59)).length < 3840 ∧
      c.idx.extents.length + c.idx.reserved < 61440) ∧
    (∀ full ∈ [true, false], (discard1 full).reserve = !(discard1 full).full ∧
      (d full).ini.at 0 = some { writing 0 1 with cls := .discard } ∧ 59 < (d full).bands.lbt.length) ∧
    ((d true).bands.lband 59).st ≠ .merging ∧
    ((g.bands.lband 59).st = .merging ∧ g.mrg.ctxOf 59 = some 1 ∧ (g.mrg.ctx 1).target = some 0 ∧
      (g.bands.lband 59).phys = some 63 ∧ (g.mrg.ctx 1).clean = false ∧
      (g.port.offers.filter fun o => o.work.ofMerge 1 && o.attempt == 1) = [o]) := by
  refine ⟨?_, fun r p h hr x => settling_last r p h hr x, by decide, by decide, by decide, by decide⟩
  intro p hp
  simp only [List.mem_cons, List.not_mem_nil, or_false] at hp
  obtain rfl | rfl | rfl | rfl | rfl := hp <;> exact ⟨rfl, rfl, _, rfl, rfl, rfl, rfl, rfl⟩

/-- A void record of a command, of a merge with 1, 2 and 3 failures behind it, and of a pass, the first on its record and
the second; and a carried record, the last
but one and the last of its pass. -/
theorem witness_VoidAndCarriedRecordsSettle :
    let v := settling { rec1 with void := true } live
    let m (n : Nat) := settling { commit1 with void := true }
      (onBand 59 { st := .merging, resume := some .full, failures := n }
        (onCtx 1 { st := .commit, band := some 59, target := some 0 } live))
    let e : Extent := { start := 0, len := 1, kind := .data, seq := 7, lp := 9 }
    let x (left : Nat) : CarryPass := { seq := 7, list := [e], left := left }
    let r : Rec := { rec1 with origin := .carry 1, carries := some (7, 0) }
    let c (left : Nat) := settling r (indexed [e] (onCtx 1 { st := .commit, band := some 0, carry := some (x left) } live))
    let w := settling { r with void := true } (onCtx 1 { st := .commit, band := some 0, carry := some (x 1) } live)
    let y := { w with log.carryFail := some 7 }
    (∀ p ∈ [v, m 1, m 2, m 3, c 1, c 2, w, y], p.sys.inReset = false ∧ p.log.settled = 0 ∧
      (∃ r, p.log.table = [r] ∧ p.log.find (p.log.settled + 1) = some r ∧ r.seq = 1 ∧ r.st = .completed)) ∧
    (∀ (r : Rec) (p : Part), p.log.settled = 0 → r.seq = 1 → ∀ x,
      (settling r p).log.find ((settling r p).log.settled + 2) = some x → x.st ≠ .completed) ∧
    (rec1.origin = .cmd 0 0 ∧ rec1.band = some 0 ∧ rec1.reserve = true ∧ v.idx.pressure = false ∧
      v.idx.extents.length + v.idx.reserved < 61440) ∧
    (∀ n ∈ [1, 2, 3], 1 < (m n).mrg.ctxs.length ∧ ((m n).mrg.ctx 1).band = some 59 ∧ 59 < (m n).bands.lbt.length ∧
      ((m n).bands.lband 59).resume.isSome = true ∧ ((m n).bands.lband 59).failures = n ∧
      ((m n).mrg.ctx 1).target = some 0 ∧ (m n).mrg.reqs = []) ∧
    (∀ left ∈ [1, 2], r.void = false ∧ r.kind = .data ∧ r.origin = .carry 1 ∧ 1 < (c left).mrg.ctxs.length ∧
      r.band = some 0 ∧ ((c left).mrg.ctx 1).carry = some (x left) ∧ r.carries = some ((x left).seq, e.start) ∧
      e ∈ (c left).idx.extents ∧ e.seq = (x left).seq ∧ e.kind = .data ∧ (x left).seq ≠ r.seq ∧
      (∀ y ∈ (c left).idx.extents, y.start = e.start → y = e) ∧ (x left).voided = none) ∧
    ((w.mrg.ctx 1).carry = some (x 1) ∧ (w.mrg.ctx 1).band = some 0 ∧ (x 1).left = 1 ∧
      w.log.carryFail ≠ some (x 1).seq) ∧
    ((y.mrg.ctx 1).carry = some (x 1) ∧ y.log.carryFail = some (x 1).seq ∧ y.sys.mode = .active) := by
  refine ⟨?_, fun r p h hr x => settling_last r p h hr x, by decide, by decide, by decide, by decide, by decide⟩
  intro p hp
  simp only [List.mem_cons, List.not_mem_nil, or_false] at hp
  obtain rfl | rfl | rfl | rfl | rfl | rfl | rfl | rfl := hp <;> exact ⟨rfl, rfl, _, rfl, rfl, rfl, rfl⟩

/-- A part whose lists hold nothing and whose contexts are idle is quiet. -/
def quietly (p : Part) : Bool :=
  p.ini.hold.isEmpty && p.ini.accept.isEmpty && p.port.offers.isEmpty && p.mrg.reqs.isEmpty && p.mrg.drain.isNone &&
    p.bands.lbt.all (·.queue.isEmpty) && p.log.table.all (·.barrier.isNone) &&
    p.mrg.ctxs.all fun c => (c.st == .idle || c.st == .release) && !c.clean

theorem quiet_of {p : Part} (h : quietly p = true) : p.quiet := by
  simpa [quietly, Part.quiet, and_assoc] using h

/-- A free record behind a passed one, one still live, and one above a hold; an anchor write that frees 2 blocks, at each
level, with the dirty flag clear and set; and the second to fail in a row, with no settings directive, with the one it carries, and with a later one. -/
theorem witness_ReclaimAndAnchorMoveTheTails :
    let old := { rec1 with st := .reclaimed }
    let r := { rec1 with seq := 2, pos := 2, st := .settled }
    let p := logged [old, r] live
    let o : Offer := { cls := .a, work := .anchor, cmd := .write 0 1 }
    let w : AnchorWrite := { tail := 2, tailSeq := 2, block := [] }
    let a := inSlot 28 o { p with log := { p.log with anchor := { flight := some w }, occ := 4 } }
    (p.sys.inReset = false ∧ p.sys.mode = .active ∧ p.log.table = [old] ++ [r] ∧
      (∀ x ∈ [old], x.st = .reclaimed ∧ x.seq ≠ r.seq) ∧ r.st = .settled ∧ p.log.anchor.flight = none ∧
      r.live = 0 ∧ r.readers = 0 ∧ (∀ h ∈ p.holdSeqs, r.seq ≤ h)) ∧
    (({ r with live := 1 } : Rec).live ≠ 0 ∧
      ¬ ∀ h ∈ ({ p with log.holds := [(0, 1)] } : Part).holdSeqs, r.seq ≤ h) ∧
    (a.sys.inReset = false ∧ a.port.slots.getD (28 : Fin 32) none = some { offer := o } ∧ o.work = .anchor ∧
      o.band = none ∧ a.log.anchor.flight = some w ∧ a.sys.mode = .active ∧
      a.cfg.policy.highQ ≤ a.cfg.policy.hardQ ∧ a.log.anchor.failures = 0 ∧ a.log.anchor.dirty = false) ∧
    (let t (quanta : Nat) := a.sys.layout.logLen * quanta / 256
     let after (l : Level) (o : Nat) (dirty : Bool) : Level × Nat × Nat × Bool :=
       match exec (.anchorWriteComplete 28 .good)
         ⟨{ a with pace := { level := l, credit := 7, rem := 3 }, log.occ := o
                   log.anchor := { flight := some w, dirty := dirty } }, []⟩ with
       | .next s => (s.part.pace.level, s.part.pace.credit, s.part.pace.rem, s.part.log.anchor.flight.isSome)
       | _ => (.normal, 0, 0, true)
     (8193 - 2 < t a.cfg.policy.highQ ∧ 15361 - 2 < t a.cfg.policy.hardQ) ∧
     after .normal 8193 false = (.normal, 7, 3, false) ∧ after .reclaim 8193 false = (.normal, 7, 3, false) ∧
     after .pressure 15361 false = (.pressure, 9, 3, false) ∧ after .pressure 11777 false = (.reclaim, 0, 0, false) ∧
     after .full 15361 false = (.pressure, 2048, 0, false) ∧ after .full 15362 true = (.full, 9, 3, true)) ∧
    (let f (d e : Option (BitVec 32)) := { a with
        log.anchor := { flight := some { w with dir := d }, failures := 1 }
        win.dirPending := e.map fun n => { num := n, code := 1 } }
     ∀ x ∈ [f none none, f (some 5) (some 5), f none (some 5)], x.log.anchor.flight.isSome = true ∧
       x.port.slots.getD (28 : Fin 32) none = some { offer := o } ∧ x.sys.mode = .active ∧
       x.log.anchor.failures ≠ 0 ∧ x.quiet) := by
  refine ⟨by decide, by decide, by decide, by decide, fun x hx => ?_⟩
  simp only [List.mem_cons, List.not_mem_nil, or_false] at hx
  obtain rfl | rfl | rfl := hx <;> exact ⟨rfl, rfl, rfl, by decide, quiet_of (by decide)⟩

/-! ### Witnesses: the band map -/

/-- A band's first append: header and one block of band 63. -/
def append1 : AppendEntry :=
  { allocate := true, band := 63, start := 0, gap := 0, off := 0, n := 1, cid := 0, part := 0, first := 0,
    base := 0 }

def appending (e : AppendEntry) (p : Part) : Part :=
  onBand 59 { st := .filling, phys := some 63, pf := 1, queue := [e] } p

theorem witness_AppendsAreIssuedInOrder :
    let p := appending append1 live
    let o : Offer := { cls := .d, work := .append 59 63 0, cmd := .write 1097728 2, band := some (63, 0) }
    let e := { append1 with issued := true }
    let r := inSlot 27 o (appending e live)
    let n := { append1 with allocate := false, start := 2, off := 1, cid := 1, n := 1024 }
    let c : Cmd := { writing (59 * 16383 + 1) 1024 with cid := 1, tag := 1, st := .working, parts := [.pending] }
    let f (st : LState) (ph : Option Nat) := inSlot 27 o (counted 2 (onTag 1 c (onBand 59
      { st := st, phys := ph, pf := 1025, queue := [e, n] } live)))
    (p.sys.inReset = false ∧ p.sys.mode = .active ∧ (59 : BitVec 32).toNat < p.bands.lbt.length ∧
      (p.bands.lband 59).queue = [append1] ∧ (p.bands.pband 63).writeOut = false ∧
      append1.issued = false ∧ (p.bands.pband 63).wp = append1.start) ∧
    ((onPool 63 { writeOut := true } p).bands.pband 63).writeOut = true ∧
    (r.sys.inReset = false ∧ r.port.slots.getD (27 : Fin 32) none = some { offer := o } ∧
      o.work = .append 59 63 append1.start ∧ o.band = some (63, append1.start) ∧ 59 < r.bands.lbt.length ∧
      (r.bands.lband 59).st = .filling ∧ (r.bands.lband 59).queue = [e] ∧
      (r.bands.lband 59).phys = some 63 ∧ r.mrg.reqs = []) ∧
    (∀ q ∈ [f .filling (some 63), f .empty none], q.sys.inReset = false ∧
      q.port.slots.getD (27 : Fin 32) none = some { offer := o } ∧ 59 < q.bands.lbt.length ∧
      q.bands.entry 59 e.band e.start = some e) ∧
    ((f .empty none).bands.lband 59).phys ≠ some e.band ∧
    (let m (fill : Nat) := onBand 59
       { st := .merging, phys := some 63, f := fill, pf := 16383, resume := some .filling
         queue := [{ e with allocate := false, start := fill + 1, n := 1 }, { n with start := fill + 2 }] }
       (f .merging (some 63))
     (m 16382).sys.inReset = false ∧ ((m 16382).bands.lband 59).phys = some e.band ∧
     ((m 16382).bands.lband 59).st = .merging ∧ 16382 + (e.gap + 1) = geo.bandBlocks - 1 ∧
     (∀ x ∈ [{ n with start := 16384 }], ¬ (x.band = e.band ∧ x.start = 16383)) ∧
     (∀ x ∈ [n], ¬ (x.band = e.band ∧ x.start = e.start))) ∧
    (let q := f .filling (some 63)
     (q.bands.lband 59).phys = some e.band ∧ (q.bands.lband 59).st = .filling ∧
     (q.bands.lband 59).queue = [e, n] ∧ n.band = e.band ∧ n.start ≠ e.start ∧ q.mrg.reqs = [] ∧
     q.ini.at 1 = some c ∧ c.cid = n.cid ∧ n.cid ≠ e.cid) ∧
    (f .filling (some 63)).commandsSound :=
  ⟨by decide, by decide, by decide, by decide, by decide, by decide, by decide, sound_of rfl rfl (by decide +kernel)⟩

/-- A write pointer at the end of the band (a refresh), and at the start of the write, behind it and inside it (a
recovery) of an append to a band that is not mapped, of one to a band that is, and of a target unit, the last. -/
theorem witness_QueriesReportTheWritePointer :
    let o : Offer := { cls := .f, work := .refreshQuery 63, cmd := .bandQuery 63 1 }
    let v : Offer := { o with work := .recoveryQuery 63 }
    let x : Offer := { cls := .d, work := .append 59 63 0, cmd := .write 1097728 2, band := some (63, 0) }
    let y : Offer := { cls := .e, work := .targetUnit 1 0, cmd := .write 1097728 2, band := some (63, 0) }
    let p := inSlot 0 o live
    let back (z : Offer) (s : Part) := inSlot 0 v { s with port.recovering := [{ offer := z }] }
    let r := back x (onBand 59 { st := .empty, queue := [append1] } live)
    let t := back x (appending append1 live)
    let u := back y (onCtx 1 { st := .copy, band := some 59, target := some 63, newFill := 1 } live)
    (p.sys.inReset = false ∧ p.port.slots.getD (0 : Fin 32) none = some { offer := o } ∧ o.band = none ∧
      p.sys.drive = some drv ∧ 16384 ≤ drv.bandBlocks ∧ 0 ≤ drv.bandBlocks) ∧
    (∀ s ∈ [(x, r), (x, t), (y, u)], s.2.sys.inReset = false ∧
      s.2.port.slots.getD (0 : Fin 32) none = some { offer := v } ∧ v.band = none ∧ s.2.sys.drive = some drv ∧
      s.2.port.recovering = [{ offer := s.1 }] ∧ s.1.band = some (63, 0) ∧ s.2.sys.mode = .active ∧
      (∀ y ∈ s.2.port.offers, y.recovered = false) ∧ s.1.cmd = .write 1097728 2) ∧
    (0 < 2 ∧ 2 = (if append1.allocate then 1 else 0) + append1.gap + append1.n ∧ append1.band = 63 ∧
      append1.start = 0) ∧
    (r.bands.entry 59 63 0 = some append1 ∧ (r.bands.lband 59).phys ≠ some 63 ∧ 59 < r.bands.lbt.length) ∧
    ((t.bands.lband 59).queue = [append1] ∧ (t.bands.lband 59).phys = some 63 ∧
      (t.bands.lband 59).st = .filling ∧ 1 ≠ 0 + 2 ∧ 1 ≠ 0 ∧ t.mrg.reqs = []) ∧
    (y.work = .targetUnit (1 : Fin 2) 0 ∧ u.mrg.ctxs.length = 2 ∧ (u.mrg.ctx 1).st = .copy ∧
      2 = 1 + (u.mrg.ctx 1).newFill) ∧
    (let z : Offer := { o with work := .mountQuery 1 1, cmd := .bandQuery 1 1 }
     let f (ws : List (Option Nat)) := inSlot 0 z { live with mnt.wps := ws }
     (f []).port.slots.getD (0 : Fin 32) none = some { offer := z } ∧ z.band = none ∧ (f []).sys.drive = some drv ∧
     [16384].length = 1 ∧ (∀ x ∈ [16384], x ≤ drv.bandBlocks) ∧
     (let known (ws : List (Option Nat)) :=
        (f ws).mnt.wps.mapIdx fun i x => if 1 ≤ i ∧ i < 1 + 1 then some ([16384].getD (i - 1) 0) else x
      (∀ x ∈ known [some 0, none], x ≠ none) ∧ ∃ x ∈ known [none, none], x = none)) := by decide

theorem witness_ResetBandsReturnToTheFreeList :
    let p := onPool 63 { st := .resetPending } { live with bands.resetPend := [63] }
    let r := onPool 63 { st := .resetPending, readers := 1 } p
    let o : Offer := { cls := .f, work := .bandReset 63, cmd := .bandReset 63 }
    let t := inSlot 0 o p
    (p.sys.inReset = false ∧ p.bands.resetPend = [63] ∧ p.sys.mode = .active ∧
      (p.bands.pband 63).readers = 0 ∧ (p.bands.pband 63).writeOut = false ∧
      (p.bands.pband 63).resetIssued = false ∧ ∀ l ∈ p.bands.lbt, ∀ e ∈ l.queue, e.band ≠ 63) ∧
    (r.bands.resetPend = [63] ∧ ¬ (r.bands.pband 63).readers = 0) ∧
    (t.sys.inReset = false ∧ t.port.slots.getD (0 : Fin 32) none = some { offer := o } ∧
      o.work = .bandReset 63 ∧ o.band = none) := by decide

/-! ### Witnesses: merges -/

def zeroExt (l : Nat) : Extent := { start := l * 16383, len := 1, kind := .zero, seq := 1, lp := 0 }
def dataExt (l : Nat) : Extent := { start := l * 16383, len := 1, kind := .data, seq := 1, lp := 1 }

/-- A settled record of band `l` with one live block. -/
def liveRec (q : Nat) (k : RecKind) (l : Nat) : Rec :=
  { seq := q, pos := 2 * q, len := 2, kind := k, band := some l, n := 1, st := .settled, live := 1 }

/-- Each source's turn: an urgent entry and a CLEAN's of band 59; an entry that needs no merge; index pressure with band
59 ahead of band 3 by its staged blocks; above NORMAL a COMMIT passed and a record of a band, of a FAULTED one that is
then carried, and one that is not live; a drain with a band to take, with one that refreshes, and with none left; and no
context free, with the deadlock and without. -/
theorem witness_MergesStartOrTheDeadlockShows :
    let one (p : Part) : Part := { p with cfg.policy.contexts := 1 }
    let full : LBand := { st := .full, phys := some 63, f := 16383, pf := 16383 }
    let p := one (onBand 59 full (indexed [dataExt 59] live))
    let e (u c : Bool) : MergeReq := { band := 59, urgent := u, clean := c }
    let x : Part := { one (onBand 59 full (indexed [zeroExt 3, dataExt 59] live)) with idx.pressure := true }
    let old := { liveRec 1 .data 2 with st := .reclaimed, live := 0 }
    let t (rs : List Rec) (es : List Extent) : Part := { one (logged rs (indexed es live)) with pace.level := .pressure }
    let r := liveRec 3 .data 59
    let y := { dataExt 59 with seq := 3 }
    let f := onBand 59 { st := .faulted } (t [old, r] [y])
    let d (c : Nat) (b : LBand) := onPool 63 { refresh := true } (onBand 59 b (one (draining { cursor := c } (indexed [dataExt 59] live))))
    let w : MergeCtx := { st := .waitBand }
    let z := { onCtx 0 w (onCtx 1 w live) with
      pace.level := .full
      bands.free := []
      ini.hold := [{ kind := .discard, band := 0, off := 0, n := 1, cid := 0, part := 0 }] }
    (∀ s ∈ [p, x, t [] [], f, d 0 full], s.sys.inReset = false ∧ s.sys.mode = .active ∧
      s.cfg.policy.contexts = 1 ∧ s.mrg.ctxs = [{}, {}] ∧ ({} : MergeCtx).st = .idle ∧ s.mrg.rescan = false ∧
      s.mrg.reqs = []) ∧
    (∀ v ∈ [e true false, e false true], ({ p with mrg.reqs := [v] } : Part).mrg.reqs = v :: [] ∧ p.mrg.drain = none ∧
      v.band < p.bands.lbt.length ∧ (p.bands.lband v.band).st = .full ∧ p.refreshing v.band = false ∧
      0 < p.idx.count 16383 v.band ∧ live.idx.count 16383 v.band = 0 ∧ (live.bands.lband v.band).st = .empty ∧
      live.idx.pressure = false ∧ live.pace.level = .normal) ∧
    (x.idx.pressure = true ∧ x.mrg.drain = none ∧ 0 < x.idx.count 16383 59 ∧ (x.bands.lband 59).st = .full ∧
      x.refreshing 59 = false ∧ (onPool 63 { refresh := true } (onBand 59 { full with st := .suspect } x)).refreshing 59 = true ∧
      x.idx.count 16383 3 = x.idx.count 16383 59 ∧ (zeroExt 3).kind ≠ .data ∧ (dataExt 59).kind = .data ∧
      ∀ m, m < 60 → m ≠ 59 → x.idx.count 16383 m = 0 ∨ m = 3) ∧
    (f.idx.pressure = false ∧ f.mrg.drain = none ∧ f.pace.level ≠ .normal ∧ f.log.table = [old] ++ [] ++ r :: [] ∧
      old.st = .reclaimed ∧ (liveRec 2 .commit 5).kind = .commit ∧ (liveRec 2 .commit 5).st = .settled ∧
      0 < (liveRec 2 .commit 5).live ∧ r.st = .settled ∧ 0 < r.live ∧ r.kind = .data ∧ r.full = false ∧ r.band = some 59 ∧
      { r with live := 0 }.live = 0 ∧ ((t [] []).bands.lband 59).st = .empty ∧ (f.bands.lband 59).st = .faulted ∧
      ({} : MergeCtx).carry = none ∧ (f.bands.lband 59).unsettled = 0 ∧ f.ini.hold = [] ∧
      (f.idx.extents.filter fun e => decide (e.start < 59 * 16383 + r.off + r.n ∧
        59 * 16383 + r.off < e.start + e.len ∧ e.seq = r.seq)).filter (·.kind == .data) = [y]) ∧
    ((d 0 full).mrg.drain = some {} ∧ (d 0 full).idx.pressure = false ∧ (d 0 full).pace.level = .normal ∧
      (d 0 full).sys.layout.logBands = 60 ∧ (d 0 full).refreshing 59 = false ∧
      (d 0 { full with st := .suspect }).refreshing 59 = true ∧ ({} : MergeCtx).origin ≠ some .drain ∧
      (∀ m, m < 59 → (d 0 full).idx.count 16383 m = 0) ∧ 0 < (d 0 full).idx.count 16383 59 ∧
      (d 60 full).mrg.drain = some { cursor := 60 } ∧ (d 60 full).win.dirPending = some { num := 3, code := 8 }) ∧
    (z.sys.inReset = false ∧ z.sys.mode = .active ∧ z.mrg.drain = none ∧ z.mrg.ctxs = [w, w] ∧ w.st = .waitBand ∧
      ¬ (z.pace.level ≠ .full ∨ z.bands.resetPend ≠ [] ∨ z.bands.free ≠ [] ∨ z.ini.hold = []) ∧
      ({ z with ini.hold := [] } : Part).ini.hold = [] ∧ (inMode .degraded p).sys.mode ≠ .active) := by
  refine ⟨by decide, by decide, by decide, by decide, by decide, by decide⟩

/-- Context 1 merges band 59. -/
def waiting59 (st : CtxState) : MergeCtx := { st := st, band := some 59, origin := some .urgent }

theorem witness_SnapshotsAndFreedBandsStartTheCopy :
    let c := waiting59 .waitAppend
    let p := onCtx 1 c live
    let x := logged [rec1] (indexed [dataExt 59] { p with bands.free := [0, 1, 2, 3] })
    let b := appending append1 p
    let w := { onCtx 1 (waiting59 .waitBand) live with
      mrg.waitBand := [1]
      bands.free := [0, 1, 2, 3] }
    (p.sys.inReset = false ∧ p.mrg.ctxs.length = 2 ∧ p.mrg.ctx 1 = c ∧ c.band = some 59 ∧
      c.st = .waitAppend ∧ (p.bands.lband 59).queue = [] ∧ c.old = none ∧
      max (p.bands.lband 59).f (dataTop 16383 59 (p.idx.extents.filter fun e => e.start / 16383 == 59)) = 0) ∧
    (let z := logged [rec1] (indexed [zeroExt 59] p)
     let es := z.idx.extents.filter fun e => e.start / 16383 == 59
     es = [zeroExt 59] ∧ max (z.bands.lband 59).f (dataTop 16383 59 es) = 0) ∧
    (b.bands.lband 59).queue ≠ [] ∧
    (x.mrg.ctx 1 = c ∧ (x.bands.lband 59).queue = [] ∧ x.mrg.ctxs.length = 2 ∧
      0 < max (x.bands.lband 59).f
        (dataTop 16383 59 (x.idx.extents.filter fun e => e.start / 16383 == 59)) ∧
      rec1 ∈ x.log.table ∧ (∃ e ∈ x.idx.extents, e.seq = rec1.seq) ∧ x.mrg.waitBand = [] ∧
      x.bands.free = 0 :: [1, 2, 3] ∧ 0 ∉ [1, 2, 3] ∧
      ({ x with bands.free := [] } : Part).bands.free.length ≤ x.mrg.waitBand.length) ∧
    (live.mrg.waitBand = [] ∧ w.sys.inReset = false ∧ w.mrg.waitBand = 1 :: [] ∧
      w.bands.free = 0 :: [1, 2, 3] ∧ (w.mrg.ctx 1).band = some 59 ∧ 0 ∉ [1, 2, 3] ∧
      ({ w with bands.free := [0, 1, 2] } : Part).bands.free = 0 :: [1, 2] ∧ [1, 2].length ≤ 2) := by decide

/-- Context 1 copies offsets 0 to 1,023 of band 59 from physical band 63 to physical band 0. -/
def copying : MergeCtx :=
  { st := .copy, band := some 59, old := some 63, target := some 0, fill := 1024, newFill := 1024
    chain := [{ src := .oldBand, off := 0, n := 1024 }] }

theorem witness_MergeReadsFillTheFrames :
    let p := onCtx 1 copying live
    let r := (copying.chainReads geo).head?
    let o : Offer := { cls := .e, work := .mergeRead 1 0 256, cmd := .read 1097729 256, pin := some (.band 63) }
    let t := inSlot 31 o (onCtx 1 { copying with front := 1, reads := [(0, 256)] } live)
    (p.sys.inReset = false ∧ p.mrg.ctxs.length = 2 ∧ p.mrg.ctx (1 : Fin 2) = copying ∧ copying.st = .copy ∧
      copying.carry = none ∧ (copying.chainReads geo)[copying.front]? = r ∧
      r.map (·.pin) = some (.band 63) ∧ copying.reads.length < 8) ∧
    (∀ x, r = some x → copying.framesUsed + x.n ≤ 1024 ∧
      1024 < { copying with reads := [(0, 1024)] }.framesUsed + x.n) ∧
    8 ≤ { copying with reads := List.replicate 8 (0, 1) }.reads.length ∧
    (t.sys.inReset = false ∧ t.port.slots.getD (31 : Fin 32) none = some { offer := o } ∧ o.band = none ∧
      o.work = .mergeRead (1 : Fin 2) 0 256 ∧ o.pin = some (.band 63) ∧ (t.mrg.ctx 1).band = some 59 ∧
      59 < t.bands.lbt.length ∧ (t.mrg.ctx 1).clean = false ∧ t.mrg.reqs = []) ∧
    (let m : MoveStep := { src := .log 1 7, off := 0, n := 128 }
     let c := { copying with chain := [m] }
     let o : Offer := { cls := .e, work := .mergeRead 1 0 128, cmd := .read 9 128, pin := some (.record 7) }
     let t := inSlot 31 o (onCtx 1 { c with front := 1, reads := [(0, 128)] } live)
     c.chain = [m] ∧ m.src = .log 1 7 ∧ (c.chainReads geo)[c.front]?.map (·.pin) = some (.record 7) ∧
     t.port.slots.getD (31 : Fin 32) none = some { offer := o } ∧ o.work = .mergeRead (1 : Fin 2) 0 128 ∧
     o.pin = some (.record 7)) := by decide

/-- A first unit of the header and two zero blocks, ready at once, and its completion, the last; or with an error, with 1
and with 2 merge failures behind it. -/
theorem witness_TargetUnitsAreWrittenInOrder :
    let c := { copying with newFill := 2, chain := [{ src := .zero, off := 0, n := 2 }] }
    let p := onCtx 1 c live
    let o : Offer := { cls := .e, work := .targetUnit 1 0, cmd := .write 65536 3, band := some (0, 0) }
    let t := inSlot 31 o p
    (p.sys.inReset = false ∧ p.mrg.ctxs.length = 2 ∧ p.mrg.ctx (1 : Fin 2) = c ∧ c.st = .copy ∧
      c.target = some 0 ∧ (p.bands.pband 0).wp = 256 * 0 ∧ c.unitOut = false ∧ 0 < c.unitLen 0 ∧
      ∀ k, k < c.unitLen 0 → c.blockReady (256 * 0 + k) = true) ∧
    ({ c with unitOut := true } : MergeCtx).unitOut ≠ false ∧
    (t.sys.inReset = false ∧ t.port.slots.getD (31 : Fin 32) none = some { offer := o } ∧
      o.work = .targetUnit (1 : Fin 2) 0 ∧ o.band = some (0, 256 * 0) ∧ o.cmd = .write 65536 3 ∧
      256 * 0 + 3 = 1 + c.newFill ∧ 256 * 0 + 2 ≠ 1 + c.newFill) ∧
    (∀ n ∈ [1, 2],
      let v := onBand 59 { st := .merging, resume := some .full, phys := some 63, failures := n } t
      v.port.slots.getD (31 : Fin 32) none = some { offer := o } ∧ (v.mrg.ctx 1).band = some 59 ∧
      59 < v.bands.lbt.length ∧ 0 < v.bands.pool.length ∧ (v.bands.lband 59).resume.isSome = true ∧
      (v.bands.lband 59).failures = n ∧ v.mrg.reqs = [] ∧ (v.mrg.ctx 1).clean = false) := by decide

theorem witness_ContextsEndAndCarryForwardReads :
    let x : CarryPass := { seq := 1, list := [dataExt 0, dataExt 1], issued := 2, flight := [0, 1] }
    let c : MergeCtx := { st := .copy, carry := some x }
    let o : Offer := { cls := .e, work := .carryRead 1 0, cmd := .read 9 1, pin := some (.record 1) }
    let p := inSlot 31 o (onCtx 1 c (logged [{ rec1 with readers := 2 }] live))
    let r := onCtx 1 { st := .release } live
    let s := onCtx 1 { st := .release, reads := [(0, 1)] } live
    (r.sys.inReset = false ∧ r.mrg.ctxs.length = 2 ∧ (r.mrg.ctx (1 : Fin 2)).st = .release ∧
      (r.mrg.ctx 1).reads = [] ∧ (r.mrg.ctx 1).unitOut = false ∧ (r.mrg.ctx 1).carry = none ∧
      r.mrg.drain = none) ∧
    ((s.mrg.ctx 1).reads ≠ [] ∧ (live.mrg.ctx 1).st ≠ .release) ∧
    (let z (fl : List Nat) := onCtx 1 { st := .release, carry := some { x with flight := fl } } live
     (z []).mrg.drain = none ∧ ((z []).mrg.ctx 1).carry = some { x with flight := [] } ∧
     ((z [0]).mrg.ctx 1).carry = some { x with flight := [0] } ∧ ((z [0]).mrg.ctx 1).st = .release ∧
     (inSlot 31 o (z [0])).port.slots.getD (31 : Fin 32) none = some { offer := o }) ∧
    (let y : CarryPass := { x with list := (List.range 11).map dataExt, issued := 8, flight := List.range 8 }
     y.issued < y.dataList.length ∧ (y.flight.filter (· != 0)).length < 8 ∧ y.dataList[0]? = some (dataExt 0) ∧
     ((y.dataList.drop y.issued).take (8 - (y.flight.filter (· != 0)).length)).length = 1 ∧
     ((onCtx 1 { c with carry := some y } p).mrg.ctx 1).carry = some y) ∧
    (p.sys.inReset = false ∧ p.mrg.ctxs.length = 2 ∧
      p.port.slots.getD (31 : Fin 32) none = some { offer := o } ∧ o.work = .carryRead (1 : Fin 2) 0 ∧
      o.band = none ∧ o.pin = some (.record x.seq) ∧ (p.mrg.ctx 1).st = .copy ∧
      (p.mrg.ctx 1).carry = some x ∧ p.log.carryFail ≠ some x.seq ∧
      x.dataList[0]? = some (dataExt 0) ∧ x.issued = x.dataList.length ∧
      x.flight.filter (· != 0) ≠ []) ∧
    (let v := { p with log.carryFail := some 1 }
     v.log.carryFail = some x.seq ∧ v.sys.mode = .active ∧ v.pendingSettings = none ∧
     quietly { v with mrg.ctxs := v.mrg.ctxs.set 1 { c with st := .release } } = true) ∧
    (let y : CarryPass := { x with flight := [1], got := [(0, [[]])] }
     let g (n : Nat) (es : List Extent) := inSlot 31 { o with work := .carryRead 1 1 }
       (onBand 0 { st := .faulted, unsettled := n } (indexed es (onCtx 1 { c with band := some 0, carry := some y } live)))
     y.dataList[1]? = some (dataExt 1) ∧ y.issued = y.dataList.length ∧ y.flight.filter (· != 1) = [] ∧
     y.got.length + 1 = y.dataList.length ∧
     (let k := g 0 [dataExt 0, dataExt 1]
      k.port.slots.getD (31 : Fin 32) none = some { offer := { o with work := .carryRead 1 1 } } ∧
      (k.bands.lband 0).unsettled = 0 ∧ ∀ z ∈ y.list, z ∈ k.idx.extents) ∧
     ((g 1 []).bands.lband 0).unsettled ≠ 0 ∧ ∃ z ∈ y.list, z ∉ (g 0 [dataExt 0]).idx.extents) := by decide

/-! ### Witnesses: the drive port -/

theorem witness_GrantsFollowTheClassOrder :
    let x : Offer := { cls := .b, work := .fgRead 0 0, cmd := .read 8 1 }
    let y : Offer := { cls := .e, work := .mergeRead 1 0 1, cmd := .read 9 1 }
    let z : Offer := { cls := .e, work := .targetUnit 1 0, cmd := .write 65536 3, band := some (0, 0) }
    let p := offering [x, y] live
    let r := offering [y, x] live
    let d := inMode .degraded (offering [z] live)
    let t := offering [z] (onCtx 1 { st := .release } live)
    let u := onPool 0 { wp := 1 } t
    let a := { z with attempt := 2 }
    let b := onPool 0 { writeOut := true } (offering [a] (onCtx 1 { st := .release } live))
    let c : Cmd := { sending 1 with st := .working, data := [[7]], parts := [.pending] }
    let f : Offer := { cls := .b, work := .forwarded 0, cmd := .forwarded c.opcode c.params c.dir c.count }
    let g := offering [f] (counted 1 (onTag 0 c live))
    (live.sys.inReset = false ∧ (downFor 0 live).port.linkUp = false) ∧
    (∀ s ∈ [p, r], s.sys.inReset = false ∧ s.port.linkUp = true ∧ s.port.slots = List.replicate 32 none ∧
      s.port.nextOrder ≠ 0 ∧ (s.port.offers = [x, y] ∨ s.port.offers = [y, x])) ∧
    (x.cls = .b ∧ y.cls = .e ∧ x.cmd = .read 8 1 ∧ y.cmd = .read 9 1 ∧ x.band = none ∧ y.band = none ∧
      x.order = 0 ∧ y.order = 0 ∧ x.work = .fgRead 0 0 ∧ y.work = .mergeRead 1 0 1) ∧
    (d.port.offers = [z] ∧ d.sys.mode = .degraded ∧ z.cmd.modifies = true) ∧
    (z.attempt ≤ 1 ∧ z.band = some (0, 0) ∧
      ((onPool 0 { writeOut := true } t).bands.pband 0).writeOut = true) ∧
    (t.sys.inReset = false ∧ t.port.offers = [z] ∧ t.port.linkUp = true ∧
      t.port.slots = List.replicate 32 none ∧ t.sys.mode = .active ∧ z.cls = .e ∧ z.cmd = .write 65536 3 ∧
      z.work = .targetUnit 1 0 ∧ (t.bands.pband 0).writeOut = false ∧ (t.mrg.ctx 1).st = .release ∧
      (t.bands.pband 0).wp = 0 ∧ z.order = 0 ∧ 0 < t.port.nextOrder) ∧
    (u.bands.pband 0).wp ≠ 0 ∧
    (b.port.offers = [a] ∧ (b.bands.pband 0).writeOut = true ∧ 1 < a.attempt ∧ (b.bands.pband 0).wp = 0) ∧
    (g.sys.inReset = false ∧ g.port.offers = [f] ∧ g.port.linkUp = true ∧
      g.port.slots = List.replicate 32 none ∧ g.sys.mode ≠ .degraded ∧ g.sys.mode ≠ .halted ∧
      g.ini.at 0 = some c ∧ f.work = .forwarded c.cid ∧ f.order = 0 ∧ 0 < g.port.nextOrder) ∧
    g.commandsSound ∧
    (let r : Rec := { rec1 with origin := .cmd 0 0 }
     let w (c : Cmd) (r : Rec) := logged [r] (counted 1 (onTag 0 c live))
     let k : CarryPass := { seq := 7, list := [dataExt 0, dataExt 1], got := [(1, [[9]])] }
     let y : Rec := { r with origin := .carry 1, carries := some (7, 16383) }
     let s := onCtx 1 { carry := some k } (w c y)
     let a (e : AppendEntry) := onBand 59 { st := .filling, phys := some 63, queue := [e] } (w c r)
     (w c r).log.find 1 = some r ∧ r.kind = .data ∧ (w c r).ini.at 0 = some c ∧ r.origin = .cmd c.cid 0 ∧
     (∀ b ∈ c.data, toBlock b = b) ∧ r.first + r.n ≤ c.data.length ∧
     (w c (discard1 true)).log.find 1 = some (discard1 true) ∧ s.log.find 1 = some y ∧
     (s.mrg.ctx 1).carry = some k ∧ k.dataList = [dataExt 0] ++ dataExt 1 :: [] ∧
     (∀ x ∈ [dataExt 0], x.start ≠ (dataExt 1).start) ∧ y.carries = some (k.seq, (dataExt 1).start) ∧
     k.got.find? (·.1 == 1) = some (1, [[9]]) ∧ [[(9 : Byte)]].length = y.n ∧
     (∀ z ∈ [append1, { append1 with allocate := false, start := 4, gap := 2 }], (a z).bands.entry 59 63 z.start = some z ∧
       c.cid = z.cid ∧ z.first + z.n ≤ c.data.length)) ∧
    (logged [{ rec1 with origin := .cmd 0 0 }] (counted 1 (onTag 0 c live))).commandsSound ∧
    (let last := { p with port.slots := (List.replicate 32 (some { offer := readOffer })).set 27 none }
     let slotFor (p : Part) (cl : ArbClass) :=
       (if cl = .a ∨ cl = .e then [28, 29, 30, 31] ++ List.range 28 else List.range 28).find? fun k =>
         decide (p.port.slots.getD k none = none)
     let v : Offer := { cls := .d, work := .append 59 0 4, cmd := .write 65540 2, band := some (0, 4) }
     let e := { append1 with allocate := false, band := 0, start := 4 }
     let s := onBand 59 { st := .filling, phys := some 0, f := 1, pf := 2, queue := [e] } (offering [v] live)
     last.port.linkUp = true ∧ last.port.slots.length = 32 ∧ last.port.offers = [x, y] ∧
     slotFor last .b = some 27 ∧ slotFor last .e = some 27 ∧ slotFor live .e = some 28 ∧ slotFor live .b = some 0 ∧
     slotFor { live with port.slots := List.replicate 32 (some { offer := readOffer }) } .a = none ∧
     (∀ j, j < 32 → j ≠ 27 → last.port.slots.getD j none ≠ none) ∧
     (x.cmd.modifies = false ∧ x.band = none ∧ y.cmd.modifies = false ∧ y.band = none) ∧
     ((offering [z, x] (onPool 0 { writeOut := true } live)).port.offers = [z, x] ∧ z.attempt ≤ 1) ∧
     (u.bands.pband 0).writeOut = false ∧ slotFor u z.cls = some (28 : Fin 32).val ∧
     s.port.offers = [v] ∧ slotFor s .d = some (0 : Fin 32).val ∧ v.band = some (0, 4) ∧
     (s.bands.pband 0).writeOut = false ∧ (s.bands.pband 0).wp ≠ 4 ∧ e.band = 0 ∧ e.start = 4 ∧
     59 < s.bands.lbt.length ∧ (s.bands.lband 59).queue = [e] ∧ (s.bands.lband 59).phys = some 0 ∧
     (s.bands.lband 59).st = .filling ∧ s.mrg.reqs = []) :=
  ⟨by decide, by decide, by decide, by decide, by decide, by decide, by decide, by decide, by decide,
    sound_of rfl rfl (by decide +kernel), by decide, sound_of rfl rfl (by decide +kernel), by decide⟩

/-- An OTHER with data-in of one block on tag 0, given to the drive. -/
def forwarding : Cmd :=
  { cid := 0, tag := 0, cls := .other, count := 1, dir := .dataIn, frames := 1, parts := [.pending] }

theorem witness_CompletionsReachTheInitiator :
    let o : Offer := { cls := .b, work := .forwarded 0, cmd := .forwarded 7 [] .dataIn 1 }
    let p := inSlot 27 o (onTag 0 forwarding live)
    let d (w : Work) : Part := { live with
      port.slots := live.port.slots.set 0 (some { offer := { readOffer with work := w }, discard := true }) }
    let g : Seg := { kind := .band, abs := 65537, n := 1, pin := some (.band 0) }
    let c : Cmd := { cid := 0, tag := 0, cls := .read, count := 1, frames := 1, segs := [g] }
    let v : Offer := { cls := .b, work := .fgRead 0 0, cmd := .read 65537 1, pin := some (.band 0) }
    let r := inSlot 0 v (onTag 0 c live)
    (live.sys.inReset = false ∧ live.port.slots.getD (31 : Fin 32) none = none) ∧
    (∀ w ∈ [Work.fgRead 0 0, .record 1, .bandReset 0], (d w).sys.inReset = false ∧
      ∃ x, (d w).port.slots.getD (0 : Fin 32) none = some x ∧ x.discard = true ∧ x.offer.work = w) ∧
    (p.sys.inReset = false ∧ p.port.slots.getD (27 : Fin 32) none = some { offer := o } ∧
      o.work = .forwarded forwarding.cid ∧ o.band = none ∧
      (∀ t x, p.ini.at t = some x → x.cid = forwarding.cid → t = 0) ∧ p.ini.detached = [] ∧
      p.ini.at 0 = some forwarding ∧ forwarding.tag = 0 ∧ forwarding.dir = .dataIn ∧
      forwarding.parts = [.pending] ∧ forwarding.fail = none) ∧
    (inSlot 27 o live).ini.at 0 = none ∧
    (r.sys.inReset = false ∧ r.port.slots.getD (0 : Fin 32) none = some { offer := v } ∧
      v.work = .fgRead c.cid 0 ∧ v.band = none ∧ v.cmd = .read 65537 g.n ∧ v.pin = some (.band 0) ∧
      r.ini.at 0 = some c ∧ c.tag = 0 ∧ (∀ t x, r.ini.at t = some x → x.cid = c.cid → t = 0) ∧
      r.ini.detached = [] ∧ c.segs = [g] ∧ c.cursor = 0 ∧ c.fail = none ∧ g.outcome = none) := by
  refine ⟨by decide, ?_, ⟨by decide, by decide, by decide, by decide, fun t x h _ => (at_onTag h).1,
    by decide⟩, by decide, rfl, rfl, rfl, rfl, rfl, rfl, rfl, rfl, fun t x h _ => (at_onTag h).1, by decide⟩
  intro w hw
  simp only [List.mem_cons, List.not_mem_nil, or_false] at hw
  obtain rfl | rfl | rfl := hw <;> exact ⟨rfl, _, rfl, rfl, rfl⟩

/-! ### Witnesses: mount and FORMAT -/

def mounting (m : Mount) (p : Part) : Part := { inMode .mounting p with mnt := m }
def formatting (f : Format) (p : Part) : Part := { inMode .formatting p with fmt := some f }

/-- Nothing granted, or a read; and the least P, S and CR, the most bands, and a CR one short. -/
theorem witness_MountAndFormatIdentifyTheDrive :
    (let p := mounting { phase := .wait } live
     let f := formatting { layout := geo } live
     let h : Format := { layout := geo, fromHalted := true }
     (p.sys.inReset = false ∧ p.sys.mode = .mounting ∧ p.mnt.phase = .wait ∧ p.port.linkUp = true ∧
       ∀ x ∈ p.port.slots, x = none) ∧
     ¬ (inSlot 31 readOffer p).port.slots.all (· == none) = true ∧
     (f.sys.inReset = false ∧ f.fmt = some { layout := geo } ∧ (Format.step { layout := geo }) = .quiesce ∧
       (∀ x ∈ f.port.slots, x = none) ∧ f.port.offers = [] ∧ f.port.awaiting = [] ∧ f.port.recovering = []) ∧
     ((offering [readOffer] f).port.offers ≠ [] ∧ (Format.fromHalted { layout := geo }) ≠ true) ∧
     (h.step = .quiesce ∧ h.fromHalted = true)) ∧
    (let o : Offer := { cls := .f, work := .mountIdentify, cmd := .identify }
     let u : Offer := { o with work := .formatIdentify }
     let f : Format := { layout := geo, step := .identify }
     let p := inSlot 0 o (mounting { phase := .identify } live)
     let r := inSlot 0 u (formatting f live)
     let valid (bands size conv : Nat) := (size = 16384 ∨ size = 32768 ∨ size = 65536) ∧ 64 ≤ bands ∧
       bands ≤ 131072 ∧ 16392 ≤ conv
     (p.sys.inReset = false ∧ p.port.slots.getD (0 : Fin 32) none = some { offer := o } ∧ o.band = none ∧
       (List.replicate 20 (0 : Byte)).length = 20 ∧ o.work = .mountIdentify) ∧
     (valid 64 16384 16392 ∧ valid 131072 65536 16392 ∧ ¬ valid 64 16384 16391) ∧
     (r.sys.inReset = false ∧ r.port.slots.getD (0 : Fin 32) none = some { offer := u } ∧ u.band = none ∧
       u.work = .formatIdentify ∧ r.fmt = some f ∧ f.layout.bands = 64 ∧ f.layout.bandBlocks = 16384 ∧
       f.layout.conv = 65536 ∧ f.layout.logLen = 16384) ∧
     ({ geo with bands := 65 }.bands ≠ 64 ∧ ({ r with win.dirPending := some { num := 1, code := 12 } } : Part).win.dirPending =
       some { num := 1, code := 12 } ∧ DriveCode.mediumError ≠ .good)) := by decide

/-- The anchor FORMAT leaves on a drive of the smallest layout. -/
def freshAnchor : AnchorData :=
  { layout := geo, logBase := 8, tail := 0, tailSeq := 1, policy := {}, disp := {}, enables := 0xFF
    ranges := List.replicate 8 {} }

/-! ### The anchor of FORMAT's defaults written out from R198, its check value worked outside the model -/

/-- Bytes 0 to 20: the signature, S = 16,384, P = 64, R = 4, and the low bytes of CR = 65,536. -/
def anchorA : List Byte :=
  [0x53, 0x42, 0x32, 0x34, 0x41, 0x4E, 0x43, 0x52, 0x00, 0x40, 0x00,
   0x00, 0x40, 0x00, 0x00, 0x00, 0x04, 0x00, 0x00, 0x00, 0x01]
/-- Bytes 21 to 41: the rest of CR, LOG_BASE 8, LOG_LEN 16,384, tail 0, and the low bytes of tail seq 1. -/
def anchorB : List Byte :=
  [0x00, 0x00, 0x00, 0x00, 0x00, 0x08, 0x00, 0x00, 0x00, 0x00, 0x40,
   0x00, 0x00, 0x00, 0x00, 0x00, 0x00, 0x01, 0x00, 0x00, 0x00]
/-- Bytes 42 to 60: the quanta, G, PACE_Q, BURST, contexts, T, the dispositions and the enables at their
defaults. -/
def anchorC : List Byte :=
  [0x00, 0x00, 0x80, 0xC0, 0xF0, 0x00, 0x01, 0x04, 0x00, 0x08, 0x02,
   0x32, 0x00, 0x00, 0x00, 0x00, 0x00, 0x03, 0xFF]
/-- A sixth of the eight OFF ranges. -/
def anchorZ : List Byte := List.replicate 24 0

def anchorBody : List Byte :=
  anchorA ++ (anchorB ++ (anchorC ++ (anchorZ ++ (anchorZ ++ (anchorZ ++ (anchorZ ++ (anchorZ ++ anchorZ)))))))

/-- The anchor, and one with no check value. -/
def anchorBlock : Block := anchorBody ++ [0x77, 0xA1, 0x3F, 0xA6]
def spoiled : Block := anchorBody ++ [1, 2, 3, 4]

theorem anchor_reg_0 : anchorA.foldl crcByte 0xFFFFFFFF#32 = 0x1960DBA2#32 := by decide +kernel
theorem anchor_reg_1 : anchorB.foldl crcByte 0x1960DBA2#32 = 0x6DC9566D#32 := by decide +kernel
theorem anchor_reg_2 : anchorC.foldl crcByte 0x6DC9566D#32 = 0xD220E7D6#32 := by decide +kernel
theorem anchor_reg_3 : anchorZ.foldl crcByte 0xD220E7D6#32 = 0x3FDCCCD4#32 := by decide +kernel
theorem anchor_reg_4 : anchorZ.foldl crcByte 0x3FDCCCD4#32 = 0x2A3C020B#32 := by decide +kernel
theorem anchor_reg_5 : anchorZ.foldl crcByte 0x2A3C020B#32 = 0xF5F1062E#32 := by decide +kernel
theorem anchor_reg_6 : anchorZ.foldl crcByte 0xF5F1062E#32 = 0x55925CE7#32 := by decide +kernel
theorem anchor_reg_7 : anchorZ.foldl crcByte 0x55925CE7#32 = 0x5A9AA12D#32 := by decide +kernel
theorem anchor_reg_8 : anchorZ.foldl crcByte 0x5A9AA12D#32 = 0x59C05E88#32 := by decide +kernel

theorem test_anchor_check_value : checkValue anchorBody = 0xA63FA177 := by
  unfold checkValue anchorBody
  simp only [List.foldl_append, anchor_reg_0, anchor_reg_1, anchor_reg_2, anchor_reg_3, anchor_reg_4, anchor_reg_5, anchor_reg_6, anchor_reg_7, anchor_reg_8]
  decide

theorem anchor_matches (check : List Byte) (h : check.length = 4) :
    checkMatches (anchorBody ++ check) 205 [] = (leNat check == 0xA63FA177) := by
  have hb := bytesAt_append [] anchorBody check 0 205 rfl rfl
  have hf := bytesAt_append anchorBody check [] 205 4 rfl h.symm
  rw [List.append_nil] at hf
  rw [List.nil_append] at hb
  unfold checkMatches field
  rw [hb, hf, List.flatMap_nil, List.append_nil, test_anchor_check_value]
  rfl

theorem test_anchor_is_read : parseAnchor anchorBlock = some freshAnchor := by decide +kernel

/-- The anchor's fields, low to high, with a tail seq of 0, which is out of its range (R184). -/
def seqZero : Block := anchorA ++ (List.replicate 21 0 ++ (anchorC ++ List.replicate 144 0))

theorem witness_AnchorDecidesTheMount :
    let o : Offer := { cls := .b, work := .mountAnchor, cmd := .read 0 1 }
    let p := inSlot 0 o (mounting { phase := .anchor, wps := List.replicate 64 (some 0) } live)
    let r := inSlot 0 o { mounting { phase := .anchor } live with sys.drive := some { drv with conv := 65537 } }
    (p.sys.inReset = false ∧ p.port.slots.getD (0 : Fin 32) none = some { offer := o } ∧
      o.work = .mountAnchor ∧ o.band = none ∧ p.mnt.anchorErrors = 0 ∧
      0 < (inSlot 0 o (mounting { anchorErrors := 1 } live)).mnt.anchorErrors) ∧
    bytesAt [] 0 8 ≠ sigAnchor ∧
    (bytesAt spoiled 0 8 = sigAnchor ∧ checkMatches spoiled 205 [] = false) ∧
    (bytesAt seqZero 0 8 = sigAnchor ∧ ∀ a, parseAnchor seqZero = some a → anchorInRange a = false) ∧
    (bytesAt anchorBlock 0 8 = sigAnchor ∧ parseAnchor anchorBlock = some freshAnchor ∧
      checkMatches anchorBlock 205 [] = true ∧ anchorInRange freshAnchor = true ∧
      8 + freshAnchor.layout.logLen ≤ freshAnchor.layout.conv ∧
      p.sys.drive = some { bands := freshAnchor.layout.bands, bandBlocks := freshAnchor.layout.bandBlocks,
                           conv := freshAnchor.layout.conv } ∧
      p.mnt.wps = (List.replicate freshAnchor.layout.bands 0).map some ∧
      ({ p with mnt.wps := (1 :: List.replicate 63 0).map some } : Part).mnt.wps = (1 :: List.replicate 63 0).map some ∧
      (1 :: List.replicate 63 0).length = freshAnchor.layout.bands ∧
      (List.range 64).filter (fun n => decide ((1 :: List.replicate 63 0).getD n 0 ≠ 0)) = [0] ∧
      (List.range 64).filter (fun n => decide ((List.replicate 64 0).getD n 0 ≠ 0)) = []) ∧
    (r.sys.inReset = false ∧ r.port.slots.getD (0 : Fin 32) none = some { offer := o } ∧
      r.sys.drive ≠ some { bands := freshAnchor.layout.bands, bandBlocks := freshAnchor.layout.bandBlocks,
                           conv := freshAnchor.layout.conv }) := by
  refine ⟨by decide, by decide, ⟨by decide, ?_⟩, ⟨by decide, ?_⟩, ⟨by decide, test_anchor_is_read, ?_, by decide,
    by decide, by decide, rfl, rfl, rfl, by decide, by decide⟩, by decide⟩
  · exact (anchor_matches _ rfl).trans (by decide)
  · intro a ha
    have h : (parseAnchor seqZero).map (fun a => anchorInRange a) = some false := by decide +kernel
    rw [ha] at h
    simpa using h
  · exact (anchor_matches _ rfl).trans (by decide)

/-- Headers of the last logical band, and of the band past it; another header read open, and none. -/
theorem witness_HeadersMakeCandidates :
    let o : Offer := { cls := .b, work := .mountHeader 0, cmd := .read 65536 1 }
    let p := inSlot 0 o (mounting { phase := .headers, headersOpen := [0, 1], headersRetried := [0] } live)
    (p.sys.inReset = false ∧ p.port.slots.getD (0 : Fin 32) none = some { offer := o } ∧
      o.work = .mountHeader 0 ∧ o.band = none ∧ (∃ x ∈ p.mnt.headersOpen, x ≠ 0)) ∧
    (parseBandHeader (bandHeader 59 7 true) = some (59, 7, true) ∧
      parseBandHeader (bandHeader 60 7 false) = some (60, 7, false) ∧ parseBandHeader [] = none ∧
      geo.bands - geo.spares = 60) ∧
    (0 ∈ p.mnt.headersRetried ∧ 0 ∉ live.mnt.headersRetried) ∧
    ((mounting { phase := .headers, headersOpen := [0] } live).mnt.headersOpen.filter (· != 0) = [] ∧
      p.mnt.headersOpen.filter (· != 0) ≠ []) := by decide +kernel

/-- The check value of a record's header matches, whatever its data (R65). -/
theorem header_matches (r : Rec) (data : List Block) (h : (recordPrefix r).length = checkOffset r.kind) :
    checkMatches (recordHeader r data) (checkOffset r.kind) data = true := by
  rw [← h]
  refine checkMatches_sealed _ _ ?_
  rw [h]
  cases r.kind <;> decide

def dataRec1 : Rec := { seq := 1, pos := 0, len := 2, kind := .data, band := some 59, n := 1 }

/-- The header of a DATA record reads back whatever its data (R197). -/
theorem dataRec1_is_read (data : List Block) : parseRecord (recordHeader dataRec1 data) 0 = some dataRec1 := by
  have hb : ∀ off w, off + w ≤ 27 → bytesAt (recordHeader dataRec1 data) off w = bytesAt (recordPrefix dataRec1) off w :=
    fun off w h => bytesAt_sealed _ _ _ _ h (by decide)
  have h8 : byteAt (recordHeader dataRec1 data) 8 = 1 := byteAt_sealed _ _ _ (by decide) (by decide)
  have e0 : bytesAt (recordPrefix dataRec1) 0 8 = sigRecord := by decide
  have e9 : leNat (bytesAt (recordPrefix dataRec1) 9 2) = 2 := by decide
  have e11 : leNat (bytesAt (recordPrefix dataRec1) 11 6) = 1 := by decide
  have e17 : leNat (bytesAt (recordPrefix dataRec1) 17 4) = 59 := by decide
  have e21 : leNat (bytesAt (recordPrefix dataRec1) 21 4) = 0 := by decide
  have e25 : leNat (bytesAt (recordPrefix dataRec1) 25 2) = 1 := by decide
  have k : recKindOf 1 = some .data := rfl
  simp only [parseRecord, field, hb 0 8 (by decide), h8, hb 11 6 (by decide), hb 9 2 (by decide),
    hb 17 4 (by decide), hb 21 4 (by decide), hb 25 2 (by decide), e0, e9, e11, e17, e21, e25, k, ne_eq,
    not_true_eq_false, if_false]
  rfl

/-- A record of each kind at position 0: a VOID of 129 blocks, a partial and a full DISCARD, a COMMIT whose bands are
the last, and DATA records of 1 and of 128 blocks; and a PAD of 128 that ends the ring. -/
theorem witness_ReplayWalksTheLog :
    let o : Offer := { cls := .b, work := .replayHeader, cmd := .read 8 1 }
    let p := inSlot 0 o (mounting { phase := .replay, seq := 1 } live)
    let v : Rec := { seq := 1, pos := 0, len := 129, kind := .void }
    let x (full : Bool) : Rec :=
      { seq := 1, pos := 0, len := 1, kind := .discard, band := some 59, n := 1, full := full }
    let c : Rec := { seq := 1, pos := 0, len := 1, kind := .commit, band := some 59, oldBand := some 63,
                     newBand := some 62, newFill := 16383 }
    let d (n : Nat) : Rec := { seq := 1, pos := 0, len := 1 + n, kind := .data, band := some 59, n := n }
    let e : Rec := { seq := 1, pos := 16256, len := 128, kind := .pad }
    let h (n : Nat) := inSlot 0 { o with work := .replayData }
      (mounting { phase := .replay, seq := 1, header := some (recordHeader (d n) []) } live)
    (p.sys.inReset = false ∧ p.port.slots.getD (0 : Fin 32) none = some { offer := o } ∧ o.band = none ∧
      p.sys.mode = .mounting ∧ p.mnt.phase = .replay ∧ o.work = .replayHeader ∧
      parseRecord [] p.mnt.pos = none ∧ p.log.table.length < 32768 ∧ p.idx.extents.length ≤ 65536) ∧
    (∀ r ∈ [v, x true, x false, c, d 1, d 128], parseRecord (recordHeader r []) p.mnt.pos = some r ∧
      r.seq = p.mnt.seq ∧ p.mnt.pos + r.len ≤ p.sys.layout.logLen ∧
      p.mnt.blocks + r.len ≤ p.sys.layout.logLen) ∧
    (v.len ≤ 129 ∧ (x true).len = 1 ∧ (d 128).n ≤ 128 ∧ 59 < geo.bands - geo.spares ∧ c.snapSeq < c.seq ∧
      c.newFill ≤ 16383 ∧ 63 < geo.bands ∧ 62 < geo.bands) ∧
    (parseRecord (recordHeader e []) 16256 = some e ∧ 16256 + e.len = geo.logLen ∧ e.len ≤ 128) ∧
    (∀ r ∈ [v, x true, x false, c, e], ∀ data, checkMatches (recordHeader r data) (checkOffset r.kind) data = true) ∧
    (checkMatches [1, 2, 3] 17 [] = false) ∧
    (∀ n ∈ [1, 128], (h n).sys.inReset = false ∧
      (h n).port.slots.getD (0 : Fin 32) none = some { offer := { o with work := .replayData } } ∧
      (h n).mnt.header = some (recordHeader (d n) [])) ∧
    (∀ data, checkMatches (recordHeader (d 1) data) 27 data = true ∧ parseRecord (recordHeader (d 1) data) 0 = some (d 1)) ∧
    (∀ x ∈ (logged [{ v with seq := 0 }] p).log.table, x.seq ≠ v.seq) := by
  refine ⟨by decide, by decide +kernel, by decide, by decide +kernel, ?_, by decide +kernel, ?_, ?_, by decide⟩
  · intro r hr data
    refine header_matches r data ?_
    simp only [List.mem_cons, List.not_mem_nil, or_false] at hr
    obtain rfl | rfl | rfl | rfl | rfl := hr <;> rfl
  · intro n _
    exact ⟨rfl, rfl, rfl⟩
  · intro data
    exact ⟨header_matches dataRec1 data rfl, dataRec1_is_read data⟩

/-- A new drive; and band 5 with a winner on band 3 and a marked loser on band 4, whose purge takes the extent of record 18:
its loser is awaited by the COMMIT that names it, by the full DISCARD above its base, or by none. -/
theorem witness_ClaimResolutionEndsTheMount :
    let p := mounting { phase := .resolve } live
    let x : Candidate := { p := 3, band := 5, base := 19, mark := false }
    let y : Candidate := { p := 4, band := 5, base := 10, mark := true }
    let c := { liveRec 25 .commit 5 with oldBand := some 4 }
    let k (aw : List Nat) : Rec := { liveRec 22 .discard 5 with full := true, awaited := aw }
    let f (rs : List Rec) : Part :=
      { mounting { phase := .resolve, candidates := [x, y], tailSeq := 20 }
          (logged rs (indexed [{ dataExt 5 with seq := 18 }, { dataExt 6 with seq := 24 }] (onPool 3 { wp := 11 } live))) with
        log.nextSeq := 40 }
    (p.sys.inReset = false ∧ p.sys.mode = .mounting ∧ p.mnt.phase = .resolve ∧ p.mnt.candidates = [] ∧
      p.mnt.notes = [] ∧ p.mnt.floors = [] ∧ 59 < p.bands.lbt.length ∧ live.sys.mode ≠ .mounting ∧
      (mounting { phase := .replay } live).mnt.phase ≠ .resolve ∧ p.mrg.reqs = [] ∧ p.win.dirPending = none ∧
      ({ p with win.dirPending := some { num := 4294967295, code := 13 } } : Part).win.dirPending =
        some { num := 4294967295, code := 13 }) ∧
    ((f []).sys.mode = .mounting ∧ (f []).mnt.phase = .resolve ∧ ((f []).mnt.candidates.map (·.p)).Nodup ∧
      ∀ z ∈ (f []).mnt.candidates, z.p < (f []).bands.pool.length) ∧
    (∀ rs ∈ [[], [c], [k []], [k [1, 2]]], (List.range 60).flatMap (fun l => ((f rs).claim l).losers) = [y] ∧
      ((f rs).claim 5).winner = some x) ∧
    ((f [c]).log.find 25 = some c ∧ c.kind = .commit ∧ c.band = some y.band ∧ c.oldBand = some y.p) ∧
    (∀ aw ∈ [[], [1, 2]], (f [k aw]).log.find 22 = some (k aw) ∧ (k aw).full = true ∧ y.base < (k aw).seq) ∧
    ([] : List Nat).length < 2 ∧ ¬ [1, 2].length < 2 := by decide

theorem witness_FormatClearsResetsAndStores :
    let f : Format := { layout := geo, step := .clear, clearsOpen := [8192] }
    let g : Format := { layout := geo, step := .resets, resetsOpen := [63] }
    let h : Format := { layout := geo, step := .anchor }
    let at' (w : Work) (f : Format) :=
      inSlot 0 { cls := .a, work := w, cmd := .write 0 1 } (formatting f live)
    (∀ x ∈ [(Work.formatClear 8192 8192, f), (.formatReset 63, g), (.formatAnchor, h)],
      (at' x.1 x.2).sys.inReset = false ∧ (at' x.1 x.2).fmt = some x.2 ∧
      (at' x.1 x.2).port.slots.getD (0 : Fin 32) none =
        some { offer := { cls := .a, work := x.1, cmd := .write 0 1 } }) ∧
    f.clearsOpen = [8192] ∧ g.resetsOpen = [63] ∧ 2 ≤ h.layout.logLen ∧
    (∃ x ∈ { f with clearsOpen := [0, 8192] }.clearsOpen, x ≠ 8192) ∧ 8192 ∉ f.clearsRetried ∧
    8192 ∈ { f with clearsRetried := [8192] }.clearsRetried ∧ h.anchorErrors = 0 ∧
    { h with anchorErrors := 1 }.anchorErrors ≠ 0 ∧
    ({ live with win.dirPending := some { num := 3, code := 12 } } : Part).win.dirPending =
      some { num := 3, code := 12 } ∧
    (∃ x ∈ { g with resetsOpen := [0, 63] }.resetsOpen, x ≠ 0) ∧
    (let p := offering [{ cls := .a, work := .formatAnchor, cmd := .write 0 1 }] (formatting h live)
     p.sys.inReset = false ∧ p.fmt = some h ∧ p.sys.mode = .formatting ∧ p.port.linkUp = true ∧
     p.port.slots = List.replicate 32 none ∧
     p.port.offers = [{ cls := .a, work := .formatAnchor, cmd := .write 0 1 }]) := by decide

/-! ### Witnesses: the index, the chain, claims and encodings -/

/-- An extent that surrounds the new one, which is of one block. -/
theorem witness_InsertionReplacesWhatItOverlaps :
    let y : Extent := { start := 0, len := 3, kind := .data, seq := 1, lp := 1 }
    let x : Extent := { start := 1, len := 1, kind := .zero, seq := 2, lp := 0 }
    [y].Pairwise (fun a b => a.stop ≤ b.start) ∧ (∀ e ∈ [y], 1 ≤ e.len) ∧ 1 ≤ x.len ∧
    (x.start ≤ 1 ∧ 1 < x.stop) ∧ 0 < x.start ∧ x.stop ≤ 2 ∧
    ({ extents := [y] } : Index).lookup 0 = some y ∧ ({ extents := [y] } : Index).lookup 2 = some y ∧
    ({ extents := [y] } : Index).lookup 3 = none := by decide

theorem witness_SegmentsAndChainsCoverEveryOffset :
    let es := [zeroExt 1, { dataExt 1 with start := 16384 }]
    (pieces 3 5 5 = [(1, 2, 1), (2, 0, 3), (3, 0, 1)] ∧ (5 % 3 + 5 + 3 - 1) / 3 = 3 ∧
      pieces 1 0 1 = [(0, 0, 1)] ∧ pieces 1 0 0 = []) ∧
    0 < 16383 ∧ es.Pairwise (fun a b => a.stop ≤ b.start) ∧ (∀ e ∈ es, 1 ≤ e.len) ∧
    (∀ e ∈ es, 16383 + 0 < e.stop ∧ e.start < 16383 + 16383) ∧ (∀ e ∈ es, 16383 + 0 ≤ e.start) ∧
    (segsFrom geo { phys := some 0, f := 5 } 16383 6 0 es).map (·.kind) = [.zero, .log, .band, .beyondFill] ∧
    (chainFrom 16383 5 6 0 es).map (·.src) = [.zero, .log 1 1, .oldBand, .zero] := by decide

/-- A note at the discard floor whose band has a candidate, one below it, and one without a new band; a candidate at the
floor, and a marked one; two of one base, and two bases on either side of the tail seq. -/
theorem witness_ClaimsFollowTheLog :
    let c : Candidate := { p := 4, band := 0, base := 7, mark := false }
    let n : CommitNote := { band := 0, newBand := some 4, snapSeq := 7 }
    (7 ≤ n.snapSeq ∧ n.snapSeq < 8 ∧ n.newBand = some 4 ∧
      (resolveClaim 9 8 7 (some n) [c]).winner = some c ∧ (resolveClaim 9 8 7 (some n) []).winner = none) ∧
    ((resolveClaim 9 8 7 none [c]).winner = some c ∧
      (resolveClaim 9 8 7 none [{ c with mark := true }]).winner = some { c with mark := true } ∧
      (resolveClaim 8 8 7 none [{ c with mark := true }]).winner = none) ∧
    ({ n with snapSeq := 6 }.snapSeq < 7 ∧ { n with newBand := none }.newBand = none) ∧
    ((resolveClaim 7 9 7 none [{ c with base := 8 }, c]).winner = some c ∧
      (resolveClaim 9 9 7 none [c, { c with base := 8, p := 5 }]).winner = some { c with base := 8, p := 5 } ∧
      (resolveClaim 9 9 7 none [c, { c with p := 3 }]).winner = some { c with p := 3 }) := by decide

theorem witness_FramesStatusesDirectivesAndAnchorsReadBack :
    (wellFormed (.other 31 0xFF (List.replicate 16 0xFF) 3 0xFFFFFFFF) = true ∧
      (encodeFrame (.other 31 0xFF (List.replicate 16 0xFF) 3 0xFFFFFFFF)).isSome = true) ∧
    (∀ c : Byte, Directive.unknown 14 = .unknown c → c = 0 ∨ 13 < c.toNat) ∧
    ([1, 2] : List Byte).length = min (2 : BitVec 16).toNat 4080 ∧
    (let top : AnchorData :=
       { layout := { bandBlocks := 2 ^ 32 - 1, bands := 2 ^ 32 - 1, spares := 65535, conv := 2 ^ 64 - 1, logLen := 2 ^ 32 - 1 }
         logBase := 2 ^ 32 - 1, tail := 2 ^ 32 - 1, tailSeq := 2 ^ 48 - 1
         policy := { lowQ := 255, highQ := 255, hardQ := 255, gap := 65535, paceQ := 255, burst := 65535, contexts := 255,
                     timeout := 255 }
         disp := {}, enables := 0xFF
         ranges := List.replicate 8 { start := 2 ^ 64 - 1, length := 2 ^ 64 - 1, mode := .hold, fixed := true } }
     ∀ a ∈ [freshAnchor, top], a.layout.bandBlocks < 2 ^ 32 ∧ a.layout.bands < 2 ^ 32 ∧ a.layout.spares < 2 ^ 16 ∧
       a.layout.conv < 2 ^ 64 ∧ a.layout.logLen < 2 ^ 32 ∧ a.logBase < 2 ^ 32 ∧ a.tail < 2 ^ 32 ∧ a.tailSeq < 2 ^ 48 ∧
       (∀ v ∈ [a.policy.lowQ, a.policy.highQ, a.policy.hardQ, a.policy.paceQ, a.policy.contexts, a.policy.timeout],
         v < 2 ^ 8) ∧
       (∀ v ∈ [a.policy.gap, a.policy.burst], v < 2 ^ 16) ∧ a.ranges.length = 8 ∧
       (∀ e ∈ a.ranges, e.start < 2 ^ 64 ∧ e.length < 2 ^ 64) ∧ a.ranges[(7 : Fin 8).val]? = a.ranges.head?) := by
  refine ⟨by decide, ?_, by decide, by decide⟩
  intro c h
  cases h
  decide

/-- The greatest logical band and base seq; for each kind a record with every field at its greatest, a DATA record with its
data, and a COMMIT record with both bands absent. -/
theorem witness_BandAndRecordHeadersAreLaidOut :
    4294967295 < 2 ^ 32 ∧ 281474976710655 < 2 ^ 48 ∧
    (let top (k : RecKind) : Rec :=
       { seq := 2 ^ 48 - 1, pos := 0, len := 65535, kind := k, band := some (2 ^ 32 - 1), off := 2 ^ 32 - 1
         n := if k = .data then 65535 else 2 ^ 32 - 1, full := true, oldBand := some (2 ^ 32 - 2)
         newBand := some (2 ^ 32 - 2), snapSeq := 2 ^ 48 - 1, newFill := 2 ^ 32 - 1 }
     (∀ k ∈ [RecKind.data, .pad, .discard, .commit, .void], (top k).kind = k ∧ (top k).len < 2 ^ 16 ∧
       (top k).seq < 2 ^ 48 ∧ (top k).band = some (2 ^ 32 - 1) ∧ (top k).off < 2 ^ 32 ∧
       (top k).n < (if k = .data then 2 ^ 16 else 2 ^ 32) ∧ (top k).snapSeq < 2 ^ 48 ∧ (top k).newFill < 2 ^ 32 ∧
       (∀ x ∈ (top k).oldBand, x < 2 ^ 32 - 1) ∧ (∀ x ∈ (top k).newBand, x < 2 ^ 32 - 1)) ∧
     (∀ x ∈ ({ top .commit with oldBand := none } : Rec).oldBand, x < 2 ^ 32 - 1)) := by decide

theorem witness_EveryStepKeepsTheBounds :
    (∃ t, step ⟨live, [.tick]⟩ = .next t) ∧ live.sized ∧ live.bounded ∧ live.reasoned ∧
      live.reservedKept := by
  refine ⟨⟨_, rfl⟩, ⟨by decide, by decide, by decide, by decide⟩, ?_, ?_, ?_⟩
  · unfold Part.bounded
    decide
  · unfold Part.reasoned
    decide
  · intro k x _ h
    have hk : ((List.replicate 32 none).getD k none : Option Slot) = some x := h
    rw [List.getD_eq_getElem?_getD, List.getElem?_replicate] at hk
    split at hk <;> simp at hk

/-- Two extents that touch, and a record that inserts a third. -/
theorem witness_EveryStepKeepsTheIndexInOrder :
    let p := settling rec1 (indexed [dataExt 1, { dataExt 1 with start := 16384 }] live)
    (∃ t, step ⟨p, [.settlement]⟩ = .next t) ∧ p.indexOrdered ∧ p.idx.extents ≠ [] :=
  ⟨⟨_, rfl⟩, by unfold Part.indexOrdered; decide, by decide⟩

theorem witness_EveryStepCountsTheLogBlocks :
    let p := { settling rec1 live with log.occ := 2 }
    (∃ t, step ⟨p, [.settlement]⟩ = .next t) ∧ p.blocksCounted ∧ p.log.table ≠ [] :=
  ⟨⟨_, rfl⟩, by unfold Part.blocksCounted; decide, by decide⟩

theorem witness_EveryStepKeepsTheContextsSound :
    let p := counted 2 (onTag 4 { cid := 1, tag := 4, cls := .other, st := .referred } due)
    (∃ t, step ⟨p, [.writeDataBlock 0 []]⟩ = .next t) ∧ p.commandsSound ∧ p.ini.at 4 ≠ none :=
  ⟨⟨_, rfl⟩, sound_of rfl rfl (by decide +kernel), by decide⟩

/-! ### One step each, with expected values worked by hand from the tables of the spec -/

/-- The part after one command. -/
def after (c : Instr) (p : Part) : Part :=
  match step ⟨p, [c]⟩ with
  | .next s => s.part
  | _ => p

/-- R131, R6: the block past the window is OUT_OF_RANGE (5), its tag FREE. -/
theorem test_read_past_the_window :
    (after (.read 3 983236 1) live).ini.sent = [.status 3 .outOfRange] := by decide
/-- R19: an EMPTY band reads as zeros. -/
theorem test_read_of_an_empty_band :
    (after (.read 3 16383 2) live).ini.sent = [.data 3 [[], []], .status 3 .good] := by decide
/-- R11, R31: offset 5 of an EMPTY band: the free list's head, a gap of 5, pf 6, header first. -/
theorem test_write_allocates :
    let p := after (.writeDataBlock 0 [1]) (onTag 0 (writing 5 1) live)
    (p.bands.lband 0).phys = some 0 ∧ (p.bands.lband 0).pf = 6 ∧
      (p.bands.lband 0).queue.map (fun e => (e.start, e.gap, e.len)) = [(0, 5, 7)] ∧
      p.bands.free.take 1 = [1] := by decide
/-- R32, R112: band 63's write at block 0 is a DRIVE_WRITE at 65,536 + 63 x 16,384 of 1 + 0 + 1 blocks. -/
theorem test_append_is_offered :
    (after (.appendIssue 59) (appending append1 live)).port.offers.map (·.cmd) = [.write 1097728 2] := by decide
/-- R33: the fill of a first append with no gap and one block is 1. -/
theorem test_append_moves_the_fill :
    let o : Offer := { cls := .d, work := .append 59 63 0, cmd := .write 1097728 2, band := some (63, 0) }
    let p := after (.appendWriteComplete 0 .good)
      (inSlot 0 o (onPool 63 { writeOut := true } (appending { append1 with issued := true } live)))
    (p.bands.lband 59).f = 1 ∧ (p.bands.pband 63).wp = 2 ∧ (p.bands.pband 63).writeOut = false := by decide
/-- R12: 300 blocks make records of 128, 128 and 44. -/
theorem test_a_piece_of_300_blocks :
    (stagedEntries 0 2 10 300 0 0).map (fun e => (e.off, e.n)) = [(10, 128), (138, 128), (266, 44)] := by decide
/-- R13: with 1 block before the end of the log, a record of cost 2 goes to block 0 behind a PAD of 1. -/
theorem test_admission_pads :
    let e : HoldEntry := { kind := .data, band := 0, off := 0, n := 1, cid := 0, part := 0 }
    let p := after .admission { live with
      ini.hold := [e]
      log := { nextSeq := 5, head := 16383 } }
    p.log.table.map (fun r => (r.seq, r.pos, r.len, r.kind)) =
        [(5, 16383, 1, .pad), (6, 0, 2, .data)] ∧
      p.log.head = 2 ∧ p.log.occ = 3 ∧ p.log.nextSeq = 7 := by decide
/-- The worked case of section 4.8, by offsets of band 4: DATA [120, 130) in [100, 150), and at last DATA [110, 150)
over four extents. -/
theorem test_insertion :
    let e (a n : Nat) (k : ExtKind) (q lp : Nat) : Extent := { start := a, len := n, kind := k, seq := q, lp := lp }
    insertExtents [e 100 50 .data 1201 2001] (e 120 10 .data 1202 2052) =
        [e 100 20 .data 1201 2001, e 120 10 .data 1202 2052, e 130 20 .data 1201 2031] ∧
    insertExtents
        [e 100 20 .data 1201 2001, e 120 10 .data 1202 2052, e 130 10 .data 1201 2031, e 140 30 .zero 1203 0]
        (e 110 40 .data 1204 2064) =
      [e 100 10 .data 1201 2001, e 110 40 .data 1204 2064, e 150 20 .zero 1203 0] := by decide
/-- The worked case of section 1.9: offsets 590 to 605 of band 5 on physical band 12 with f = 600. -/
theorem test_segments :
    (segsFrom { bandBlocks := 16384, bands := 1024, spares := 8, conv := 270336, logLen := 16384 }
      { st := .filling, phys := some 12, f := 600 } 81915 606 590
      [{ start := 82507, len := 4, kind := .data, seq := 7010, lp := 3000 },
       { start := 82513, len := 2, kind := .zero, seq := 7044, lp := 0 }]).map (fun g => (g.kind, g.abs, g.n)) =
    [(.band, 467535, 2), (.log, 3008, 4), (.band, 467541, 2), (.zero, 0, 2), (.beyondFill, 0, 6)] := by decide
/-- R50, R71: the settlement of a record of log block 0 puts its block at log block 1. -/
theorem test_settlement :
    let p := after .settlement (logged [{ rec1 with st := .completed }] live)
    p.idx.extents = [dataExt 0] ∧ p.log.settled = 1 := by decide
/-- R54, R192: a failed VOID rewrite makes the part DEGRADED. -/
theorem test_void_failure_degrades :
    (after (.voidRewriteComplete 31 .mediumError)
      (inSlot 31 { cls := .a, work := .voidRewrite 1, cmd := .write 8 1 } (logged [rec1] live))).sys.mode =
        .degraded := by decide +kernel
/-- R54, R137: a command with the barrier record and a held one ends MEDIUM_ERROR, not READ_ONLY. -/
theorem test_barrier_decides_before_the_held_record :
    let p := { onTag 0 { writing 0 2 with st := .working, parts := [.pending, .pending] } (logged [rec1] live) with
      ini.hold := [{ kind := .data, band := 0, off := 1, n := 1, cid := 0, part := 1 }] }
    ((after (.voidRewriteComplete 31 .mediumError)
      (inSlot 31 { cls := .a, work := .voidRewrite 1, cmd := .write 8 1 } p)).ini.at 0).map (·.fail) =
        some (some .mediumError) := by decide +kernel
/-- R199, R208: the status of tag 31 with TAG_CONFLICT (7). -/
theorem test_status_bytes : (InitOut.status 31 .tagConflict).statusBytes = some [31, 7] := by decide
/-- R15: 12,288 blocks are T_high; R18: the credit is BURST. -/
theorem test_level_at_t_high :
    ({ live with log := { occ := 12288 } } : Part).evalLevel.pace = { level := .pressure, credit := 2048 } := by
  decide
/-- The worked case "pacing remainder" of section 1.9. -/
theorem test_pacing :
    creditFreed 3 10 {} = { credit := 7, rem := 2 } ∧
    creditFreed 3 6 { credit := 7, rem := 2 } = { credit := 12, rem := 0 } ∧
    creditFreed 3 10 { credit := 65530 } = { credit := 65535, rem := 2 } := by decide
/-- The worked case of section 5.10: the chain of band 6 at f = 500, f' = 640. -/
theorem test_chain :
    (chainFrom 98298 500 640 0
      [{ start := 98398, len := 10, kind := .data, seq := 3001, lp := 4001 },
       { start := 98498, len := 20, kind := .zero, seq := 3005, lp := 0 },
       { start := 98898, len := 40, kind := .data, seq := 3010, lp := 4100 }]).map (fun m => (m.src, m.off, m.n)) =
    [(.oldBand, 0, 100), (.log 4001 3001, 100, 10), (.oldBand, 110, 90), (.zero, 200, 20), (.oldBand, 220, 280),
     (.zero, 500, 100), (.log 4100 3010, 600, 40)] := by decide
/-- R97: the second unit of 300 blocks and a header has 45. -/
theorem test_units :
    ({ newFill := 300 } : MergeCtx).unitLen 0 = 256 ∧ ({ newFill := 300 } : MergeCtx).unitLen 1 = 45 := by decide
/-- R132, R160, R180: after RESTART the working copy stays, and the defaults are in force. -/
theorem test_restart_keeps_the_settings :
    let p := after (.restart 0 1) { due with cfg.policy.timeout := 7, cfg.disp.other := .pass }
    p.cfg.policy.timeout = 7 ∧ p.cfg.disp.other = .pass ∧ p.cfg.timeoutInForce = 50 ∧
      p.cfg.dispInForce.other = .reject := by decide
/-- R84, R179: in DEGRADED a COMMIT whose write is in flight holds no RESTART back. -/
theorem test_restart_with_a_commit_in_flight :
    let r : Rec := { seq := 1, pos := 0, len := 1, kind := .commit, origin := .merge 1, st := .issued }
    (after (.restart 0 1) (inMode .degraded (onCtx 1 { st := .commit } (logged [r] due)))).sys.mode = .mounting := by
  decide
/-- R176: quanta below 16, T = 0 and contexts = 9 are clamped. -/
theorem test_set_policy_clamps :
    (after (.setPolicy 0 1 0 100 255 5000 0 7 9 0) due).cfg.policy =
      { lowQ := 16, highQ := 100, hardQ := 248, gap := 4096, paceQ := 1, burst := 7, contexts := 2,
        timeout := 1 } := by decide
/-- R154: a length past E x D is clamped to what is left. -/
theorem test_set_range_clamps :
    (after (.setRange 0 1 7 1 1 982970 50) due).ret.entries[7]? =
      some { start := 982970, length := 10, mode := .observe, fixed := true } := by decide
/-- R154, R208: index 8 is INVALID (3); R200: 3 is the code of SET_RANGE. -/
theorem test_set_range_index_8 :
    (after (.setRange 0 77 8 1 0 0 1) due).win.responses =
      [{ num := 77, code := 3, result := .invalid }] := by decide
/-- R154, R201: a mode byte of 3 on a range that is not fixed is INVALID; on a fixed one it is that or PROTECTED, which the
manual leaves open (notes/assumptions/35.md). -/
theorem test_set_range_mode_3 :
    let p := { due with ret.entries := due.ret.entries.set 7 { fixed := true } }
    let answers (index : Byte) := (p.dirSetRange 77 index 3 0 0 1).win.responses.map (·.result)
    answers 0 = [.invalid] ∧ (answers 7 = [.prot] ∨ answers 7 = [.invalid]) := by
  refine ⟨by decide, ?_⟩
  change (Part.respond _ 77 3 (if Config.fixedBeforeMode then .prot else .invalid) []).win.responses.map _ = _ ∨
    (Part.respond _ 77 3 (if Config.fixedBeforeMode then .prot else .invalid) []).win.responses.map _ = _
  cases Config.fixedBeforeMode <;> decide
/-- R134, the worked case of section 7.3: with 1,084 frames free the READ of 1,000 blocks and the WRITE of 8 behind it are
taken at one event, and 76 frames are left. -/
theorem test_both_heads_are_taken :
    let r : Cmd := { cid := 1, tag := 2, cls := .read, count := 1000, st := .waiting }
    let w : Cmd := { cid := 2, tag := 7, cls := .write, lba := 5000, count := 8, st := .waiting }
    let p := onTag 1 { writing 9000 1024 with cid := 3, tag := 1, frames := 15300 } (onTag 2 r (onTag 7 w
      (onBand 0 { st := .filling, phys := some 0, f := 1000, pf := 1000 } live)))
    let s := after .acceptQueueTake { p with ini.accept := [2, 7] }
    (s.ini.at 2).map (·.st) = some .working ∧ (s.ini.at 7).map (·.st) = some .receiving ∧ s.ini.accept = [] ∧
      s.ini.freeFrames = 76 := by decide
/-- R204: QUERY of block 1 of an EMPTY band: L 0, state 0, no band, f 0, pf 0, no extent. -/
theorem test_query :
    (after (.query 0 9 1) due).win.responses.map (·.data) =
      [[0, 0, 0, 0] ++ [0] ++ [255, 255, 255, 255] ++ [0, 0, 0, 0] ++ [0, 0, 0, 0] ++ [0] ++
        List.replicate 10 255] := by decide
/-- R168: a block of page 2 that carries code 14 is INVALID and stays as the echo. -/
theorem test_directive_block :
    let p := after (.writeDataBlock 0 [7, 0, 0, 0, 14]) due
    p.win.responses = [{ num := 7, code := 14, result := .invalid }] ∧ p.win.echo = [7, 0, 0, 0, 14] ∧
      p.ini.sent = [.status 0 .good] := by decide
/-- R202: ACTIVE is 2 at offset 0, LOG_LEN 16,384 at 8, next seq 1 at 24, 64 free bands at 38, no class
pending at 95. -/
theorem test_status_page :
    byteAt live.statusBytes 0 = 2 ∧ field live.statusBytes 8 4 = 16384 ∧ field live.statusBytes 24 6 = 1 ∧
      field live.statusBytes 38 4 = 64 ∧ byteAt live.statusBytes 95 = 0xFF := by decide
/-- R203: REFUSED (kind 12) of band 2, count 5, index 1: mask 1101. -/
theorem test_event_bytes :
    ({ num := 3, kind := .refused, band := some 2, count := some 5, code := some 1 } : Event).bytes =
      [3, 0, 12, 13] ++ [2, 0, 0, 0] ++ [255, 255, 255, 255] ++ [5, 0, 0, 0, 0, 0] ++ [1, 0] := by decide
/-- The worked case of section 6.8: slots 0 to 26 busy; the slots granted to W, c1, c2, d1 and e1 to e5 at RECLAIM and
at PRESSURE. -/
theorem test_grants_at_two_levels :
    let o (k : ArbClass) (n : Nat) : Offer := { cls := k, work := .fgRead n 0, cmd := .read n 1 }
    let p (l : Level) := { offering [o .a 1, o .c 2, o .c 3, o .d 4, o .e 5, o .e 6, o .e 7, o .e 8, o .e 9] live with
      pace.level := l
      port.slots := List.replicate 27 (some { offer := readOffer }) ++ List.replicate 5 none }
    (after .driveGrant (p .reclaim)).port.sent.map (fun d => (d.slot, d.cmd)) =
      [(28, .read 1 1), (27, .read 2 1), (29, .read 5 1), (30, .read 6 1), (31, .read 7 1)] ∧
    (after .driveGrant (p .pressure)).port.sent.map (fun d => (d.slot, d.cmd)) =
      [(28, .read 1 1), (29, .read 5 1), (30, .read 6 1), (31, .read 7 1), (27, .read 8 1)] := by decide
/-- R105, section 10.6: MERGE_ABANDONED is numbered ahead of BAND_FAULTED. -/
theorem test_merge_read_error :
    (after (.mergeReadComplete 31 .mediumError [])
      (inSlot 31 { cls := .e, work := .mergeRead 1 0 256, cmd := .read 1097729 256, pin := some (.band 63) }
        (onCtx 1 { copying with reads := [(0, 256)] } live))).win.events.map (fun e => (e.num, e.kind)) =
      [(0, .mergeAbandoned), (1, .bandFaulted)] := by decide
/-- R15, R60: in FORMATTING, O falls from 12,290 to T_high = 12,288, and the level goes from NORMAL to PRESSURE. -/
theorem test_level_in_formatting :
    let w : AnchorWrite := { tail := 2, tailSeq := 2, block := [] }
    let p := after (.anchorWriteComplete 28 .good)
      { inSlot 28 { cls := .a, work := .anchor, cmd := .write 0 1 } (inMode .formatting live) with
        log := { nextSeq := 9, occ := 12290, table := [{ rec1 with st := .reclaimed }], anchor := { flight := some w } } }
    p.log.occ = 12288 ∧ p.pace.level = .pressure ∧ p.win.events.map (·.kind) = [.levelChange] := by decide
/-- R162: a referral that ends LATE is ABORTED and its id expires. -/
theorem test_referral_ends :
    let p := after (.referralExpiryLate 1)
      (referring [referral 1 .late 0] (onTag 4 { cid := 0, tag := 4, cls := .other, st := .referred } live))
    p.ini.sent = [.status 4 .aborted] ∧ p.ref.expired = [1] ∧ p.ref.queue = [] := by decide
/-- R183, R191: CR one block short of 16,392 halts the part. -/
theorem test_geometry_mismatch :
    (after (.driveIdentifyComplete 0 .good 64 16384 16391 [] [])
      (inSlot 0 { cls := .f, work := .mountIdentify, cmd := .identify }
        (mounting { phase := .identify } live))).sys.halt = .geometryMismatch := by decide
end Sys2Proof.Tests
end

section
/-! The split of a STAGED piece into hold-queue entries (R12): a closed form of `stagedEntries`, and the cost of its
entries. -/

namespace Sys2Proof.Machine

/-- Record `i` of the STAGED piece of `n` blocks at offset `o` of band `l` (R12). -/
def stagedRecord (cid l o n part first i : Nat) : HoldEntry :=
  { kind := .data, band := l, off := o + 128 * i, n := min 128 (n - 128 * i), cid := cid, part := part + i,
    first := first + 128 * i }

@[simp] theorem HoldEntry.cost_of_discard {e : HoldEntry} (h : e.kind = .discard) : e.cost = 1 := by
  simp [HoldEntry.cost, h]

@[simp] theorem stagedRecord_cost (cid l o n part first i : Nat) :
    (stagedRecord cid l o n part first i).cost = 1 + min 128 (n - 128 * i) := rfl

/-- What is left after the first record splits into the piece's own records, from its second on. -/
theorem stagedRecord_rest {n i : Nat} (hi : i < (n - min 128 n + 127) / 128) (cid l o part first : Nat) :
    stagedRecord cid l (o + min 128 n) (n - min 128 n) (part + 1) (first + min 128 n) i =
      stagedRecord cid l o n part first (i + 1) := by
  have hk : min 128 n = 128 := by omega
  simp only [stagedRecord, hk, HoldEntry.mk.injEq, true_and]
  omega

/-- With fuel for all of its blocks, a piece splits into `⌈n / 128⌉` records. -/
theorem splitPiece_eq_map_range {fuel n : Nat} (hfuel : n ≤ 128 * fuel) (cid l o part first : Nat) :
    splitPiece cid l fuel o n part first =
      (List.range ((n + 127) / 128)).map (stagedRecord cid l o n part first) := by
  induction fuel generalizing n o part first with
  | zero =>
    obtain rfl : n = 0 := by omega
    rfl
  | succ fuel ih =>
    by_cases hn : n = 0
    · subst hn
      rfl
    · have hrest : n - min 128 n ≤ 128 * fuel := by omega
      have hcount : (n + 127) / 128 = (n - min 128 n + 127) / 128 + 1 := by omega
      rw [splitPiece, if_neg hn, hcount, List.range_succ_eq_map, List.map_cons, List.map_map]
      refine congrArg₂ List.cons rfl ((ih hrest ..).trans (List.map_congr_left fun i hi => ?_))
      exact stagedRecord_rest (List.mem_range.mp hi) ..

theorem stagedEntries_eq_map_range (cid l o n part first : Nat) :
    stagedEntries cid l o n part first =
      (List.range ((n + 127) / 128)).map (stagedRecord cid l o n part first) :=
  splitPiece_eq_map_range (by rw [Config.recordData]; omega) ..

@[simp] theorem stagedEntries_length (cid l o n part first : Nat) :
    (stagedEntries cid l o n part first).length = (n + 127) / 128 := by
  simp [stagedEntries_eq_map_range]

theorem stagedEntries_getElem? {n i : Nat} (hi : i < (n + 127) / 128) (cid l o part first : Nat) :
    (stagedEntries cid l o n part first)[i]? = some (stagedRecord cid l o n part first i) := by
  simp [stagedEntries_eq_map_range, hi]

/-- An entry of a STAGED piece is one of its records that starts inside the piece. -/
theorem mem_stagedEntries {cid l o n part first : Nat} {e : HoldEntry} :
    e ∈ stagedEntries cid l o n part first ↔ ∃ i, 128 * i < n ∧ stagedRecord cid l o n part first i = e := by
  have hlt (i : Nat) : i < (n + 127) / 128 ↔ 128 * i < n := by omega
  simp [stagedEntries_eq_map_range, hlt]

/-- Settles O27: the clauses are read off the closed form of `stagedEntries`. -/
theorem stagedPieceSplitsInto128BlockRecords : Obligations.StagedPieceSplitsInto128BlockRecords := by
  intro cid l o n part first _
  refine ⟨stagedEntries_length .., fun i hi => stagedEntries_getElem? hi .., ?cost, fun hn => ⟨?count, ?range⟩,
    fun e => HoldEntry.cost_of_discard⟩
  case cost =>
    intro e he
    obtain ⟨i, -, rfl⟩ := mem_stagedEntries.mp he
    rfl
  case count =>
    rw [stagedEntries_length]
    omega
  case range =>
    intro e he
    obtain ⟨i, hi, rfl⟩ := mem_stagedEntries.mp he
    rw [stagedRecord_cost]
    omega

end Sys2Proof.Machine
end

section
/-! The window WRITE that carries a directive, CLEAR_FLAGS (R153, R177), and the HOLD refusal that follows it (R150,
R152). -/

namespace Sys2Proof.Machine

/-! ### A block of a window WRITE is counted -/

/-- Counting a block of a window WRITE (R167) changes the initiator's state alone. -/
theorem Part.windowTaken_eq (s : Part) (tag : Nat) :
    s.windowTaken tag = { s with ini := (s.windowTaken tag).ini } := by
  unfold Part.windowTaken
  split
  · rfl
  · dsimp only
    split <;> rfl

@[simp] theorem Part.windowTaken_sys (s : Part) (tag : Nat) : (s.windowTaken tag).sys = s.sys := by
  rw [s.windowTaken_eq]
@[simp] theorem Part.windowTaken_ret (s : Part) (tag : Nat) : (s.windowTaken tag).ret = s.ret := by
  rw [s.windowTaken_eq]
@[simp] theorem Part.windowTaken_win (s : Part) (tag : Nat) : (s.windowTaken tag).win = s.win := by
  rw [s.windowTaken_eq]
@[simp] theorem Part.windowTaken_log (s : Part) (tag : Nat) : (s.windowTaken tag).log = s.log := by
  rw [s.windowTaken_eq]
@[simp] theorem Part.windowTaken_port (s : Part) (tag : Nat) : (s.windowTaken tag).port = s.port := by
  rw [s.windowTaken_eq]

/-! ### CLEAR_FLAGS -/

@[simp] theorem Window.respond_pending (w : Window) (num : BitVec 32) (code : Byte) (r : Result)
    (data : List Byte) : (w.respond num code r data).pending = w.pending := rfl

@[simp] theorem Part.dirClearFlags_latch (s : Part) (num : BitVec 32) :
    (s.dirClearFlags num).ret.latch = none := rfl
@[simp] theorem Part.dirClearFlags_more (s : Part) (num : BitVec 32) :
    (s.dirClearFlags num).ret.more = false := rfl

/-- An activity flag says nothing of the blocks an entry covers, so the HOLD entry a command touches (R150) is the
same after CLEAR_FLAGS. -/
@[simp] theorem Part.dirClearFlags_held (s : Part) (num : BitVec 32) (a n : Nat) :
    (s.dirClearFlags num).ret.held a n = s.ret.held a n := by
  simp only [Part.dirClearFlags, Part.respond, Retention.held, List.findIdx?_map]
  rfl

/-- CLEAR_FLAGS is taken in every mode but MOUNTING, a directive pending or not (R174). -/
theorem exec_clearFlags_taken {p : Part} (q : List Instr) {tag : Fin 32} (num : BitVec 32)
    (hreset : p.sys.inReset = false) (hpage : p.ini.windowPage tag = some 2) (hmode : p.sys.mode ≠ .mounting) :
    exec (.clearFlags tag num) ⟨p, q⟩ =
      .next ⟨(({ p with win.echo := encodeDirective num .clearFlags } : Part).dirClearFlags num).windowTaken tag,
        q⟩ := by
  rw [exec_clearFlags, State.act_directiveRow p q tag num .clearFlags hreset hpage,
    Part.takeDirective_applied _ num .clearFlags rfl (by simp [Directive.allowedIn, hmode]) (.inl rfl)]
  rfl

/-! ### The HOLD refusal of a WRITE -/

/-- A HOLD refusal that finds the latch empty fills it, raises REFUSED, and sends its status (R150, R152). -/
theorem Part.retention_latches {s : Part} {tag a n i : Nat} (cls : Cls) (f : Part → Part)
    (hheld : s.ret.held a n = some i) (hlatch : s.ret.latch = none) :
    s.retention tag cls a n f =
      (({ s with
          ret.entries := s.ret.entries.map fun (e : RangeEntry) => e.observe a n
          ret.latch := some { tag := tag, cls := cls, lba := a, count := n, index := i } } : Part).raise
        .refused (some .protection) (some (a / s.sys.layout.dataBlocks)) none (some n) (some i)).refuse
        tag .prot := by
  unfold Part.retention
  simp only [Retention.held_observe, hheld]
  simp only [Part.latchRefusal, hlatch]

/-- A WRITE frame on a FREE tag that passes the limits of R6 in ACTIVE is decided by the ranges (R130). -/
theorem Part.writeFrame_retention {s : Part} {tag a n : Nat} (hfree : s.ini.at tag = none)
    (hmode : s.sys.mode = .active) (hpass : s.rangeCheck .write a n = .pass) :
    s.writeFrame tag a n = s.retention tag .write a n fun s =>
      s.acceptFrame { cid := 0, tag := tag, cls := .write, lba := a, count := n } := by
  simp [Part.writeFrame, Part.tagged, hfree, hpass, hmode]

/-- In ACTIVE a transfer of 1 to 1,024 blocks below E x D passes the limits (R5, R6). -/
theorem Part.rangeCheck_pass_active {s : Part} (cls : Cls) {a n : Nat} (hmode : s.sys.mode = .active)
    (hone : 1 ≤ n) (hmax : n ≤ 1024)
    (hend : a + n ≤ (s.sys.layout.bands - s.sys.layout.spares) * (s.sys.layout.bandBlocks - 1)) :
    s.rangeCheck cls a n = .pass := by
  have hmounted : s.mounted = true := by simp [Part.mounted, hmode]
  exact s.rangeCheck_pass cls a n hmounted hone (.inl hmax) (by rwa [s.logBlocks_mounted hmounted])

/-- Settles O19: the state CLEAR_FLAGS leaves has an empty latch and the ranges of the state before, so the next WRITE on
a HOLD range is the first refusal. -/
theorem clearFlagsEmptiesTheLatch : Obligations.ClearFlagsEmptiesTheLatch := by
  intro p q tag num hreset hpage hmode t
  have ht : t = (({ p with win.echo := encodeDirective num .clearFlags } : Part).dirClearFlags num).windowTaken
      tag := rfl
  have hsys : t.sys = p.sys := by rw [ht, Part.windowTaken_sys]; rfl
  have hlatch : t.ret.latch = none := by simp [ht]
  have hmore : t.ret.more = false := by simp [ht]
  refine ⟨exec_clearFlags_taken q num hreset hpage hmode, by simp [t], by simp [t], by simp [t],
    fun k lba count i hfree hactive hone hmax hend hheld => ?_⟩
  have hheld' : t.ret.held lba.toNat count.toNat = some i := by simpa [ht] using hheld
  rw [← hsys] at hreset hactive hend ⊢
  have hpass := t.rangeCheck_pass_active .write hactive hone hmax hend
  refine ⟨t.writeFrame k lba.toNat count.toNat, State.act_awake _ hreset, ?_⟩
  rw [Part.writeFrame_retention hfree hactive hpass, Part.retention_latches .write _ hheld' hlatch]
  exact ⟨rfl, hmore, rfl, rfl⟩

end Sys2Proof.Machine
end

section
/-! The headers on the drive (R196, R197): every field stands where its table puts it, the check value closes the
header, and mount reads back what was written. -/

namespace Sys2Proof.Machine

/-! ### A field of a concatenation

A layout is a chain of `++`; these rules find the piece an offset falls in. -/

section Concatenation

variable {a b : List Byte} {off w : Nat}

theorem byteAt_append_left (h : off < a.length) : byteAt (a ++ b) off = byteAt a off :=
  List.getD_append a b 0 off h

theorem byteAt_append_right (h : a.length ≤ off) : byteAt (a ++ b) off = byteAt b (off - a.length) :=
  List.getD_append_right a b 0 off h

theorem bytesAt_append_left (h : off + w ≤ a.length) : bytesAt (a ++ b) off w = bytesAt a off w :=
  List.map_congr_left fun _ hk => byteAt_append_left (by have := List.mem_range.mp hk; omega)

theorem bytesAt_append_right (h : a.length ≤ off) : bytesAt (a ++ b) off w = bytesAt b (off - a.length) w :=
  List.map_congr_left fun k _ => by rw [byteAt_append_right (by omega), Nat.sub_add_comm h]

theorem bytesAt_whole (h : w = a.length) : bytesAt a 0 w = a := by
  simpa using bytesAt_append [] a [] 0 w rfl h

theorem field_append_left (h : off + w ≤ a.length) : field (a ++ b) off w = field a off w :=
  congrArg leNat (bytesAt_append_left h)

theorem field_append_right (h : a.length ≤ off) : field (a ++ b) off w = field b (off - a.length) w :=
  congrArg leNat (bytesAt_append_right h)

theorem field_cons (x : Byte) (h : 1 ≤ off) : field (x :: b) off w = field b (off - 1) w :=
  field_append_right (a := [x]) h

end Concatenation

@[simp] theorem byteAt_cons_zero (x : Byte) (b : Block) : byteAt (x :: b) 0 = x := rfl

theorem field_le {w x : Nat} (h : x < 256 ^ w) : field (le w x) 0 w = x := by
  rw [field, bytesAt_whole (le_length w x).symm, leNat_le_of_lt w x h]

@[simp] theorem field_one (b : Block) (off : Nat) : field b off 1 = (byteAt b off).toNat := by
  simp [field, bytesAt, leNat]

/-! ### Fields that may be absent (R195) -/

@[simp] theorem leOpt_length (w : Nat) (o : Option Nat) : (leOpt w o).length = w := by
  cases o <;> simp [leOpt, absent]

/-- An absent field of 4 bytes spells the greatest number of 4 bytes. -/
theorem field_leOpt {o : Option Nat} (h : ∀ x ∈ o, x < 2 ^ 32 - 1) :
    field (leOpt 4 o) 0 4 = o.getD 0xFFFFFFFF := by
  cases o with
  | none => decide
  | some x => exact field_le (Nat.lt_of_lt_of_le (h x rfl) (by decide))

theorem optField_of_field {b : Block} {off : Nat} {o : Option Nat} (hb : field b off 4 = o.getD 0xFFFFFFFF)
    (h : ∀ x ∈ o, x < 2 ^ 32 - 1) : optField b off 4 = o := by
  rw [optField, hb]
  cases o with
  | none => rfl
  | some x => exact if_neg (Nat.ne_of_lt (h x rfl))

/-! ### Sealed headers (R65) -/

theorem field_sealed {hdr : List Byte} {off w : Nat} (data : List Block) (h : off + w ≤ hdr.length)
    (hfit : hdr.length + 4 ≤ blockBytes) : field (sealed hdr data) off w = field hdr off w :=
  congrArg leNat (bytesAt_sealed hdr data off w h hfit)

/-- The check value follows the header's bytes and is taken over them and the data blocks. -/
theorem field_sealed_check {hdr : List Byte} (data : List Block) (hfit : hdr.length + 4 ≤ blockBytes) :
    field (sealed hdr data) hdr.length 4 =
      (checkValue (bytesAt (sealed hdr data) 0 hdr.length ++ data.flatMap fullBlock)).toNat :=
  beq_iff_eq.mp (checkMatches_sealed hdr data hfit)

/-- A sealed header is zero after its check value. -/
theorem byteAt_sealed_rest {hdr : List Byte} (data : List Block) (hfit : hdr.length + 4 ≤ blockBytes) {k : Nat}
    (hk : hdr.length + 4 ≤ k) : byteAt (sealed hdr data) k = 0 := by
  rw [sealed, byteAt_toBlock _ _ (by simpa using hfit), List.getD_eq_default _ _ (by simpa using hk)]

@[simp] theorem flagByte_beq_one (b : Bool) : (flagByte b == 1#8) = b := by cases b <;> rfl

@[simp] theorem flagByte_zero_or_one (b : Bool) : flagByte b = 0#8 ∨ flagByte b = 1#8 := by
  cases b <;> simp [flagByte]

/-! ### The band header (R30, R196) -/

/-- The band header up to its check value. -/
def bandPrefix (l base : Nat) (mark : Bool) : List Byte := sigBand ++ le 4 l ++ le 6 base ++ [flagByte mark]

theorem bandHeader_eq_sealed (l base : Nat) (mark : Bool) :
    bandHeader l base mark = sealed (bandPrefix l base mark) [] := rfl

@[simp] theorem sigBand_length : sigBand.length = 8 := by decide

@[simp] theorem bandPrefix_length (l base : Nat) (mark : Bool) : (bandPrefix l base mark).length = 19 := by
  simp [bandPrefix]

section BandHeader

variable (l base : Nat) (mark : Bool)

theorem bandHeader_signature : bytesAt (bandHeader l base mark) 0 8 = sigBand := by
  rw [bandHeader_eq_sealed, bytesAt_sealed _ _ _ _ (by simp) (by simp [blockBytes])]
  simp [bandPrefix, bytesAt_append_left, bytesAt_whole]

theorem bandHeader_band (h : l < 2 ^ 32) : field (bandHeader l base mark) 8 4 = l := by
  rw [bandHeader_eq_sealed, field_sealed _ (by simp) (by simp [blockBytes])]
  simp [bandPrefix, field_append_left, field_append_right, field_le (w := 4) h]

theorem bandHeader_base (h : base < 2 ^ 48) : field (bandHeader l base mark) 12 6 = base := by
  rw [bandHeader_eq_sealed, field_sealed _ (by simp) (by simp [blockBytes])]
  simp [bandPrefix, field_append_left, field_append_right, field_le (w := 6) h]

theorem bandHeader_mark : byteAt (bandHeader l base mark) 18 = flagByte mark := by
  rw [bandHeader_eq_sealed, byteAt_sealed _ _ _ (by simp) (by simp [blockBytes])]
  simp [bandPrefix, byteAt_append_right]

theorem bandHeader_check : field (bandHeader l base mark) 19 4 =
    (checkValue (bytesAt (bandHeader l base mark) 0 19)).toNat := by
  simpa [bandHeader_eq_sealed] using field_sealed_check (hdr := bandPrefix l base mark) [] (by simp [blockBytes])

theorem bandHeader_rest {k : Nat} (hk : 23 ≤ k) : byteAt (bandHeader l base mark) k = 0 :=
  byteAt_sealed_rest (hdr := bandPrefix l base mark) [] (by simp [blockBytes]) (by simpa using hk)

theorem bandHeader_checkMatches : checkMatches (bandHeader l base mark) 19 [] = true := by
  simpa [bandHeader_eq_sealed] using checkMatches_sealed (bandPrefix l base mark) [] (by simp [blockBytes])

theorem parseBandHeader_bandHeader (hl : l < 2 ^ 32) (hbase : base < 2 ^ 48) :
    parseBandHeader (bandHeader l base mark) = some (l, base, mark) := by
  simp [parseBandHeader, bandHeader_signature, bandHeader_checkMatches, bandHeader_mark, bandHeader_band _ _ _ hl,
    bandHeader_base _ _ _ hbase]

end BandHeader

/-! ### The record header (R43, R197) -/

@[simp] theorem sigRecord_length : sigRecord.length = 8 := by decide

/-- The part of a record's header that every kind has. -/
def recordStart (r : Rec) : List Byte :=
  sigRecord ++ [BitVec.ofNat 8 (recKindNum r.kind)] ++ le 2 r.len ++ le 6 r.seq

theorem recordPrefix_eq_append (r : Rec) : recordPrefix r = recordStart r ++ recordFields r := rfl

@[simp] theorem recordStart_length (r : Rec) : (recordStart r).length = 17 := by simp [recordStart]

theorem recordPrefix_length (r : Rec) : (recordPrefix r).length = checkOffset r.kind := by
  cases h : r.kind <;> simp [recordPrefix_eq_append, recordFields, checkOffset, h]

theorem recordPrefix_fits (r : Rec) : (recordPrefix r).length + 4 ≤ blockBytes := by
  rw [recordPrefix_length]
  cases r.kind <;> decide

section RecordHeader

variable (r : Rec) (data : List Block) {off w : Nat}

theorem bytesAt_recordHeader_start (h : off + w ≤ 17) :
    bytesAt (recordHeader r data) off w = bytesAt (recordStart r) off w := by
  rw [recordHeader, bytesAt_sealed _ _ _ _ (by simp [recordPrefix_eq_append]; omega) (recordPrefix_fits r),
    recordPrefix_eq_append, bytesAt_append_left (by simpa)]

theorem field_recordHeader_start (h : off + w ≤ 17) :
    field (recordHeader r data) off w = field (recordStart r) off w :=
  congrArg leNat (bytesAt_recordHeader_start r data h)

/-- The fields of the kind follow the seq. -/
theorem field_recordHeader_fields (hstart : 17 ≤ off) (hend : off + w ≤ checkOffset r.kind) :
    field (recordHeader r data) off w = field (recordFields r) (off - 17) w := by
  rw [recordHeader, field_sealed _ (by rwa [recordPrefix_length]) (recordPrefix_fits r),
    recordPrefix_eq_append, field_append_right (by simpa), recordStart_length]

theorem byteAt_recordHeader_fields (hstart : 17 ≤ off) (hend : off < checkOffset r.kind) :
    byteAt (recordHeader r data) off = byteAt (recordFields r) (off - 17) := by
  rw [recordHeader, byteAt_sealed _ _ _ (by rwa [recordPrefix_length]) (recordPrefix_fits r),
    recordPrefix_eq_append, byteAt_append_right (by simpa), recordStart_length]

@[simp] theorem recordHeader_signature : bytesAt (recordHeader r data) 0 8 = sigRecord := by
  rw [bytesAt_recordHeader_start _ _ (by decide)]
  simp [recordStart, bytesAt_append_left, bytesAt_whole]

theorem recordHeader_kind : byteAt (recordHeader r data) 8 = BitVec.ofNat 8 (recKindNum r.kind) := by
  rw [recordHeader, byteAt_sealed _ _ _ (by simp [recordPrefix_eq_append]; omega) (recordPrefix_fits r),
    recordPrefix_eq_append, byteAt_append_left (by simp)]
  simp [recordStart, byteAt_append_right]

theorem recordHeader_len (h : r.len < 2 ^ 16) : field (recordHeader r data) 9 2 = r.len := by
  rw [field_recordHeader_start _ _ (by decide)]
  simp [recordStart, field_append_left, field_append_right, field_cons, field_le (w := 2) h]

theorem recordHeader_seq (h : r.seq < 2 ^ 48) : field (recordHeader r data) 11 6 = r.seq := by
  rw [field_recordHeader_start _ _ (by decide)]
  simp [recordStart, field_append_right, field_cons, field_le (w := 6) h]

/-- The check value stands at the kind's offset, over the bytes before it and the data blocks; zeros follow. -/
theorem recordHeader_check :
    field (recordHeader r data) (checkOffset r.kind) 4 =
        (checkValue (bytesAt (recordHeader r data) 0 (checkOffset r.kind) ++ data.flatMap (fit 4096 0))).toNat ∧
      ∀ k, checkOffset r.kind + 4 ≤ k → byteAt (recordHeader r data) k = 0 := by
  rw [← recordPrefix_length]
  exact ⟨field_sealed_check data (recordPrefix_fits r), fun _ => byteAt_sealed_rest data (recordPrefix_fits r)⟩

end RecordHeader

/-! ### The fields of each kind, and the reading of them at mount (R187) -/

theorem recordHeader_kindNum (r : Rec) (data : List Block) : field (recordHeader r data) 8 1 = recKindNum r.kind := by
  rw [field_one, recordHeader_kind]
  cases r.kind <;> rfl

@[simp] theorem recKindOf_recordHeader (r : Rec) (data : List Block) :
    recKindOf (byteAt (recordHeader r data) 8) = some r.kind := by
  rw [recordHeader_kind]
  cases r.kind <;> rfl

/-- What the header of every record says, whatever its kind: its seq, its length and its kind, at the position it is
read from. -/
def Rec.common (r : Rec) : Rec := { seq := r.seq, pos := r.pos, len := r.len, kind := r.kind }

section Kinds

variable {r : Rec} {data : List Block} {l : Nat}

/-- A record whose kind has no fields of its own reads back as its seq, length and kind. -/
theorem parseRecord_bare (hlen : r.len < 2 ^ 16) (hseq : r.seq < 2 ^ 48) (hk : r.kind = .pad ∨ r.kind = .void) :
    parseRecord (recordHeader r data) r.pos = some r.common := by
  obtain hk | hk := hk <;>
    simp [parseRecord, Rec.common, recordHeader_len r data hlen, recordHeader_seq r data hseq, hk]

theorem dataHeader_fields (hk : r.kind = .data) (hband : r.band = some l) (hl : l < 2 ^ 32) (hoff : r.off < 2 ^ 32)
    (hn : r.n < 2 ^ 16) :
    field (recordHeader r data) 17 4 = l ∧ field (recordHeader r data) 21 4 = r.off ∧
      field (recordHeader r data) 25 2 = r.n := by
  have hcheck : checkOffset r.kind = 27 := by rw [hk]; rfl
  have hfields : recordFields r = le 4 l ++ (le 4 r.off ++ le 2 r.n) := by simp [recordFields, hk, hband, leOpt]
  refine ⟨?band, ?off, ?n⟩ <;> rw [field_recordHeader_fields _ _ (by decide) (by omega), hfields]
  case band => simp [field_append_left, field_le (w := 4) hl]
  case off => simp [field_append_left, field_append_right, field_le (w := 4) hoff]
  case n => simp [field_append_right, field_le (w := 2) hn]

theorem parseRecord_data (hlen : r.len < 2 ^ 16) (hseq : r.seq < 2 ^ 48) (hk : r.kind = .data)
    (hband : r.band = some l) (hl : l < 2 ^ 32) (hoff : r.off < 2 ^ 32) (hn : r.n < 2 ^ 16) :
    parseRecord (recordHeader r data) r.pos = some { r.common with band := some l, off := r.off, n := r.n } := by
  obtain ⟨fband, foff, fn⟩ := dataHeader_fields (data := data) hk hband hl hoff hn
  simp [parseRecord, Rec.common, recordHeader_len r data hlen, recordHeader_seq r data hseq, hk, fband, foff, fn]

theorem discardHeader_fields (hk : r.kind = .discard) (hband : r.band = some l) (hl : l < 2 ^ 32)
    (hoff : r.off < 2 ^ 32) (hn : r.n < 2 ^ 32) :
    field (recordHeader r data) 17 4 = l ∧ field (recordHeader r data) 21 4 = r.off ∧
      field (recordHeader r data) 25 4 = r.n ∧ byteAt (recordHeader r data) 29 = flagByte r.full := by
  have hcheck : checkOffset r.kind = 30 := by rw [hk]; rfl
  have hfields : recordFields r = le 4 l ++ (le 4 r.off ++ (le 4 r.n ++ [flagByte r.full])) := by
    simp [recordFields, hk, hband, leOpt]
  refine ⟨?band, ?off, ?n, ?full⟩
  case full =>
    rw [byteAt_recordHeader_fields _ _ (by decide) (by omega), hfields]
    simp [byteAt_append_right]
  all_goals rw [field_recordHeader_fields _ _ (by decide) (by omega), hfields]
  case band => simp [field_append_left, field_le (w := 4) hl]
  case off => simp [field_append_left, field_append_right, field_le (w := 4) hoff]
  case n => simp [field_append_left, field_append_right, field_le (w := 4) hn]

theorem parseRecord_discard (hlen : r.len < 2 ^ 16) (hseq : r.seq < 2 ^ 48) (hk : r.kind = .discard)
    (hband : r.band = some l) (hl : l < 2 ^ 32) (hoff : r.off < 2 ^ 32) (hn : r.n < 2 ^ 32) :
    parseRecord (recordHeader r data) r.pos =
      some { r.common with band := some l, off := r.off, n := r.n, full := r.full } := by
  obtain ⟨fband, foff, fn, ffull⟩ := discardHeader_fields (data := data) hk hband hl hoff hn
  simp [parseRecord, Rec.common, recordHeader_len r data hlen, recordHeader_seq r data hseq, hk, fband, foff,
    fn, ffull]

theorem commitHeader_fields (hk : r.kind = .commit) (hband : r.band = some l) (hl : l < 2 ^ 32)
    (hsnap : r.snapSeq < 2 ^ 48) (hfill : r.newFill < 2 ^ 32) (hold : ∀ x ∈ r.oldBand, x < 2 ^ 32 - 1)
    (hnew : ∀ x ∈ r.newBand, x < 2 ^ 32 - 1) :
    field (recordHeader r data) 17 4 = l ∧ field (recordHeader r data) 21 4 = r.oldBand.getD 0xFFFFFFFF ∧
      field (recordHeader r data) 25 4 = r.newBand.getD 0xFFFFFFFF ∧ field (recordHeader r data) 29 6 = r.snapSeq ∧
      field (recordHeader r data) 35 4 = r.newFill := by
  have hcheck : checkOffset r.kind = 39 := by rw [hk]; rfl
  have hfields : recordFields r =
      le 4 l ++ (leOpt 4 r.oldBand ++ (leOpt 4 r.newBand ++ (le 6 r.snapSeq ++ le 4 r.newFill))) := by
    simp only [recordFields, hk, hband, leOpt, List.append_assoc]
  refine ⟨?band, ?old, ?new, ?snap, ?fill⟩ <;> rw [field_recordHeader_fields _ _ (by decide) (by omega), hfields]
  case band => simp [field_append_left, field_le (w := 4) hl]
  case old => simp [field_append_left, field_append_right, field_leOpt hold]
  case new => simp [field_append_left, field_append_right, field_leOpt hnew]
  case snap => simp [field_append_left, field_append_right, field_le (w := 6) hsnap]
  case fill => simp [field_append_right, field_le (w := 4) hfill]

theorem parseRecord_commit (hlen : r.len < 2 ^ 16) (hseq : r.seq < 2 ^ 48) (hk : r.kind = .commit)
    (hband : r.band = some l) (hl : l < 2 ^ 32) (hsnap : r.snapSeq < 2 ^ 48) (hfill : r.newFill < 2 ^ 32)
    (hold : ∀ x ∈ r.oldBand, x < 2 ^ 32 - 1) (hnew : ∀ x ∈ r.newBand, x < 2 ^ 32 - 1) :
    parseRecord (recordHeader r data) r.pos =
      some { r.common with
        band := some l, oldBand := r.oldBand, newBand := r.newBand, snapSeq := r.snapSeq, newFill := r.newFill } := by
  obtain ⟨fband, fold, fnew, fsnap, ffill⟩ := commitHeader_fields (data := data) hk hband hl hsnap hfill hold hnew
  simp [parseRecord, Rec.common, recordHeader_len r data hlen, recordHeader_seq r data hseq, hk, fband,
    optField_of_field fold hold, optField_of_field fnew hnew, fsnap, ffill]

end Kinds

/-! ### The write of a DATA record (R48) -/

@[simp] theorem Initiator.frameData_length (i : Initiator) (cid first n : Nat) :
    (i.frameData cid first n).length = n := by
  unfold Initiator.frameData
  split <;> exact fitBlocks_length ..

/-- A DATA record holds its n data blocks wherever they stand: in its command's frames or in what its carry-forward
read gave. -/
theorem Part.recordData_length (s : Part) {r : Rec} (hk : r.kind = .data) : (s.recordData r).length = r.n := by
  rw [Part.recordData, if_pos hk]
  split
  case h_1 => exact Initiator.frameData_length ..
  case h_2 =>
    split
    · exact fitBlocks_length ..
    · dsimp only
      split <;> exact fitBlocks_length ..
  case h_3 => exact fitBlocks_length ..

theorem Part.writeContent_record {s : Part} {o : Offer} {q : Nat} {r : Rec} (hw : o.work = .record q)
    (hr : s.log.find q = some r) : s.writeContent o = recordHeader r (s.recordData r) :: s.recordData r := by
  simp [Part.writeContent, hw, hr, Part.recordBlocks]

/-- Settles O56: each field is found at its place in the prefix its header seals, and the parsers read those fields. -/
theorem bandAndRecordHeadersAreLaidOut : Obligations.BandAndRecordHeadersAreLaidOut := by
  refine ⟨?bandHeader, ?recordHeader, ?write⟩
  case bandHeader =>
    intro l base mark hl hbase
    exact ⟨bandHeader_signature .., bandHeader_band _ _ _ hl, bandHeader_base _ _ _ hbase, bandHeader_mark ..,
      bandHeader_check .., fun _ => bandHeader_rest _ _ _, parseBandHeader_bandHeader _ _ _ hl hbase⟩
  case recordHeader =>
    intro r data hlen hseq _ b check base reads
    have hnum := recordHeader_kindNum r data
    have hcheck : check (checkOffset r.kind) := recordHeader_check r data
    refine ⟨recordHeader_signature .., recordHeader_len _ _ hlen, recordHeader_seq _ _ hseq, ?pad, ?void, ?data,
      ?discard, ?commit⟩
    case pad =>
      intro hk
      rw [hk] at hnum hcheck
      exact ⟨hnum, hcheck, parseRecord_bare hlen hseq (.inl hk)⟩
    case void =>
      intro hk
      rw [hk] at hnum hcheck
      exact ⟨hnum, hcheck, parseRecord_bare hlen hseq (.inr hk)⟩
    case data =>
      intro l hk hband hl hoff hn
      obtain ⟨fband, foff, fn⟩ := dataHeader_fields (data := data) hk hband hl hoff hn
      have hread : reads _ := parseRecord_data hlen hseq hk hband hl hoff hn
      rw [hk] at hnum hcheck
      exact ⟨hnum, fband, foff, fn, hcheck, hread⟩
    case discard =>
      intro l hk hband hl hoff hn
      obtain ⟨fband, foff, fn, ffull⟩ := discardHeader_fields (data := data) hk hband hl hoff hn
      have hread : reads _ := parseRecord_discard hlen hseq hk hband hl hoff hn
      rw [hk] at hnum hcheck
      exact ⟨hnum, fband, foff, fn, ffull, hcheck, hread⟩
    case commit =>
      intro l hk hband hl hsnap hfill hold hnew
      obtain ⟨fband, fold, fnew, fsnap, ffill⟩ :=
        commitHeader_fields (data := data) hk hband hl hsnap hfill hold hnew
      have hread : reads _ := parseRecord_commit hlen hseq hk hband hl hsnap hfill hold hnew
      rw [hk] at hnum hcheck
      exact ⟨hnum, fband, fold, fnew, fsnap, ffill, hcheck, hread⟩
  case write =>
    intro p o q r hr hk hw
    exact ⟨p.recordData r, p.recordData_length hk, Part.writeContent_record hw hr⟩

end Sys2Proof.Machine
end


section
/-! Insertion into the extent index (R71): the pieces an extent is cut into, and the order the insertion keeps. -/

namespace Sys2Proof.Machine

/-- Extents in start order that share no block and are not empty (R67, R68). -/
def Ordered (l : List Extent) : Prop := l.Pairwise (fun a b => a.stop ≤ b.start) ∧ ∀ e ∈ l, 1 ≤ e.len

/-- The extent covers block `k`. -/
def Extent.Covers (e : Extent) (k : Nat) : Prop := e.start ≤ k ∧ k < e.stop

theorem Ordered.filter {l : List Extent} (h : Ordered l) (p : Extent → Bool) : Ordered (l.filter p) :=
  ⟨h.1.filter p, fun e he => h.2 e (List.mem_of_mem_filter he)⟩

/-- A map that moves no extent. -/
theorem Ordered.map {l : List Extent} (h : Ordered l) {g : Extent → Extent}
    (hg : ∀ e, (g e).start = e.start ∧ (g e).len = e.len) : Ordered (l.map g) := by
  refine ⟨List.pairwise_map.mpr (h.1.imp fun {a b} hab => ?_), fun e he => ?_⟩
  · simpa [Extent.stop, hg] using hab
  · obtain ⟨x, hx, rfl⟩ := List.mem_map.mp he
    rw [(hg x).2]
    exact h.2 x hx

/-- In an ordered index at most one extent covers a block, and `lookup` finds it (R81). -/
theorem Ordered.lookup_eq_some {l : List Extent} (h : Ordered l) {a : Nat} {e : Extent} :
    ({ extents := l } : Index).lookup a = some e ↔ e ∈ l ∧ e.Covers a := by
  simp only [Index.lookup, Extent.Covers]
  refine ⟨fun hf => ⟨List.mem_of_find?_eq_some hf, by simpa using List.find?_some hf⟩, fun ⟨hm, hc⟩ => ?_⟩
  obtain ⟨x, hx⟩ : ∃ x, l.find? (fun e => decide (e.start ≤ a ∧ a < e.stop)) = some x :=
    Option.isSome_iff_exists.mp (List.find?_isSome.mpr ⟨e, hm, by simpa using hc⟩)
  have hxc : x.start ≤ a ∧ a < x.stop := by simpa using List.find?_some hx
  obtain rfl : x = e := by
    by_contra hne
    have : Std.Symm fun p q : Extent => p.stop ≤ q.start ∨ q.stop ≤ p.start := ⟨fun _ _ => Or.symm⟩
    have := (h.1.imp (S := fun p q => p.stop ≤ q.start ∨ q.stop ≤ p.start) .inl).forall
      (List.mem_of_find?_eq_some hx) hm hne
    omega
  exact hx

theorem Index.lookup_eq_none {l : List Extent} {a : Nat} :
    ({ extents := l } : Index).lookup a = none ↔ ∀ e ∈ l, ¬ e.Covers a := by
  simp [Index.lookup, Extent.Covers]

section Cut

variable {e p : Extent} {a b : Nat}

/-- A piece of a cut extent lies in it and outside [a, b), and carries on its record's blocks (R71). -/
theorem Extent.of_mem_cut (he : 1 ≤ e.len) (hp : p ∈ e.cut a b) :
    e.start ≤ p.start ∧ p.stop ≤ e.stop ∧ 1 ≤ p.len ∧ (p.stop ≤ a ∨ b ≤ p.start) ∧ p.seq = e.seq ∧ p.kind = e.kind ∧
      (e.kind = .data → p.lp = e.lp + (p.start - e.start)) := by
  simp only [Extent.stop]
  simp only [Extent.cut, Extent.meets, decide_eq_true_eq, Extent.stop] at hp
  split at hp
  · simp only [List.mem_append, List.mem_ite_nil_right, List.mem_singleton] at hp
    obtain ⟨hlt, rfl⟩ | ⟨hlt, rfl⟩ := hp
    · refine ⟨le_refl _, ?_, ?_, .inl ?_, rfl, rfl, fun _ => ?_⟩ <;> dsimp only <;> omega
    · refine ⟨?_, ?_, ?_, .inr le_rfl, rfl, rfl, fun hk => if_pos hk⟩ <;> dsimp only <;> omega
  · obtain rfl := List.mem_singleton.mp hp
    refine ⟨le_refl _, le_refl _, he, by omega, rfl, rfl, fun _ => by omega⟩

/-- The blocks of an extent outside [a, b) are covered by its pieces (R71). -/
theorem Extent.exists_cut_covers {k : Nat} (hk : e.Covers k) (hout : k < a ∨ b ≤ k) : ∃ p ∈ e.cut a b, p.Covers k := by
  obtain ⟨hlo, hhi⟩ := hk
  simp only [Extent.stop] at hhi
  simp only [Extent.cut, Extent.meets, decide_eq_true_eq, Extent.stop]
  split
  · simp only [List.mem_append, List.mem_ite_nil_right, List.mem_singleton]
    obtain hout | hout := hout
    · exact ⟨_, .inl ⟨by omega, rfl⟩, hlo, by simp only [Extent.stop]; omega⟩
    · exact ⟨_, .inr ⟨by omega, rfl⟩, hout, by simp only [Extent.stop]; omega⟩
  · exact ⟨e, by simp, hlo, hhi⟩

theorem Extent.cut_pairwise (hab : a < b) : (e.cut a b).Pairwise fun p q => p.stop ≤ q.start := by
  simp only [Extent.cut, Extent.stop]
  (repeat' split) <;> simp
  all_goals omega

/-- An extent past [a, b) is not cut. -/
theorem Extent.cut_of_le (h : b ≤ e.start) : e.cut a b = [e] := by
  simp [Extent.cut, Extent.meets, Nat.not_lt.mpr h]

/-- Only an extent that reaches past [a, b) gives two pieces (R71). -/
theorem Extent.length_cut (e : Extent) (a b : Nat) :
    (e.cut a b).length ≤ 1 ∨ (e.cut a b).length ≤ 2 ∧ b < e.stop := by
  simp only [Extent.cut]
  (repeat' split) <;> simp [*]

end Cut

variable {es : List Extent} {x : Extent}

theorem Ordered.flatMap_cut (h : Ordered es) {a b : Nat} (hab : a < b) : Ordered (es.flatMap (·.cut a b)) := by
  refine ⟨List.pairwise_flatMap.mpr ⟨fun e _ => Extent.cut_pairwise hab, ?_⟩, fun p hp => ?_⟩
  · refine h.1.imp_of_mem fun {c d} hc hd hcd p hp q hq => ?_
    have hpc := Extent.of_mem_cut (h.2 c hc) hp
    have hqd := Extent.of_mem_cut (h.2 d hd) hq
    omega
  · obtain ⟨e, he, hp⟩ := List.mem_flatMap.mp hp
    exact (Extent.of_mem_cut (h.2 e he) hp).2.2.1

theorem length_flatMap_cut_le {a b : Nat} (h : es.Pairwise fun p q => p.stop ≤ q.start) :
    (es.flatMap (·.cut a b)).length ≤ es.length + 1 := by
  induction es with
  | nil => simp
  | cons e es ih =>
    obtain ⟨hhead, htail⟩ := List.pairwise_cons.mp h
    rw [List.flatMap_cons, List.length_append, List.length_cons]
    obtain hcut | ⟨hcut, hlt⟩ := e.length_cut a b
    · have := ih htail
      omega
    · have hrest : es.flatMap (·.cut a b) = es := by
        rw [List.flatMap_congr (fun d hd => Extent.cut_of_le (hlt.le.trans (hhead d hd)))]
        simp
      rw [hrest]
      omega

/-! ### The place of the new extent -/

theorem mem_placeExtent {p : Extent} : p ∈ placeExtent x es ↔ p = x ∨ p ∈ es := by
  induction es with
  | nil => simp [placeExtent]
  | cons e es ih =>
    rw [placeExtent]
    split
    · rw [List.mem_cons, ih, List.mem_cons]
      tauto
    · exact List.mem_cons

theorem length_placeExtent : (placeExtent x es).length = es.length + 1 := by
  induction es with
  | nil => rfl
  | cons e es ih =>
    rw [placeExtent]
    split <;> simp [ih]

/-- An extent put between the others stands in start order. -/
theorem Ordered.placeExtent (h : Ordered es) (hx : 1 ≤ x.len)
    (hout : ∀ p ∈ es, p.stop ≤ x.start ∨ x.stop ≤ p.start) : Ordered (placeExtent x es) := by
  refine ⟨?_, fun p hp => ?_⟩
  · induction es with
    | nil => simp [Machine.placeExtent]
    | cons e es ih =>
      obtain ⟨hhead, htail⟩ := List.pairwise_cons.mp h.1
      have hep := h.2 e (by simp)
      have heo := hout e (by simp)
      simp only [Extent.stop] at heo hhead
      rw [Machine.placeExtent]
      split
      · refine List.pairwise_cons.mpr ⟨fun p hp => ?_,
          ih ⟨htail, fun p hp => h.2 p (by simp [hp])⟩ fun p hp => hout p (by simp [hp])⟩
        obtain rfl | hp := mem_placeExtent.mp hp
        · simp only [Extent.stop]; omega
        · exact hhead p hp
      · refine List.pairwise_cons.mpr ⟨fun p hp => ?_, h.1⟩
        simp only [Extent.stop]
        obtain rfl | hp := List.mem_cons.mp hp
        · omega
        · have := hhead p hp
          omega
  · obtain rfl | hp := mem_placeExtent.mp hp
    · exact hx
    · exact h.2 p hp

theorem insertExtents_of_pos (hx : 1 ≤ x.len) :
    insertExtents es x = placeExtent x (es.flatMap (·.cut x.start x.stop)) :=
  if_neg (by omega)

theorem Ordered.insertExtents (h : Ordered es) (x : Extent) : Ordered (insertExtents es x) := by
  by_cases hx : x.len = 0
  · rwa [Machine.insertExtents, if_pos hx]
  · have hlt : x.start < x.stop := by simp only [Extent.stop]; omega
    rw [insertExtents_of_pos (by omega)]
    refine (h.flatMap_cut hlt).placeExtent (by omega) fun p hp => ?_
    obtain ⟨e, he, hp⟩ := List.mem_flatMap.mp hp
    exact (Extent.of_mem_cut (h.2 e he) hp).2.2.2.1

/-- Settles O52: the new extent stands among the pieces of the old ones, so a block outside it is covered by the piece of
the extent that covered it. -/
theorem insertionReplacesWhatItOverlaps : Obligations.InsertionReplacesWhatItOverlaps := by
  intro es x sound (hes : Ordered es) hx after
  have hlt : x.start < x.stop := by simp only [Extent.stop]; omega
  have hafter : Ordered after := hes.insertExtents x
  have hmem : ∀ p, p ∈ after ↔ p = x ∨ ∃ e ∈ es, p ∈ e.cut x.start x.stop := by
    intro p
    simp only [after, insertExtents_of_pos hx, mem_placeExtent, List.mem_flatMap]
  refine ⟨hafter, ?length, (hmem x).mpr (.inl rfl), ?cover⟩
  case length =>
    have := length_flatMap_cut_le (a := x.start) (b := x.stop) hes.1
    simp only [after, insertExtents_of_pos hx, length_placeExtent]
    omega
  intro a old new
  refine ⟨fun hlo hhi => ?_, fun hout => ⟨?_, ?_⟩⟩
  · exact hafter.lookup_eq_some.mpr ⟨(hmem x).mpr (.inl rfl), hlo, hhi⟩
  · intro hnone
    refine Index.lookup_eq_none.mpr fun p hp hc => ?_
    obtain ⟨hplo, hphi⟩ := hc
    obtain rfl | ⟨e, he, hpe⟩ := (hmem p).mp hp
    · omega
    · have := Extent.of_mem_cut (hes.2 e he) hpe
      exact Index.lookup_eq_none.mp hnone e he ⟨by omega, by omega⟩
  · intro e he
    obtain ⟨hme, hc⟩ := hes.lookup_eq_some.mp he
    obtain ⟨p, hp, hpc⟩ := Extent.exists_cut_covers hc hout
    obtain ⟨hstart, -, -, -, hseq, hkind, hlp⟩ := Extent.of_mem_cut (hes.2 e hme) hp
    refine ⟨p, hafter.lookup_eq_some.mpr ⟨(hmem p).mpr (.inr ⟨e, hme, hp⟩), hpc⟩, hseq, hkind, fun hk => ?_⟩
    have := hlp hk
    have := hpc.1
    omega

end Sys2Proof.Machine
end

section
/-! What every command keeps (chapters 1 to 12): one relation between two states of the part, carrying the four
invariants at once, and the operations of the part that respect it. -/

namespace Sys2Proof.Machine

/-! ### The relation -/

/-- The bounds of the tables, the halt reason and the reserved slots, as one property. -/
def Part.inBounds (p : Part) : Prop := p.sized ∧ p.bounded ∧ p.reasoned ∧ p.reservedKept

/-- `t` keeps every invariant that `s` has. -/
structure Part.Keeps (s t : Part) : Prop where
  bounds : s.inBounds → t.inBounds
  index : s.indexOrdered → t.indexOrdered
  blocks : s.blocksCounted → t.blocksCounted
  contexts : s.commandsSound → t.commandsSound

variable {s t u : Part}

@[refl] theorem Part.Keeps.refl (s : Part) : s.Keeps s := ⟨id, id, id, id⟩

@[trans] theorem Part.Keeps.trans (h : s.Keeps t) (h' : t.Keeps u) : s.Keeps u :=
  ⟨h'.bounds ∘ h.bounds, h'.index ∘ h.index, h'.blocks ∘ h.blocks, h'.contexts ∘ h.contexts⟩

/-- `Keeps.trans`, from the last operation back to the first. -/
theorem Part.Keeps.after (h' : t.Keeps u) (h : s.Keeps t) : s.Keeps u := h.trans h'

/-- All that the invariants read of a part. -/
def Part.vitals (p : Part) :=
  (p.sys.mode, p.sys.halt, p.cfg.policy.burst, p.ret.entries.length, p.win.events.length, p.win.responses.length,
    p.ref.queue.length, p.ref.expired.length, p.ini.tags, p.ini.detached, p.ini.nextCid, p.pace.credit, p.pace.rem,
    p.log.table.map (·.len), p.log.occ, p.idx.extents, p.mrg.ctxs.length, p.mrg.reqs.length, p.port.slots,
    p.mnt.blocks)

theorem Part.blocksCounted_iff (p : Part) : p.blocksCounted ↔
    (p.sys.mode = .offline → p.log.table.map (·.len) = []) ∧
      (p.sys.mode = .mounting → p.mnt.blocks = (p.log.table.map (·.len)).sum) ∧
      (p.sys.mode ≠ .mounting → p.log.occ = (p.log.table.map (·.len)).sum) := by
  simp [Part.blocksCounted]

/-- An update that leaves alone what the invariants read. -/
theorem Part.Keeps.of_vitals (h : t.vitals = s.vitals) : s.Keeps t := by
  simp only [Part.vitals, Prod.mk.injEq] at h
  obtain ⟨hmode, hhalt, hburst, hret, hevents, hresp, hqueue, hexp, htags, hdet, hcid, hcredit, hrem, htable, hocc,
    hidx, hctxs, hreqs, hslots, hblocks⟩ := h
  constructor
  · simp only [Part.inBounds, Part.sized, Part.bounded, Part.reasoned, Part.reservedKept, *]
    exact id
  · simp only [Part.indexOrdered, *]
    exact id
  · simp only [Part.blocksCounted_iff, *]
    exact id
  · simp only [Part.commandsSound, Initiator.at, *]
    exact id

theorem Part.keeps_ite {c : Prop} [Decidable c] (ht : c → s.Keeps t) (hu : ¬ c → s.Keeps u) :
    s.Keeps (if c then t else u) := by
  split
  · exact ht ‹_›
  · exact hu ‹_›

theorem Part.keeps_foldl {α : Type} {f : Part → α → Part} (hf : ∀ (s : Part) a, s.Keeps (f s a)) (l : List α) (s : Part) :
    s.Keeps (l.foldl f s) := by
  induction l generalizing s with
  | nil => exact .refl s
  | cons a l ih => exact (hf s a).trans (ih _)

theorem Part.keeps_repeatStep {f : Part → Option Part} (hf : ∀ s t : Part, f s = some t → s.Keeps t) (n : Nat) (s : Part) :
    s.Keeps (Part.repeatStep f n s) := by
  induction n generalizing s with
  | zero => exact .refl s
  | succ n ih =>
    rw [Part.repeatStep]
    split
    · exact .refl s
    · exact (hf _ _ ‹_›).trans (ih _)

/-! ### Updates of the tables -/

theorem Part.keeps_onL (s : Part) (l f) : s.Keeps (s.onL l f) := .of_vitals rfl
theorem Part.keeps_onP (s : Part) (p f) : s.Keeps (s.onP p f) := .of_vitals rfl
theorem Part.keeps_onCtx (s : Part) (i f) : s.Keeps (s.onCtx i f) := .of_vitals (by simp [Part.vitals, Part.onCtx])
theorem Part.keeps_onFmt (s : Part) (g) : s.Keeps (s.onFmt g) := .of_vitals rfl
theorem Part.keeps_alert (s : Part) (a) : s.Keeps (s.alert a) := .of_vitals rfl
theorem Part.keeps_send (s : Part) (m) : s.Keeps (s.send m) := .of_vitals rfl
theorem Part.keeps_offer (s : Part) (o) : s.Keeps (s.offer o) := .of_vitals rfl
theorem Part.keeps_offerAll (s : Part) (o) : s.Keeps (s.offerAll o) := .of_vitals rfl
theorem Part.keeps_withdraw (s : Part) (w) : s.Keeps (s.withdraw w) := .of_vitals rfl

/-- A change of the records that leaves their lengths alone. -/
theorem Part.keeps_mapRecords (s : Part) {g : Rec → Rec} (hg : ∀ r, (g r).len = r.len) :
    s.Keeps { s with log.table := s.log.table.map g } :=
  .of_vitals (by simp [Part.vitals, Function.comp_def, hg])

theorem Part.keeps_onRec (s : Part) (q) {f : Rec → Rec} (hf : ∀ r, (f r).len = r.len) : s.Keeps (s.onRec q f) :=
  s.keeps_mapRecords fun r => by split <;> simp [hf]

/-- A change of the contexts alone. -/
theorem Part.keeps_mapCtxs (s : Part) (g : MergeCtx → MergeCtx) : s.Keeps { s with mrg.ctxs := s.mrg.ctxs.map g } :=
  .of_vitals (by simp [Part.vitals])

/-- The events and responses may come to be others, within their bounds. -/
theorem Part.keeps_win (s : Part) {w : Window} (he : s.win.events.length ≤ 64 → w.events.length ≤ 64)
    (hr : s.win.responses.length ≤ 8 → w.responses.length ≤ 8) : s.Keeps { s with win := w } where
  bounds := by
    rintro ⟨hsized, ⟨hevents, hresp, hrest⟩, hreason⟩
    exact ⟨hsized, ⟨he hevents, hr hresp, hrest⟩, hreason⟩
  index := id
  blocks := id
  contexts := id

/-- The pacing credit may come to be another, within its bounds. -/
theorem Part.keeps_pace (s : Part) {c : Pace}
    (h : s.inBounds → c.credit ≤ 65535 ∧ c.rem ≤ 3) : s.Keeps { s with pace := c } where
  bounds := by
    intro hb
    have hc := h hb
    obtain ⟨hsized, ⟨hevents, hresp, hqueue, hexp, hreqs, -, -, hburst⟩, hreason⟩ := hb
    exact ⟨hsized, ⟨hevents, hresp, hqueue, hexp, hreqs, hc.1, hc.2, hburst⟩, hreason⟩
  index := id
  blocks := id
  contexts := id

/-- The merge request list may come to be another, within its bound. -/
theorem Part.keeps_reqs (s : Part) {l : List MergeReq} (h : s.mrg.reqs.length ≤ 64 → l.length ≤ 64) :
    s.Keeps { s with mrg.reqs := l } where
  bounds := by
    rintro ⟨hsized, ⟨hevents, hresp, hqueue, hexp, hreqs, hrest⟩, hreason⟩
    exact ⟨hsized, ⟨hevents, hresp, hqueue, hexp, h hreqs, hrest⟩, hreason⟩
  index := id
  blocks := id
  contexts := id

/-- The Referral Queue and the expired ids may come to be others, within their bounds. -/
theorem Part.keeps_ref (s : Part) {r : Referral} (hq : s.ref.queue.length ≤ 4 → r.queue.length ≤ 4)
    (he : s.ref.expired.length ≤ 4 → r.expired.length ≤ 4) : s.Keeps { s with ref := r } where
  bounds := by
    rintro ⟨hsized, ⟨hevents, hresp, hqueue, hexp, hrest⟩, hreason⟩
    exact ⟨hsized, ⟨hevents, hresp, hq hqueue, he hexp, hrest⟩, hreason⟩
  index := id
  blocks := id
  contexts := id

/-- The retention entries may come to be others, as many. -/
theorem Part.keeps_entries (s : Part) {l : List RangeEntry} (h : s.ret.entries.length = 8 → l.length = 8) :
    s.Keeps { s with ret.entries := l } where
  bounds := by
    rintro ⟨⟨htags, hslots, hret, hctxs⟩, hrest⟩
    exact ⟨⟨htags, hslots, h hret, hctxs⟩, hrest⟩
  index := id
  blocks := id
  contexts := id

/-- The extents may come to be others in order. -/
theorem Part.keeps_extents (s : Part) {l : List Extent}
    (h : Ordered s.idx.extents → Ordered l) :
    s.Keeps { s with idx.extents := l } where
  bounds := id
  index := h
  blocks := id
  contexts := id

/-- A slot may be given a command of a class it is kept for (R114), or freed. -/
theorem Part.keeps_setSlot (s : Part) (k : Nat) {x : Option Slot}
    (h : ∀ y, x = some y → 28 ≤ k → y.offer.cls = .a ∨ y.offer.cls = .e) :
    s.Keeps { s with port.slots := s.port.slots.set k x } where
  bounds := by
    rintro ⟨⟨htags, hslots, hrest⟩, hbounded, hreason, hkept⟩
    refine ⟨⟨htags, by simpa using hslots, hrest⟩, hbounded, hreason, fun j y hj hy => ?_⟩
    simp only [List.getD_eq_getElem?_getD, List.getElem?_set] at hy
    split at hy
    · subst_vars
      split at hy
      · exact h y (by simpa using hy) hj
      · simp at hy
    · exact hkept j y hj (by rwa [List.getD_eq_getElem?_getD])
  index := id
  blocks := id
  contexts := id

/-! ### Events and directives' answers -/

theorem Window.raise_events_length (w : Window) (k a b p n c)
    (h : w.events.length ≤ 64) : (w.raise k a b p n c).events.length ≤ 64 := by
  unfold Window.raise
  split
  · simpa [Config.eventCapacity] using ‹_›
  · exact h


theorem Window.raise_responses (w : Window) (k a b p n c) : (w.raise k a b p n c).responses = w.responses := by
  unfold Window.raise
  split <;> rfl

theorem Window.respond_responses_length (w : Window) (n c r d) : (w.respond n c r d).responses.length ≤ 8 := by
  simp [Window.respond, Config.responseCapacity]

theorem Window.update_events (w : Window) (d r x) : (w.update d r x).events = w.events := by
  unfold Window.update
  split <;> rfl

theorem Window.update_responses_length (w : Window) (d r x) (h : w.responses.length ≤ 8) :
    (w.update d r x).responses.length ≤ 8 := by
  unfold Window.update
  split
  · simpa using h
  · exact Window.respond_responses_length ..

theorem Window.finish_bounded (w : Window) (r x) :
    (w.events.length ≤ 64 → (w.finish r x).events.length ≤ 64) ∧
      (w.responses.length ≤ 8 → (w.finish r x).responses.length ≤ 8) := by
  unfold Window.finish
  split
  · exact ⟨id, id⟩
  · refine ⟨fun h => Window.raise_events_length _ _ _ _ _ _ _ (by simpa [Window.update_events] using h), fun h => ?_⟩
    rw [Window.raise_responses]
    exact Window.update_responses_length _ _ _ _ h

theorem Part.keeps_raise (s : Part) (k a b p n c) : s.Keeps (s.raise k a b p n c) :=
  s.keeps_win (Window.raise_events_length _ _ _ _ _ _ _) (by rw [Window.raise_responses]; exact id)

theorem Part.keeps_respond (s : Part) (n c r d) : s.Keeps (s.respond n c r d) :=
  s.keeps_win id fun _ => Window.respond_responses_length ..

theorem Part.keeps_setPending (s : Part) (n c) : s.Keeps (s.setPending n c) :=
  s.keeps_win id fun _ => Window.respond_responses_length ..

theorem Part.keeps_finishDirective (s : Part) (r d) : s.Keeps (s.finishDirective r d) :=
  s.keeps_win (Window.finish_bounded ..).1 (Window.finish_bounded ..).2

theorem Part.keeps_finishClean (s : Part) (l r) : s.Keeps (s.finishClean l r) :=
  Part.keeps_ite (fun _ => s.keeps_finishDirective ..) fun _ => .refl s

/-! ### Commands (R128, R140) -/

/-- `d` is still the command `c`: its identity, its tag and what it is a window command of. -/
def Cmd.Same (c d : Cmd) : Prop := d.cid = c.cid ∧ d.tag = c.tag ∧ d.window = c.window ∧ d.cls = c.cls

/-- Commands change, none comes and no two become one. -/
theorem Part.keeps_commands (s : Part) {i : Initiator} (hlen : i.tags.length = s.ini.tags.length)
    (hcid : i.nextCid = s.ini.nextCid)
    (hat : ∀ k d, i.at k = some d → ∃ c, s.ini.at k = some c ∧ c.Same d)
    (hdet : ∀ d ∈ i.detached, ∃ c ∈ s.ini.detached, d.cid = c.cid) : s.Keeps { s with ini := i } where
  bounds := by
    rintro ⟨⟨htags, hrest⟩, hbounded⟩
    exact ⟨⟨hlen.trans htags, hrest⟩, hbounded⟩
  index := id
  blocks := id
  contexts := by
    rintro ⟨hactive, hdetached⟩
    refine ⟨fun k d hd => ?_, fun d hd => ?_⟩
    · obtain ⟨c, hc, hsame⟩ := hat k d hd
      obtain ⟨htag, hlt, hwin, huniq, hne⟩ := hactive k c hc
      obtain ⟨ecid, etag, ewin, ecls⟩ := hsame
      refine ⟨etag.trans htag, by rw [ecid]; exact hlt.trans_eq hcid.symm, by rwa [ewin, ecls], ?_, ?_⟩
      · intro l x hx he
        obtain ⟨y, hy, hxy⟩ := hat l x hx
        exact huniq l y hy (hxy.1.symm.trans (he.trans ecid))
      · intro x hx he
        obtain ⟨y, hy, hxy⟩ := hdet x hx
        exact hne y hy (hxy.symm.trans (he.trans ecid))
    · obtain ⟨c, hc, he⟩ := hdet d hd
      rw [he]
      exact (hdetached c hc).trans_eq hcid.symm

theorem Initiator.at_map (i : Initiator) (g : Cmd → Cmd) (k : Nat) :
    ({ i with tags := i.tags.map (Option.map g) } : Initiator).at k = (i.at k).map g := by
  simp only [Initiator.at, List.getD_eq_getElem?_getD, List.getElem?_map]
  cases i.tags[k]? <;> rfl

theorem Part.keeps_putTag (s : Part) {t : Nat} {c d : Cmd} (h : s.ini.at t = some c) (hsame : c.Same d) :
    s.Keeps (s.putTag t (some d)) := by
  refine s.keeps_commands (by simp) rfl (fun k x hx => ?_) fun x hx => ⟨x, hx, rfl⟩
  by_cases hk : t = k
  · subst hk
    by_cases ht : t < s.ini.tags.length
    · rw [Initiator.at_set_self _ _ _ ht] at hx
      cases hx
      exact ⟨c, h, hsame⟩
    · simp [Initiator.at, List.getD_eq_getElem?_getD, ht] at hx
  · rw [Initiator.at_set_ne _ _ _ _ hk] at hx
    exact ⟨x, hx, rfl, rfl, rfl, rfl⟩

theorem Part.keeps_onCmd (s : Part) (cid) {f : Cmd → Cmd} (hf : ∀ c : Cmd, c.Same (f c)) : s.Keeps (s.onCmd cid f) := by
  have hg : ∀ c : Cmd, c.Same (if c.cid = cid then f c else c) := by
    intro c
    split
    · exact hf c
    · exact ⟨rfl, rfl, rfl, rfl⟩
  refine s.keeps_commands (by simp) rfl (fun k d hd => ?_) fun d hd => ?_
  · have he := Initiator.at_map s.ini (fun c => if c.cid = cid then f c else c) k
    obtain ⟨c, hc, rfl⟩ := Option.map_eq_some_iff.mp (he.symm.trans hd)
    exact ⟨c, hc, hg c⟩
  · obtain ⟨c, hc, rfl⟩ := List.mem_map.mp (List.mem_filter.mp hd).1
    exact ⟨c, hc, (hg c).1⟩

theorem Initiator.finish_at_some {i : Initiator} {t k : Nat} {code : Code} {d : Cmd}
    (h : (i.finish t code).at k = some d) : ∃ c, i.at k = some c ∧ c.Same d := by
  by_cases hk : t = k
  · subst hk
    rw [Initiator.finish_at_self] at h
    cases h
  · rw [Initiator.finish_at_ne _ _ _ _ hk] at h
    split at h
    · exact ⟨d, h, rfl, rfl, rfl, rfl⟩
    · obtain ⟨c, hc, rfl⟩ := Option.map_eq_some_iff.mp h
      exact ⟨c, hc, rfl, rfl, rfl, rfl⟩

theorem Part.keeps_finish (s : Part) (t code) : s.Keeps (s.finish t code) :=
  s.keeps_commands (by simp) (by simp) (fun _ _ => Initiator.finish_at_some)
    fun x hx => ⟨x, by simpa using hx, rfl⟩

theorem Cmd.setPart_same (c : Cmd) (i p) : c.Same (c.setPart i p) := by
  unfold Cmd.setPart
  split <;> exact ⟨rfl, rfl, rfl, rfl⟩

theorem Part.keeps_partFinal (s : Part) (cid i p) : s.Keeps (s.partFinal cid i p) :=
  s.keeps_onCmd cid fun c => c.setPart_same i p

theorem Part.keeps_addParts (s : Part) (cid k) : s.Keeps (s.addParts cid k) :=
  s.keeps_onCmd cid fun _ => ⟨rfl, rfl, rfl, rfl⟩

/-- A FREE tag is given a new command (R128). -/
theorem Part.keeps_newCommand (s : Part) {c : Cmd} (hfree : s.ini.at c.tag = none) (hcid : c.cid = s.ini.nextCid)
    (hwin : c.window = true → c.cls = .write) :
    s.Keeps (({ s with ini.nextCid := s.ini.nextCid + 1 } : Part).putTag c.tag (some c)) where
  bounds := by
    rintro ⟨⟨htags, hrest⟩, hbounded⟩
    exact ⟨⟨by simpa [Part.putTag] using htags, hrest⟩, hbounded⟩
  index := id
  blocks := id
  contexts := by
    rintro ⟨hactive, hdetached⟩
    have hnew : ∀ k d, ({ s.ini with tags := s.ini.tags.set c.tag (some c) } : Initiator).at k = some d →
        (k = c.tag ∧ d = c) ∨ (k ≠ c.tag ∧ s.ini.at k = some d) := by
      intro k d hd
      by_cases hk : c.tag = k
      · subst hk
        by_cases ht : c.tag < s.ini.tags.length
        · rw [Initiator.at_set_self _ _ _ ht] at hd
          exact .inl ⟨rfl, (Option.some.inj hd).symm⟩
        · simp [Initiator.at, List.getD_eq_getElem?_getD, ht] at hd
      · rw [Initiator.at_set_ne _ _ _ _ hk] at hd
        exact .inr ⟨Ne.symm hk, hd⟩
    refine ⟨fun k d hd => ?_, fun d hd => Nat.lt_succ_of_lt (hdetached d hd)⟩
    obtain ⟨rfl, rfl⟩ | ⟨hk, hd⟩ := hnew k d hd
    · refine ⟨rfl, by rw [hcid]; exact Nat.lt_succ_self _, hwin, fun l x hx he => ?_, fun x hx he => ?_⟩
      · obtain ⟨rfl, -⟩ | ⟨-, hx⟩ := hnew l x hx
        · rfl
        · have := (hactive l x hx).2.1
          omega
      · have := hdetached x hx
        omega
    · obtain ⟨htag, hlt, hw, huniq, hne⟩ := hactive k d hd
      refine ⟨htag, Nat.lt_succ_of_lt hlt, hw, fun l x hx he => ?_, hne⟩
      obtain ⟨rfl, rfl⟩ | ⟨-, hx⟩ := hnew l x hx
      · omega
      · exact huniq l x hx he

/-! ### Pins, bands, level -/

theorem Part.keeps_pin (s : Part) (p) : s.Keeps (s.pin p) := by
  cases p
  · exact s.keeps_onRec _ fun _ => rfl
  · exact s.keeps_onP ..

theorem Part.keeps_unpin (s : Part) (p) : s.Keeps (s.unpin p) := by
  cases p
  · exact s.keeps_onRec _ fun _ => rfl
  · exact s.keeps_onP ..

theorem Part.keeps_unpinOpt (s : Part) (p) : s.Keeps (s.unpinOpt p) := by
  cases p
  · exact .refl s
  · exact s.keeps_unpin _

theorem Part.keeps_toResetPending (s : Part) (p) : s.Keeps (s.toResetPending p) :=
  (s.keeps_onP ..).trans (Part.keeps_ite (fun _ => .refl _) fun _ => .of_vitals rfl)

theorem Part.keeps_toResetPendingOpt (s : Part) (p) : s.Keeps (s.toResetPendingOpt p) := by
  cases p
  · exact .refl s
  · exact s.keeps_toResetPending _

theorem Part.keeps_takeFree (s : Part) (p) : s.Keeps (s.takeFree p) :=
  Part.keeps_ite (fun _ => .of_vitals rfl) fun _ => .of_vitals rfl

theorem Pace.move_bounded (c : Pace) {burst : Nat} (new : Level) (hb : burst ≤ 65535)
    (hc : c.credit ≤ 65535) (hr : c.rem ≤ 3) : (c.move burst new).credit ≤ 65535 ∧ (c.move burst new).rem ≤ 3 := by
  unfold Pace.move
  (repeat' split) <;> simp [*]

theorem Part.keeps_evalLevel (s : Part) : s.Keeps s.evalLevel := by
  unfold Part.evalLevel
  refine Part.keeps_ite (fun _ => ?_) fun _ => .refl s
  refine (s.keeps_win (w := if _ then _ else _) ?_ ?_).trans (Part.keeps_pace _ ?_)
  · intro h
    split
    · exact Window.raise_events_length _ _ _ _ _ _ _ h
    · exact h
  · intro h
    split
    · rwa [Window.raise_responses]
    · exact h
  · rintro ⟨-, ⟨-, -, -, -, -, hcredit, hrem, hburst⟩, -⟩
    exact Pace.move_bounded _ _ hburst hcredit hrem

theorem Part.keeps_evalPressure (s : Part) : s.Keeps s.evalPressure := .of_vitals rfl

/-! ### The anchor writer -/

theorem Part.keeps_offerAnchor (s : Part) : s.Keeps s.offerAnchor := .of_vitals rfl

theorem Part.keeps_triggerAnchor (s : Part) : s.Keeps s.triggerAnchor :=
  Part.keeps_ite (fun _ => s.keeps_offerAnchor) fun _ => .of_vitals rfl

theorem Part.keeps_finishSettings (s : Part) (d r) : s.Keeps (s.finishSettings d r) := by
  cases d
  · exact .refl s
  · exact Part.keeps_ite (fun _ => s.keeps_finishDirective ..) fun _ => .refl s

theorem Part.keeps_withdrawAnchor (s : Part) : s.Keeps s.withdrawAnchor := by
  unfold Part.withdrawAnchor
  split
  · exact .refl s
  · exact (Part.keeps_finishSettings ..).after (.of_vitals rfl)

end Sys2Proof.Machine
end

section
/-! What every command keeps: the operations of the index, the merge request list, the log, the merge engine and the
append queues (chapters 2 to 5). -/

namespace Sys2Proof.Machine

open Sys2Proof.Machine.Part

variable {s t u : Part}

/-! ### The index and the merge request list -/

theorem Part.keeps_loseBlocks (s : Part) (ls) : s.Keeps (s.loseBlocks ls) :=
  keeps_foldl (fun s _ => s.keeps_onRec _ fun _ => by rfl) ls s

@[simp] theorem Part.loseBlocks_idx (s : Part) (ls) : (s.loseBlocks ls).idx = s.idx := by
  unfold Part.loseBlocks
  induction ls generalizing s with
  | nil => rfl
  | cons l ls ih => rw [List.foldl_cons, ih, onRec_idx]

theorem Part.keeps_insertExtent (s : Part) (x) : s.Keeps (s.insertExtent x) :=
  (keeps_onRec _ _ fun _ => by rfl).after <| (keeps_extents _ fun h => h.insertExtents x).after <| s.keeps_loseBlocks _

theorem Part.keeps_removeExtents (s : Part) (p) : s.Keeps (s.removeExtents p) :=
  (keeps_extents _ fun h => h.filter _).after <| s.keeps_loseBlocks _

theorem Part.keeps_repoint (s : Part) (old start q lp) : s.Keeps (s.repoint old start q lp) := by
  unfold Part.repoint
  split
  · exact .refl s
  · refine (keeps_onRec _ _ fun _ => by rfl).after <| (keeps_loseBlocks ..).after <| s.keeps_extents fun h => h.map fun e => ?_
    split <;> exact ⟨rfl, rfl⟩

theorem Part.keeps_reserveIndex (s : Part) (l) : s.Keeps (s.reserveIndex l) := .of_vitals rfl
theorem Part.keeps_releaseIndex (s : Part) (l) : s.Keeps (s.releaseIndex l) := .of_vitals rfl

theorem length_joinUrgent (rs : List MergeReq) (e : MergeReq) : (joinUrgent rs e).length = rs.length + 1 := by
  have := congrArg List.length (List.takeWhile_append_dropWhile (p := (·.urgent)) (l := rs))
  simp only [List.length_append] at this
  simp only [joinUrgent, List.length_append, List.length_cons]
  omega

/-- The entry of a band leaves the list shorter. -/
theorem Merge.length_filter_req {m : Merge} {l : Nat} {e : MergeReq} (h : m.req l = some e) :
    (m.reqs.filter (·.band != l)).length < m.reqs.length := by
  refine List.length_filter_lt_length_iff_exists.mpr ⟨e, List.mem_of_find?_eq_some h, ?_⟩
  simpa using List.find?_some h

theorem Part.keeps_offerUrgent (s : Part) (l) : s.Keeps (s.offerUrgent l) := by
  unfold Part.offerUrgent
  split
  case h_1 e he =>
    refine keeps_ite (fun _ => .refl s) fun _ => s.keeps_reqs fun h => ?_
    have := Merge.length_filter_req he
    rw [length_joinUrgent]
    omega
  case h_2 =>
    refine keeps_ite (fun hroom => s.keeps_reqs fun _ => ?_) fun _ => ?_
    · rw [length_joinUrgent]
      exact hroom
    · split
      case h_1 x hx =>
        refine keeps_ite (fun _ => .of_vitals rfl) fun _ => ?_
        have hjoin : s.Keeps { s with mrg.reqs := joinUrgent s.mrg.reqs.dropLast { band := l, urgent := true } } := by
          refine s.keeps_reqs fun h => ?_
          have : 0 < s.mrg.reqs.length := List.length_pos_of_mem (List.mem_of_getLast? hx)
          rw [length_joinUrgent, List.length_dropLast]
          omega
        exact keeps_ite (fun _ => (keeps_finishClean ..).after hjoin) fun _ => hjoin
      case h_2 => exact .refl s

theorem Part.keeps_rescanFrom (s : Part) (ls) : s.Keeps (s.rescanFrom ls) := by
  induction ls generalizing s with
  | nil => exact .of_vitals rfl
  | cons l ls ih =>
    exact keeps_ite (fun _ => .refl s) fun _ =>
      (ih _).after <| keeps_ite (fun _ => s.keeps_offerUrgent l) fun _ => .refl s

theorem Part.keeps_rescan (s : Part) : s.Keeps s.rescan :=
  keeps_ite (fun _ => s.keeps_rescanFrom _) fun _ => .refl s

theorem Part.keeps_dropReq (s : Part) (l) : s.Keeps (s.dropReq l) :=
  s.keeps_reqs fun h => (List.length_filter_le ..).trans h

theorem Part.keeps_faultBand (s : Part) (l) : s.Keeps (s.faultBand l) := by
  unfold Part.faultBand
  dsimp only
  split
  · exact (keeps_raise ..).after (s.keeps_onL l _)
  · exact (keeps_rescan _).after <| (keeps_ite (fun _ => keeps_finishClean ..) fun _ => .refl _).after <|
      (keeps_dropReq ..).after <| (keeps_raise ..).after (s.keeps_onL l _)

theorem Part.keeps_offerLimit (s : Part) (l) : s.Keeps (s.offerLimit l) :=
  keeps_ite (fun _ => s.keeps_offerUrgent l) fun _ => .refl s

/-! ### The log -/

/-- A record joins the log in a mode that counts its blocks in the occupancy (R42, R47). -/
theorem Part.keeps_addRecord (s : Part) (k) (r : Rec) (hm : s.sys.mode = .active) : s.Keeps (s.addRecord k r) where
  bounds := id
  index := id
  blocks := by
    simp only [blocksCounted_iff, addRecord_sys, hm]
    rintro ⟨-, -, hocc⟩
    refine ⟨by simp, by simp, fun _ => ?_⟩
    have := hocc (by simp)
    simp [addRecord, Part.offer, this]
  contexts := id

theorem Part.keeps_positionRecord (s : Part) (k) (r : Rec) (hm : s.sys.mode = .active) :
    s.Keeps (s.positionRecord k r) := by
  unfold Part.positionRecord
  dsimp only
  split
  · exact s.keeps_addRecord k r hm
  · exact (keeps_addRecord _ k r (by exact hm)).after <| s.keeps_addRecord k _ hm

theorem Part.mode_of_canAdmit {e : HoldEntry} (h : s.canAdmit e = true) : s.sys.mode = .active := by
  simp only [canAdmit, Bool.and_eq_true, beq_iff_eq] at h
  exact h.1.1.1.1.1

theorem Part.keeps_admitHead (h : s.admitHead = some t) : s.Keeps t := by
  unfold Part.admitHead at h
  split at h
  · cases h
  case h_2 e rest _ =>
    dsimp only at h
    split at h
    case isFalse => cases h
    case isTrue hadmit =>
      obtain rfl := Option.some.inj h
      have hmode := mode_of_canAdmit hadmit
      refine (keeps_evalPressure _).after <| (keeps_evalLevel _).after <| (keeps_positionRecord _ _ _ ?_).after <|
        (keeps_onL ..).after <| (keeps_ite (fun _ => .refl _) fun _ => keeps_reserveIndex ..).after <|
        Keeps.trans (t := { s with ini.hold := rest }) (.of_vitals rfl) <|
        keeps_ite (fun _ => keeps_pace _ fun hb => ?_) fun _ => .refl _
      · rw [onL_sys]
        (repeat' split) <;> simpa using hmode
      · obtain ⟨-, ⟨-, -, -, -, -, hcredit, hrem, -⟩, -⟩ := hb
        exact ⟨(Nat.sub_le ..).trans hcredit, hrem⟩

theorem Part.keeps_markPositioned (s : Part) (n w) : s.Keeps (s.markPositioned n w) := by
  cases w <;> exact s.keeps_onCtx ..

/-- Several records join the log one after another (R63). -/
theorem Part.keeps_positionRecords (k) (rs : List Rec) (s : Part) (hm : s.sys.mode = .active) :
    s.Keeps (rs.foldl (fun s r => s.positionRecord k r) s) := by
  induction rs generalizing s with
  | nil => exact .refl s
  | cons r rs ih => exact (ih _ (by simpa using hm)).after (s.keeps_positionRecord k r hm)

theorem Part.keeps_positionWaiting (h : s.positionWaiting = some t) : s.Keeps t := by
  unfold Part.positionWaiting at h
  split at h
  · cases h
  · dsimp only at h
    split at h
    case isFalse => cases h
    case isTrue hroom =>
      obtain rfl := Option.some.inj h
      exact (keeps_evalLevel _).after <| (keeps_markPositioned ..).after <|
        (keeps_positionRecords _ _ _ (by exact hroom.1)).after <| .of_vitals rfl

theorem Part.keeps_barrierPart (s : Part) (low low54 r) : s.Keeps (s.barrierPart low low54 r) := by
  unfold Part.barrierPart
  split
  · exact keeps_ite (fun _ => s.keeps_partFinal ..) fun _ => .refl s
  · exact .refl s

theorem Part.keeps_barrierParts (s : Part) : s.Keeps s.barrierParts := by
  unfold Part.barrierParts
  split
  · exact .refl s
  · exact keeps_foldl (fun s r => s.keeps_barrierPart ..) _ s

theorem Part.keeps_reclaimOne (h : s.reclaimOne = some t) : s.Keeps t := by
  unfold Part.reclaimOne at h
  split at h
  · cases h
  · dsimp only at h
    split at h
    · obtain rfl := Option.some.inj h
      exact Keeps.trans (s.keeps_onRec _ fun _ => by rfl) (.of_vitals rfl)
    · cases h

theorem Part.keeps_releaseHold (s : Part) (p) : s.Keeps (s.releaseHold p) := .of_vitals rfl

theorem Part.keeps_releaseHoldOpt (s : Part) (p) : s.Keeps (s.releaseHoldOpt p) := by
  cases p
  · exact .refl s
  · exact s.keeps_releaseHold _

theorem Part.keeps_resetFinished (s : Part) (p) : s.Keeps (s.resetFinished p) :=
  s.keeps_mapRecords fun r => by split <;> rfl

/-! ### Merges -/

theorem Part.keeps_giveTarget (s : Part) (i p) : s.Keeps (s.giveTarget i p) :=
  (keeps_onCtx ..).after <| Keeps.trans ((keeps_onP ..).after (s.keeps_takeFree p)) (.of_vitals rfl)

theorem Part.keeps_obtainTarget (s : Part) (i) : s.Keeps (s.obtainTarget i) := by
  unfold Part.obtainTarget
  split
  · exact s.keeps_giveTarget ..
  · exact Keeps.trans (s.keeps_onCtx ..) (.of_vitals rfl)

theorem Part.keeps_unpinOffers (os : List Offer) (s : Part) : s.Keeps (os.foldl (fun s o => s.unpinOpt o.pin) s) :=
  keeps_foldl (fun s _ => s.keeps_unpinOpt _) os s

theorem Part.keeps_withdrawMerge (s : Part) (i) : s.Keeps (s.withdrawMerge i) :=
  (keeps_onCtx ..).after <| (keeps_withdraw ..).after <| keeps_unpinOffers ..

theorem Part.keeps_releaseSnapshot (s : Part) (i) : s.Keeps (s.releaseSnapshot i) :=
  (keeps_onCtx ..).after <| keeps_foldl (fun s _ => s.keeps_unpin _) _ s

theorem Part.keeps_endMerge (s : Part) (i) : s.Keeps (s.endMerge i) :=
  (keeps_onCtx ..).after <|
    Keeps.trans ((keeps_releaseSnapshot ..).after (s.keeps_withdrawMerge i)) (.of_vitals rfl)

theorem Part.keeps_tellMerge (s : Part) (i r) : s.Keeps (s.tellMerge i r) := by
  have htold : s.Keeps _ := (keeps_onCtx _ i fun c => { c with clean := false }).after <|
    keeps_ite (c := (s.mrg.ctx i).clean = true) (fun _ => s.keeps_finishClean ((s.mrg.ctx i).band.getD 0) r)
      fun _ => .refl s
  exact keeps_ite (fun _ => htold.trans (.of_vitals rfl)) fun _ => htold

theorem Part.keeps_raiseAbandoned (s : Part) (c code) : s.Keeps (s.raiseAbandoned c code) := s.keeps_raise ..

theorem Part.keeps_commitMerge (s : Part) (i q) : s.Keeps (s.commitMerge i q) := by
  refine (keeps_evalPressure _).after <| (keeps_offerLimit ..).after <| (keeps_onCtx ..).after <|
    (keeps_tellMerge ..).after <| (keeps_raise ..).after <| (keeps_releaseSnapshot ..).after <|
    (keeps_onRec _ _ fun _ => by rfl).after <| (keeps_toResetPendingOpt ..).after ?_
  split
  · exact (keeps_releaseHold ..).after <| (keeps_onP ..).after <| (keeps_onL ..).after <| s.keeps_removeExtents _
  · exact (keeps_onL ..).after <| s.keeps_removeExtents _

/-- Records lose the origin that names a context. -/
theorem Part.keeps_loseOrigin (s : Part) (o : Origin) :
    s.Keeps { s with log.table := s.log.table.map fun r => if r.origin = o then { r with origin := .none } else r } :=
  s.keeps_mapRecords fun r => by split <;> rfl

theorem Part.keeps_cancelMerge (s : Part) (i) : s.Keeps (s.cancelMerge i) :=
  (keeps_tellMerge ..).after <| (keeps_raiseAbandoned ..).after <| (keeps_loseOrigin ..).after <|
    (keeps_endMerge ..).after <| s.keeps_releaseHoldOpt _

theorem Part.keeps_discardBand (s : Part) (l q) : s.Keeps (s.discardBand l q) := by
  refine (keeps_evalPressure _).after <| (keeps_onRec _ _ fun _ => by rfl).after ?_
  split
  · exact (keeps_toResetPendingOpt ..).after <| (keeps_cancelMerge ..).after <| (keeps_toResetPendingOpt ..).after <|
      (keeps_onL ..).after <| s.keeps_removeExtents _
  · exact (keeps_toResetPendingOpt ..).after <| (keeps_onL ..).after <| s.keeps_removeExtents _

theorem Part.keeps_failMerge (s : Part) (i code) : s.Keeps (s.failMerge i code) :=
  (keeps_tellMerge ..).after <|
    (keeps_ite (fun _ => keeps_offerUrgent ..) fun _ => keeps_faultBand ..).after <|
    (keeps_raiseAbandoned ..).after <| (keeps_onL ..).after <| (keeps_endMerge ..).after <|
    keeps_ite (fun _ => .refl s) fun _ => s.keeps_toResetPendingOpt _

theorem Part.keeps_faultMerge (s : Part) (i code) : s.Keeps (s.faultMerge i code) :=
  (keeps_tellMerge ..).after <| (keeps_faultBand ..).after <| (keeps_raiseAbandoned ..).after <|
    (keeps_endMerge ..).after <| s.keeps_toResetPendingOpt _

theorem Part.keeps_dropMerge (s : Part) (i) : s.Keeps (s.dropMerge i) :=
  (keeps_raiseAbandoned ..).after <| (keeps_onL ..).after <| (keeps_endMerge ..).after <|
    s.keeps_toResetPendingOpt _

theorem Part.keeps_drainCheck (s : Part) : s.Keeps s.drainCheck := by
  unfold Part.drainCheck
  split
  · exact .refl s
  · refine keeps_ite (fun _ => ?_) fun _ => .refl s
    exact Keeps.trans (t := { s with mrg.drain := none }) (.of_vitals rfl) <|
      keeps_ite (fun _ => keeps_finishDirective ..) fun _ => .refl _

/-! ### Placement and appends -/

theorem Part.keeps_placePiece (s : Part) (cid first l o n) : s.Keeps (s.placePiece cid first l o n) := by
  unfold Part.placePiece
  dsimp only
  split
  · exact (keeps_addParts ..).after (s.keeps_onL ..)
  · exact (keeps_addParts ..).after <| (keeps_onL ..).after <| (keeps_onP ..).after <| s.keeps_takeFree _
  · exact (keeps_addParts ..).after (.of_vitals rfl)

theorem Part.keeps_placePieces (s : Part) (cid first ps) : s.Keeps (s.placePieces cid first ps) := by
  induction ps generalizing s first with
  | nil => exact .refl s
  | cons p ps ih => exact (ih _ _).after (s.keeps_placePiece ..)

theorem Part.keeps_appendGood (s : Part) (l p start) : s.Keeps (s.appendGood l p start) := by
  unfold Part.appendGood
  split
  · exact .refl s
  · exact (keeps_partFinal ..).after <| ((keeps_onL ..).after (s.keeps_onP ..)).trans <|
      keeps_ite (fun _ => keeps_onL ..) fun _ => .refl _

theorem Part.keeps_replaceEntry (s : Part) (l e) : s.Keeps (s.replaceEntry l e).1 :=
  s.keeps_onCmd _ fun _ => ⟨rfl, rfl, rfl, rfl⟩

theorem Part.keeps_replaceEntries (s : Part) (l es) : s.Keeps (s.replaceEntries l es).1 := by
  induction es generalizing s with
  | nil => exact .refl s
  | cons e es ih => exact (ih _).after (s.keeps_replaceEntry l e)

theorem Part.keeps_failEntries (s : Part) (c es) : s.Keeps (s.failEntries c es) :=
  keeps_foldl (fun s _ => s.keeps_partFinal ..) es s

theorem Part.keeps_offerRefresh (s : Part) (p) : s.Keeps (s.offerRefresh p) := .of_vitals rfl

theorem Part.keeps_appendFail (s : Part) (l p start) : s.Keeps (s.appendFail l p start) := by
  unfold Part.appendFail
  split
  · exact .refl s
  · dsimp only
    refine keeps_ite (fun _ => ?_) fun _ => (keeps_failEntries ..).after (s.keeps_onL ..)
    refine (keeps_raise ..).after <| Keeps.trans (t := Part.offerRefresh _ _) ?_ <|
      keeps_ite (fun _ => .refl _) fun _ => keeps_offerUrgent ..
    exact (keeps_offerRefresh ..).after <| Keeps.trans ((keeps_replaceEntries ..).after <| (keeps_onL ..).after <|
      (keeps_partFinal ..).after <| s.keeps_onL ..) (.of_vitals rfl)

/-! ### Entry into DEGRADED (R192) -/

theorem Part.keeps_dropHeld (s : Part) : s.Keeps s.dropHeld :=
  (keeps_foldl (fun s _ => s.keeps_partFinal ..) _ _).after (.of_vitals rfl)

theorem Part.keeps_clearOut (s : Part) (b) : s.Keeps (s.clearOut b) := by
  cases b
  · exact .refl s
  · exact s.keeps_onP ..

theorem Part.keeps_reportWithdrawn (s : Part) (o) : s.Keeps (s.reportWithdrawn o) := by
  unfold Part.reportWithdrawn
  split
  · exact s.keeps_onRec _ fun _ => by rfl
  · exact s.keeps_onRec _ fun _ => by rfl
  · exact s.keeps_withdrawAnchor
  · exact s.keeps_onP ..
  · exact keeps_ite (fun _ => s.keeps_onL ..) fun _ => (keeps_appendFail ..).after (s.keeps_clearOut _)
  · exact (keeps_onCtx ..).after <| keeps_ite (fun _ => .refl s) fun _ => s.keeps_clearOut _
  · exact .refl s

theorem Part.keeps_dropAppends (s : Part) (l) : s.Keeps (s.dropAppends l) :=
  (keeps_failEntries ..).after (s.keeps_onL ..)

theorem Part.keeps_withdrawWrites (s : Part) : s.Keeps s.withdrawWrites :=
  (keeps_foldl keeps_reportWithdrawn _ _).after <| (keeps_foldl keeps_dropAppends _ _).after <|
    (keeps_foldl keeps_reportWithdrawn _ _).after <| .of_vitals rfl

theorem Part.keeps_dropCarry (s : Part) (i) : s.Keeps (s.dropCarry i) :=
  (keeps_onCtx ..).after <| Keeps.trans
    ((keeps_loseOrigin ..).after <| (keeps_withdraw ..).after <| keeps_unpinOffers ..) (.of_vitals rfl)

theorem Part.keeps_degradeCtx (issued) (s : Part) (i) : s.Keeps (s.degradeCtx issued i) := by
  unfold Part.degradeCtx
  dsimp only
  split
  · exact .refl s
  · exact .refl s
  · exact keeps_ite (fun _ => .refl s) fun _ => keeps_ite (fun _ => s.keeps_dropCarry i) fun _ =>
      (keeps_dropMerge ..).after (s.keeps_loseOrigin _)
  · exact keeps_ite (fun _ => s.keeps_dropCarry i) fun _ => s.keeps_dropMerge i

theorem Part.keeps_unclean (s : Part) : s.Keeps { s with
    mrg.reqs := s.mrg.reqs.map fun (e : MergeReq) => { e with clean := false }
    mrg.ctxs := s.mrg.ctxs.map fun (c : MergeCtx) => { c with clean := false } } :=
  .of_vitals (by simp [vitals])

theorem Part.keeps_failMergeDirectives (s : Part) : s.Keeps s.failMergeDirectives := by
  unfold Part.failMergeDirectives
  extract_lets told mrg unclean
  have htold : s.Keeps told := by
    unfold told
    split
    · exact s.keeps_finishClean ..
    · exact s.keeps_finishClean ..
    · exact .refl s
  have hunclean : s.Keeps unclean := (keeps_unclean told).after htold
  split
  · exact hunclean
  · exact (keeps_ite (fun _ => keeps_finishDirective ..) fun _ => .refl _).after <| hunclean.trans (.of_vitals rfl)

theorem Part.keeps_degradeAccept (s : Part) : s.Keeps s.degradeAccept :=
  (keeps_foldl (fun s _ => s.keeps_finish ..) _ _).after (.of_vitals rfl)

theorem Part.keeps_failSettings (s : Part) : s.Keeps s.failSettings := by
  unfold Part.failSettings
  split
  · exact .refl s
  · exact keeps_ite (fun _ => .refl s) fun _ => s.keeps_finishDirective ..

theorem Part.keeps_markVoids (s : Part) : s.Keeps s.markVoids := by
  refine keeps_foldl (fun s o => ?_) _ s
  split
  · exact s.keeps_onRec _ fun _ => by rfl
  · exact .refl s

/-- A change of mode that begins no mount and ends none. -/
theorem Part.keeps_enter (s : Part) {m h} (hs : s.sys.mode ≠ .offline ∧ s.sys.mode ≠ .mounting)
    (hm : m ≠ .offline ∧ m ≠ .mounting) (hh : h ≠ .none ↔ m = .halted) : s.Keeps (s.enter m h) := by
  refine (keeps_raise ..).after ⟨fun hb => ?_, id, fun hb => ?_, id⟩
  · obtain ⟨hsized, hbounded, -, hkept⟩ := hb
    exact ⟨hsized, hbounded, hh, hkept⟩
  · obtain ⟨-, -, hocc⟩ := hb
    exact ⟨fun e => absurd e hm.1, fun e => absurd e hm.2, fun _ => hocc hs.2⟩

theorem Part.keeps_enterDegraded (s : Part) : s.Keeps s.enterDegraded :=
  keeps_ite (fun hm => (keeps_barrierParts _).after <| (keeps_degradeAccept _).after <|
    (keeps_failSettings _).after <| (keeps_failMergeDirectives _).after <|
    (keeps_foldl (fun s i => s.keeps_degradeCtx _ i) _ _).after <| (keeps_withdrawWrites _).after <|
    (keeps_dropHeld _).after <| (keeps_barrierParts _).after <| (keeps_markVoids _).after <|
    s.keeps_enter (by simp [hm]) (by simp) (by simp)) fun _ => .refl s

end Sys2Proof.Machine
end

section
/-! What every command keeps: the entry into HALTED, and the commands of the initiator (chapters 7 to 9). -/

namespace Sys2Proof.Machine

open Sys2Proof.Machine.Part

variable {s t u : Part}

/-! ### The entry into HALTED (R191) -/

theorem Initiator.at_tags (i : Initiator) {j : Initiator} (h : j.tags = i.tags) (k : Nat) : j.at k = i.at k := by
  simp only [Initiator.at, h]

/-- The commands in contexts stay and the detached work ends. -/
theorem Part.commandsSound_detached (h : s.commandsSound) (htags : t.ini.tags = s.ini.tags)
    (hcid : t.ini.nextCid = s.ini.nextCid) (hdet : t.ini.detached = []) : t.commandsSound := by
  obtain ⟨hactive, -⟩ := h
  simp only [commandsSound, Initiator.at_tags s.ini htags, hcid, hdet, List.not_mem_nil, false_imp_iff, implies_true,
    and_true]
  exact fun k c hc => ⟨(hactive k c hc).1, (hactive k c hc).2.1, (hactive k c hc).2.2.1, (hactive k c hc).2.2.2.1⟩

/-- Cleared tables meet the invariants of the tables, in any mode (R191, R193, R194). -/
theorem Part.keeps_clearTables (s : Part) : s.Keeps s.clearTables where
  bounds := by
    rintro ⟨⟨htags, hslots, hret, -⟩, ⟨hevents, hresp, hqueue, hexp, -, -, -, hburst⟩, hreason⟩
    exact ⟨⟨htags, hslots, hret, rfl⟩, ⟨hevents, hresp, hqueue, hexp, Nat.zero_le _, Nat.zero_le _, Nat.zero_le _, hburst⟩, hreason⟩
  index _ := ⟨List.Pairwise.nil, by simp [clearTables]⟩
  blocks _ := ⟨fun _ => rfl, fun _ => rfl, fun _ => rfl⟩
  contexts h := commandsSound_detached h rfl rfl rfl

/-- The same after any change of mode. -/
theorem Part.keeps_enter_clearTables (s : Part) {m h} (hh : h ≠ .none ↔ m = .halted) :
    s.Keeps (s.enter m h).clearTables := by
  refine ⟨fun hb => (keeps_clearTables _).bounds ((keeps_raise ..).bounds ?_), fun _ => ⟨List.Pairwise.nil, ?_⟩,
    fun _ => ⟨fun _ => rfl, fun _ => rfl, fun _ => rfl⟩, fun hc => commandsSound_detached hc rfl rfl rfl⟩
  · obtain ⟨hsized, hbounded, -, hkept⟩ := hb
    exact ⟨hsized, hbounded, hh, hkept⟩
  · simp [clearTables]

theorem Part.keeps_clearPort (s : Part) : s.Keeps s.clearPort where
  bounds := by
    rintro ⟨⟨htags, hslots, hrest⟩, hbounded, hreason, hkept⟩
    refine ⟨⟨htags, by simpa [clearPort, discardSlots] using hslots, hrest⟩, hbounded, hreason, fun k x hk hx => ?_⟩
    simp only [clearPort, discardSlots, List.getD_eq_getElem?_getD, List.getElem?_map] at hx
    cases hy : s.port.slots[k]? with
    | none => simp [hy] at hx
    | some o =>
      cases o with
      | none => simp [hy] at hx
      | some y =>
        obtain rfl : { y with discard := true } = x := by simpa [hy] using hx
        exact hkept k y hk (by simp [List.getD_eq_getElem?_getD, hy])
  index := id
  blocks := id
  contexts := id

theorem Referral.expire_expired_length (r : Referral) (id : Nat) : (r.expire id).expired.length ≤ 4 := by
  simp [Referral.expire, Config.expiredCapacity]

theorem Referral.expireAll_bounded (r : Referral) :
    r.expireAll.queue = [] ∧ (r.expired.length ≤ 4 → r.expireAll.expired.length ≤ 4) := by
  rw [Referral.expireAll_eq]
  refine ⟨rfl, ?_⟩
  dsimp only
  generalize r.expired = l
  induction r.queue generalizing l with
  | nil => exact id
  | cons e q ih => exact fun _ => ih _ (by simp)

theorem Part.keeps_expireAll (s : Part) : s.Keeps { s with ref := s.ref.expireAll } :=
  s.keeps_ref (fun _ => by simp [(Referral.expireAll_bounded _).1]) (Referral.expireAll_bounded _).2

theorem Part.keeps_enterHalted (s : Part) {h} (hh : h ≠ .none) : s.Keeps (s.enterHalted h) := by
  unfold Part.enterHalted
  extract_lets data entered cleared ini port out finished
  have hcleared : s.Keeps cleared := (keeps_clearPort _).after (s.keeps_enter_clearTables (by simp [hh]))
  have hout : s.Keeps out := (hcleared.trans (keeps_expireAll cleared)).trans (.of_vitals rfl)
  exact (keeps_finishDirective ..).after <| (keeps_foldl (fun s _ => s.keeps_finish ..) _ _).after hout

/-! ### Pages -/

theorem Part.keeps_formPages (s : Part) (k n) : s.Keeps (s.formPages k n).2 := by
  induction n generalizing s k with
  | zero => exact .refl s
  | succ n ih =>
    refine Keeps.trans (t := s.afterPage k) ?_ (ih _ _)
    exact keeps_ite (fun _ => s.keeps_win (fun h => (by simp; omega)) id) fun _ => .refl s

/-! ### Taking a command -/

theorem Part.keeps_advance (s : Part) (t) : s.Keeps (s.advance t) := by
  unfold Part.advance
  split
  · exact .refl s
  case h_2 hc => exact keeps_ite (fun _ => .refl s) fun _ => (keeps_send ..).after <| s.keeps_putTag hc ⟨rfl, rfl, rfl, rfl⟩

theorem Part.keeps_takeRead (s : Part) (t) : s.Keeps (s.takeRead t) := by
  unfold Part.takeRead
  split
  · exact .refl s
  case h_2 c hc =>
    extract_lets segs put pinned offered advanced
    have hadvanced : s.Keeps advanced := (keeps_advance ..).after <| (keeps_offerAll ..).after <|
      (keeps_foldl keeps_pin _ _).after <| s.keeps_putTag hc ⟨rfl, rfl, rfl, rfl⟩
    exact keeps_ite (fun _ => (keeps_finish ..).after hadvanced) fun _ => hadvanced

theorem Part.keeps_startReceiving (s : Part) (t) : s.Keeps (s.startReceiving t) := by
  unfold Part.startReceiving
  split
  · exact .refl s
  case h_2 hc => exact (keeps_send ..).after <| s.keeps_putTag hc ⟨rfl, rfl, rfl, rfl⟩

theorem Part.keeps_takeDiscard (s : Part) (t) : s.Keeps (s.takeDiscard t) := by
  unfold Part.takeDiscard
  split
  · exact .refl s
  case h_2 c hc =>
    refine keeps_ite (fun _ => s.keeps_finish ..) fun _ => keeps_ite (fun _ => s.keeps_finish ..) fun _ => ?_
    exact (s.keeps_putTag (d := { c with st := .working, parts := _ }) hc ⟨rfl, rfl, rfl, rfl⟩).trans (.of_vitals rfl)

theorem Part.keeps_takeFlush (s : Part) (t) : s.Keeps (s.takeFlush t) := by
  unfold Part.takeFlush
  split
  · exact .refl s
  case h_2 hc => exact keeps_ite (fun _ => s.keeps_finish ..) fun _ => s.keeps_putTag hc ⟨rfl, rfl, rfl, rfl⟩

theorem Part.keeps_takeIdentify (s : Part) (t) : s.Keeps (s.takeIdentify t) :=
  (keeps_finish ..).after (s.keeps_send _)

theorem Part.keeps_forward (s : Part) (t) : s.Keeps (s.forward t) := by
  unfold Part.forward
  split
  · exact .refl s
  case h_2 hc => exact (keeps_offer ..).after <| s.keeps_putTag hc ⟨rfl, rfl, rfl, rfl⟩

theorem Part.keeps_takeOther (s : Part) (t) : s.Keeps (s.takeOther t) := by
  unfold Part.takeOther
  split
  · exact .refl s
  case h_2 hc =>
    split
    · exact s.keeps_forward t
    · exact (keeps_forward ..).after <| s.keeps_putTag hc ⟨rfl, rfl, rfl, rfl⟩
    · exact s.keeps_startReceiving t

/-- A referral entry is created while there is room for it (R158). -/
theorem Part.keeps_refer (s : Part) (t) (hroom : s.ref.queue.length < 4) : s.Keeps (s.refer t) := by
  unfold Part.refer
  split
  · exact .refl s
  case h_2 c hc =>
    extract_lets id e q ref r queued put
    have hqueued : s.Keeps queued := s.keeps_ref (fun _ => by simpa [r, q] using hroom)
      fun h => (List.length_filter_le ..).trans h
    exact (keeps_raise ..).after <| (keeps_putTag queued (d := { c with st := .referred, refer := false }) hc
      ⟨rfl, rfl, rfl, rfl⟩).after hqueued

theorem Part.keeps_take (s : Part) (t)
    (hroom : ∀ c, s.ini.at t = some c → c.refer = true → s.ref.queue.length < 4) : s.Keeps (s.take t) := by
  unfold Part.take
  split
  · exact .refl s
  case h_2 c hc =>
    refine keeps_ite (fun hr => s.keeps_refer t (hroom c hc hr)) fun _ => ?_
    split
    · exact s.keeps_takeRead t
    · exact s.keeps_startReceiving t
    · exact s.keeps_takeDiscard t
    · exact s.keeps_takeFlush t
    · exact s.keeps_takeIdentify t
    · exact s.keeps_takeOther t

theorem Part.room_of_canTake {c : Cmd} (h : s.canTake c = true) (hr : c.refer = true) :
    s.ref.queue.length < 4 := by
  have hroom : s.ref.queue.length < Config.referralCapacity := by
    simpa only [canTake, hr, if_true, decide_eq_true_eq] using h
  exact hroom

theorem Initiator.at_set_imp {i : Initiator} {t k : Nat} {c d : Cmd}
    (h : ({ i with tags := i.tags.set t (some c) } : Initiator).at k = some d) :
    (t = k ∧ d = c) ∨ (t ≠ k ∧ i.at k = some d) := by
  by_cases hk : t = k
  · subst hk
    by_cases ht : t < i.tags.length
    · rw [Initiator.at_set_self _ _ _ ht] at h
      exact .inl ⟨rfl, (Option.some.inj h).symm⟩
    · simp [Initiator.at, List.getD_eq_getElem?_getD, ht] at h
  · rw [Initiator.at_set_ne _ _ _ _ hk] at h
    exact .inr ⟨hk, h⟩

/-- A command is taken or queued in a context that can hold it. -/
theorem Part.keeps_enqueue (s : Part) (c : Cmd)
    (h : ∀ d, c.Same d → u.Keeps (s.putTag c.tag (some d))) : u.Keeps (s.enqueue c) := by
  unfold Part.enqueue
  refine keeps_ite (fun _ => ?_) fun htaken => ?_
  · exact (h { c with st := .waiting } ⟨rfl, rfl, rfl, rfl⟩).trans (.of_vitals rfl)
  · refine (keeps_take _ _ fun d hd hr => ?_).after (h { c with st := .working } ⟨rfl, rfl, rfl, rfl⟩)
    obtain ⟨-, rfl⟩ | ⟨hne, -⟩ := Initiator.at_set_imp hd
    · have hr : c.refer = true := hr
      refine room_of_canTake (s := s) (c := c) ?_ hr
      simp only [hr, Bool.true_or, Bool.true_and, Bool.or_eq_true, not_or, Bool.not_eq_true] at htaken
      simpa using htaken.2
    · exact absurd rfl hne

theorem Part.keeps_takeHead (h : s.takeHead = some t) : s.Keeps t := by
  obtain ⟨tag, rest, c, -, hc, hcan, rfl⟩ := Part.takeHead_some s t h
  refine (keeps_take _ _ fun d hd hr => ?_).after (.of_vitals rfl)
  obtain rfl : c = d := Option.some.inj (hc.symm.trans hd)
  exact room_of_canTake hcan hr

theorem Part.keeps_serveAccept (s : Part) : s.Keeps s.serveAccept :=
  keeps_repeatStep (fun _ _ h => keeps_takeHead h) _ s

/-- A frame on a FREE tag is accepted (R128, R130). -/
theorem Part.keeps_acceptFrame (s : Part) (c : Cmd) (hfree : s.ini.at c.tag = none)
    (hwin : c.window = true → c.cls = .write) : s.Keeps (s.acceptFrame c) := by
  refine keeps_enqueue _ _ fun d hd => ?_
  obtain ⟨hcid, htag, hw, hcls⟩ := hd
  have hkeep := s.keeps_newCommand (c := d) (by rw [htag]; exact hfree) hcid (by rw [hw, hcls]; exact hwin)
  rwa [htag] at hkeep

/-! ### Frames -/

theorem Part.keeps_refuse (s : Part) (t c) : s.Keeps (s.refuse t c) := s.keeps_send _

theorem Part.keeps_tagged (s : Part) (t) {f : Part → Part} (hf : s.ini.at t = none → s.Keeps (f s)) :
    s.Keeps (s.tagged t f) :=
  keeps_ite (fun _ => s.keeps_refuse ..) fun h => hf (by simpa using h)

theorem Part.keeps_windowRead (s : Part) (t page n) : s.Keeps (s.windowRead t page n) :=
  (keeps_send ..).after <| (keeps_send ..).after (s.keeps_formPages page n)

theorem Part.keeps_windowWrite (s : Part) (t page n : Nat) (hfree : s.ini.at t = none) :
    s.Keeps (s.windowWrite t page n) :=
  (keeps_send ..).after <| s.keeps_newCommand
    (c := { cid := s.ini.nextCid, tag := t, cls := .write, lba := s.logBlocks + page, count := n, window := true
            page := page }) hfree rfl fun _ => rfl

theorem Part.keeps_readFrame (s : Part) (t a n) : s.Keeps (s.readFrame t a n) := by
  refine s.keeps_tagged t fun hfree => ?_
  split
  · exact s.keeps_refuse ..
  · exact s.keeps_windowRead ..
  · exact s.keeps_acceptFrame _ hfree (by simp)

theorem Part.keeps_latchRefusal (s : Part) (l) : s.Keeps (s.latchRefusal l) := by
  unfold Part.latchRefusal
  split
  · exact .of_vitals rfl
  · exact (keeps_raise ..).after (.of_vitals rfl)

theorem Part.keeps_retention (s : Part) (tag cls a n) {f : Part → Part}
    (hf : ∀ t : Part, t.ini = s.ini → t.Keeps (f t)) : s.Keeps (s.retention tag cls a n f) := by
  unfold Part.retention
  extract_lets ret noted
  have hnoted : s.Keeps noted := s.keeps_entries fun h => by simpa using h
  split
  · exact (keeps_refuse ..).after <| (keeps_latchRefusal ..).after hnoted
  · exact (hf noted rfl).after hnoted

theorem Part.keeps_writeFrame (s : Part) (t a n) : s.Keeps (s.writeFrame t a n) := by
  refine s.keeps_tagged t fun hfree => ?_
  split
  · exact s.keeps_refuse ..
  · exact s.keeps_windowWrite _ _ _ hfree
  · exact keeps_ite (fun _ => s.keeps_refuse ..) fun _ =>
      s.keeps_retention _ _ _ _ fun t ht => t.keeps_acceptFrame _ (by rw [ht]; exact hfree) (by simp)

theorem Part.keeps_discardFrame (s : Part) (t a n) : s.Keeps (s.discardFrame t a n) := by
  refine s.keeps_tagged t fun hfree => ?_
  split
  · exact s.keeps_refuse ..
  · exact .refl s
  · exact keeps_ite (fun _ => s.keeps_refuse ..) fun _ => keeps_ite (fun _ => s.keeps_refuse ..) fun _ =>
      s.keeps_retention _ _ _ _ fun t ht => t.keeps_acceptFrame _ (by rw [ht]; exact hfree) (by simp)

theorem Part.keeps_flushFrame (s : Part) (t) : s.Keeps (s.flushFrame t) :=
  s.keeps_tagged t fun hfree => keeps_ite (fun _ => s.keeps_refuse ..) fun _ =>
    s.keeps_acceptFrame _ hfree (by simp)

theorem Part.keeps_identifyFrame (s : Part) (t) : s.Keeps (s.identifyFrame t) :=
  s.keeps_tagged t fun hfree => s.keeps_acceptFrame _ hfree (by simp)

theorem Part.keeps_otherFrame (s : Part) (t op ps dir n) : s.Keeps (s.otherFrame t op ps dir n) := by
  refine s.keeps_tagged t fun hfree => ?_
  split
  · exact s.keeps_refuse ..
  · refine keeps_ite (fun _ => s.keeps_refuse ..) fun _ => ?_
    split
    · exact s.keeps_refuse ..
    · exact keeps_ite (fun _ => s.keeps_refuse ..) fun _ => s.keeps_acceptFrame _ hfree (by simp)
    · exact keeps_ite (fun _ => s.keeps_refuse ..) fun _ => s.keeps_acceptFrame _ hfree (by simp)

theorem Part.keeps_unknownFrame (s : Part) (t) : s.Keeps (s.unknownFrame t) :=
  s.keeps_tagged t fun _ => s.keeps_refuse ..

/-! ### Statuses, expiries, the upstream link -/

theorem Part.keeps_commandStatus (s : Part) (t) : s.Keeps (s.commandStatus t) := by
  unfold Part.commandStatus
  split
  · exact s.keeps_finish ..
  · exact .refl s

theorem Part.keeps_flushDone (s : Part) (t) : s.Keeps (s.flushDone t) := by
  unfold Part.flushDone
  split
  · exact .refl s
  · exact keeps_ite (fun _ => s.keeps_finish ..) fun _ => .refl s

theorem Part.keeps_expireFirst (s : Part) (id) : s.Keeps (s.expireFirst id) := by
  unfold Part.expireFirst
  split
  · exact .refl s
  · exact keeps_ite (fun _ => (keeps_raise ..).after <| s.keeps_ref (fun h => by simpa using h) (by exact fun h => h))
      fun _ => .refl s

theorem Part.keeps_expireLate (s : Part) (id) : s.Keeps (s.expireLate id) := by
  unfold Part.expireLate
  split
  · exact .refl s
  · exact keeps_ite (fun _ => (keeps_raise ..).after <| (keeps_finish ..).after <|
      s.keeps_ref (fun h => (List.length_filter_le ..).trans h) fun _ => Referral.expire_expired_length ..)
      fun _ => .refl s

theorem Part.keeps_withdrawOffer (s : Part) (o) : s.Keeps (s.withdrawOffer o) := by
  unfold Part.withdrawOffer
  split
  · exact (keeps_onCmd _ _ fun _ => ⟨by rfl, by rfl, by rfl, by rfl⟩).after (s.keeps_unpinOpt _)
  · exact s.keeps_onCmd _ fun c => c.setPart_same ..
  · exact .refl s

theorem Part.detach_cid {c d : Cmd} (h : s.detach c = some d) : d.cid = c.cid := by
  unfold Part.detach at h
  split at h
  · cases h
  · split at h <;> cases h <;> rfl

theorem Initiator.exists_at_of_mem_active {i : Initiator} {c : Cmd} (h : c ∈ i.active) : ∃ k, i.at k = some c := by
  obtain ⟨o, ho, hoc⟩ := List.mem_filterMap.mp h
  obtain ⟨k, hk, rfl⟩ := List.mem_iff_getElem.mp ho
  exact ⟨k, by simpa [Initiator.at, List.getD_eq_getElem?_getD, hk] using hoc⟩

/-- Every context becomes FREE, and dropped commands may go on detached (R146, R147). -/
theorem Part.keeps_detachAll (s : Part) {i : Initiator} (htags : i.tags = List.replicate 32 none)
    (hcid : i.nextCid = s.ini.nextCid)
    (hdet : i.detached = s.ini.detached ++ s.ini.active.filterMap s.detach) : s.Keeps { s with ini := i } where
  bounds := by
    rintro ⟨⟨-, hrest⟩, hbounded⟩
    exact ⟨⟨by simp [htags], hrest⟩, hbounded⟩
  index := id
  blocks := id
  contexts := by
    rintro ⟨hactive, hdetached⟩
    refine ⟨fun k c hc => ?_, fun d hd => ?_⟩
    · have hfree : i.at k = none := by
        simp only [Initiator.at, htags, List.getD_eq_getElem?_getD, List.getElem?_replicate]
        split <;> rfl
      cases hfree.symm.trans hc
    · rw [show ({ s with ini := i } : Part).ini = i from rfl, hdet, List.mem_append, List.mem_filterMap] at hd
      show d.cid < i.nextCid
      rw [hcid]
      obtain hd | ⟨c, hc, hcd⟩ := hd
      · exact hdetached d hd
      · obtain ⟨k, hk⟩ := Initiator.exists_at_of_mem_active hc
        rw [detach_cid hcd]
        exact (hactive k c hk).2.1

theorem Part.keeps_upstreamReset (s : Part) : s.Keeps s.upstreamReset := by
  unfold Part.upstreamReset
  extract_lets mine os withdrawn held replaced gone
  have hreplaced : s.Keeps replaced :=
    (keeps_foldl (fun s _ => s.keeps_onCmd _ fun c => c.setPart_same ..) _ _).after <|
      (keeps_foldl keeps_withdrawOffer _ _).after (s.keeps_withdraw mine)
  exact (hreplaced.trans (keeps_expireAll replaced)).trans (keeps_detachAll _ rfl rfl rfl)

/-! ### Completions -/

theorem Part.keeps_advanceCid (s : Part) (cid) : s.Keeps (s.advanceCid cid) := by
  unfold Part.advanceCid
  split
  · exact s.keeps_advance _
  · exact .refl s

theorem Part.keeps_raiseReadError (s : Part) (abs code) : s.Keeps (s.raiseReadError abs code) :=
  keeps_ite (fun _ => .refl s) fun _ => s.keeps_raise ..

theorem Part.keeps_fgReadFinal (s : Part) (cid i abs pin code bs) :
    s.Keeps (s.fgReadFinal cid i abs pin code bs) :=
  (keeps_advanceCid ..).after <| (keeps_raiseReadError ..).after <|
    (keeps_onCmd _ _ fun _ => ⟨by rfl, by rfl, by rfl, by rfl⟩).after (s.keeps_unpinOpt _)

theorem Part.keeps_forwardedFinal (s : Part) (cid code) : s.Keeps (s.forwardedFinal cid code) :=
  s.keeps_partFinal ..

end Sys2Proof.Machine
end

section
/-! What every command keeps: the merge engine (chapter 5). -/

namespace Sys2Proof.Machine

open Sys2Proof.Machine.Part

variable {s t u : Part}

/-! ### Carry-forward -/

theorem Part.keeps_issueCarryRead {i : Nat} (h : s.issueCarryRead i = some t) : s.Keeps t := by
  unfold Part.issueCarryRead at h
  split at h
  · cases h
  · split at h
    case isFalse => cases h
    case isTrue =>
      split at h
      · cases h
      · obtain rfl := Option.some.inj h
        exact (keeps_offer ..).after <| (keeps_onCtx ..).after (s.keeps_pin _)

theorem Part.keeps_issueCarryReads (s : Part) (i) : s.Keeps (s.issueCarryReads i) :=
  keeps_repeatStep (fun _ _ h => keeps_issueCarryRead h) _ s

theorem Part.keeps_idleCtx (s : Part) (i) : s.Keeps (s.idleCtx i) := s.keeps_onCtx ..

theorem Part.keeps_carryFailed (s : Part) (l seq n code) : s.Keeps (s.carryFailed l seq n code) :=
  (keeps_ite (fun _ => keeps_enterDegraded _) fun _ => .of_vitals (by rfl)).after (s.keeps_raise ..)

theorem Part.keeps_checkCarry (s : Part) (i) : s.Keeps (s.checkCarry i) := by
  unfold Part.checkCarry
  dsimp only
  split
  · exact keeps_ite (fun _ => (s.keeps_onCtx i _).trans (.of_vitals rfl)) fun _ => s.keeps_idleCtx i
  · exact .refl s

theorem Part.keeps_checkCarryIfRead (s : Part) (i) : s.Keeps (s.checkCarryIfRead i) := by
  unfold Part.checkCarryIfRead
  split
  · exact keeps_ite (fun _ => s.keeps_checkCarry i) fun _ => .refl s
  · exact .refl s

theorem Part.keeps_beginCarry (s : Part) (i r l) : s.Keeps (s.beginCarry i r l) :=
  (keeps_checkCarryIfRead ..).after <| (keeps_issueCarryReads ..).after (s.keeps_onCtx ..)

theorem Part.keeps_carryReadFinal (s : Part) (i k pin code bs) : s.Keeps (s.carryReadFinal i k pin code bs) := by
  unfold Part.carryReadFinal
  dsimp only
  split
  · exact s.keeps_unpinOpt pin
  · exact (keeps_ite (fun _ => .refl _) fun _ =>
        keeps_ite
          (fun _ => (keeps_checkCarryIfRead ..).after <| (keeps_issueCarryReads ..).after (keeps_onCtx ..))
          fun _ => (keeps_carryFailed ..).after (keeps_onCtx ..)).after <|
      (keeps_onCtx ..).after (s.keeps_unpinOpt pin)

/-! ### The start test -/

theorem Part.keeps_takeBand (s : Part) (i l o c) : s.Keeps (s.takeBand i l o c) :=
  (keeps_onCtx ..).after (s.keeps_onL ..)

theorem Part.keeps_takeListed (s : Part) (i l o) : s.Keeps (s.takeListed i l o) := by
  unfold Part.takeListed
  split
  · exact s.keeps_takeBand ..
  · exact (keeps_rescan _).after <| (keeps_takeBand ..).after (s.keeps_dropReq l)

theorem Part.keeps_walkList (s : Part) (i fuel k) : s.Keeps (s.walkList i fuel k).1 := by
  induction fuel generalizing s k with
  | zero => exact .refl s
  | succ fuel ih =>
    unfold Part.walkList
    split
    case h_1 => exact .refl s
    case h_2 e he =>
      dsimp only
      split
      · exact ih ..
      · split
        · exact (ih ..).after <| (keeps_rescan _).after <|
            (keeps_ite (fun _ => keeps_finishClean ..) fun _ => .refl _).after (s.keeps_dropReq _)
        · exact (keeps_rescan _).after <| (keeps_takeBand ..).after (s.keeps_dropReq _)

theorem Part.keeps_pressureSource {i : Nat} (h : s.pressureSource i = some t) : s.Keeps t := by
  unfold Part.pressureSource at h
  split at h
  case isFalse => cases h
  case isTrue =>
    split at h
    · cases h
    · split at h
      · cases h
      · obtain rfl := Option.some.inj h
        exact s.keeps_takeListed ..

theorem Part.keeps_tailWalk {i : Nat} {first : Bool} {rs : List Rec} (h : s.tailWalk i first rs = some t) :
    s.Keeps t := by
  induction rs generalizing first with
  | nil => cases h
  | cons r rs ih =>
    unfold Part.tailWalk at h
    dsimp only at h
    split at h
    · cases h
    split at h
    · cases h
    split at h
    · exact ih h
    split at h
    · cases h
    split at h
    · exact ih h
    split at h
    · split at h
      · obtain rfl := Option.some.inj h
        exact s.keeps_beginCarry ..
      · cases h
    · obtain rfl := Option.some.inj h
      exact s.keeps_takeListed ..

theorem Part.keeps_tailSource {i : Nat} (h : s.tailSource i = some t) : s.Keeps t := by
  unfold Part.tailSource at h
  split at h
  · cases h
  · exact keeps_tailWalk h

theorem Part.keeps_drain (s : Part) (d) : s.Keeps { s with mrg.drain := d } := .of_vitals rfl

theorem Part.keeps_drainWalk (s : Part) (i ls) : s.Keeps (s.drainWalk i ls).1 := by
  induction ls generalizing s with
  | nil => exact s.keeps_drain _
  | cons l ls ih =>
    unfold Part.drainWalk
    dsimp only
    split
    · exact ih s
    split
    · exact (ih _).after (s.keeps_drain _)
    split
    · exact s.keeps_drain _
    · exact (keeps_takeListed ..).after (s.keeps_drain _)

theorem Part.keeps_drainSource (s : Part) (i) : s.Keeps (s.drainSource i).1 := by
  unfold Part.drainSource
  split
  · exact .refl s
  · exact s.keeps_drainWalk i _

theorem Part.keeps_startOnce (s : Part) : s.Keeps s.startOnce.1 := by
  unfold Part.startOnce
  split
  case h_1 => exact .refl s
  case h_2 i _ =>
    have hlist := s.keeps_walkList i (4 * Config.requestCapacity) 0
    split
    next hw => rwa [hw] at hlist
    next hw =>
      rw [hw] at hlist
      refine Keeps.after ?_ hlist
      split
      · exact keeps_pressureSource ‹_›
      · split
        · exact keeps_tailSource ‹_›
        · exact keeps_drainSource ..

theorem Part.keeps_startRuns (fuel) (s : Part) : s.Keeps (startRuns fuel s) := by
  induction fuel generalizing s with
  | zero => exact .refl s
  | succ fuel ih =>
    have honce := s.keeps_startOnce
    unfold Part.startRuns
    split
    next h =>
      rw [h] at honce
      exact (ih _).after honce
    next h => rwa [h] at honce

theorem Part.keeps_startTest (s : Part) : s.Keeps s.startTest :=
  keeps_ite (fun _ => (keeps_drainCheck _).after (keeps_startRuns 3 s)) fun _ => .refl s

theorem Part.keeps_deadlockCheck (s : Part) : s.Keeps s.deadlockCheck :=
  keeps_ite (fun _ => (keeps_ite (fun _ => keeps_enterDegraded _) fun _ => .refl _).after s.keeps_startTest)
    fun _ => .refl s

/-! ### The snapshot, reads and units -/

theorem Part.keeps_beginCommit (s : Part) (i) : s.Keeps (s.beginCommit i) :=
  (s.keeps_onCtx i _).trans (.of_vitals rfl)

theorem Part.keeps_snapshot (s : Part) (i) : s.Keeps (s.snapshot i) :=
  keeps_ite (fun _ => (keeps_ite (fun _ => keeps_beginCommit ..) fun _ => keeps_obtainTarget ..).after <|
    (keeps_onCtx ..).after <| keeps_foldl (fun s _ => s.keeps_pin _) _ s) fun _ => .refl s

theorem Part.keeps_issueRead (s : Part) (i) : s.Keeps (s.issueRead i) := by
  unfold Part.issueRead
  refine keeps_ite (fun _ => ?_) fun _ => .refl s
  split
  · exact .refl s
  · exact keeps_ite (fun _ => (keeps_offer ..).after <| (keeps_onCtx ..).after (s.keeps_pin _)) fun _ => .refl s

theorem Part.keeps_mergeReadFinal (s : Part) (i off n pin code bs) : s.Keeps (s.mergeReadFinal i off n pin code bs) :=
  (keeps_ite (fun _ => .refl _) fun _ => keeps_ite (fun _ => keeps_onCtx ..) fun _ => keeps_faultMerge ..).after <|
    (keeps_onCtx ..).after (s.keeps_unpinOpt pin)

theorem Part.keeps_offerUnit (s : Part) (i) : s.Keeps (s.offerUnit i) := by
  unfold Part.offerUnit
  dsimp only
  split
  · exact .refl s
  · exact keeps_ite (fun _ => (keeps_offer ..).after (s.keeps_onCtx ..)) fun _ => .refl s

theorem Part.keeps_unitFinal (s : Part) (i p start n code) : s.Keeps (s.unitFinal i p start n code) :=
  (keeps_ite
    (fun _ => (keeps_ite (fun _ => keeps_beginCommit ..) fun _ => .refl _).after <|
      (keeps_onCtx ..).after (keeps_onP ..))
    fun _ => keeps_ite (fun _ => keeps_failMerge ..) fun _ => .refl _).after (s.keeps_onCtx ..)

theorem Part.keeps_releaseCtx (s : Part) (i) : s.Keeps (s.releaseCtx i) :=
  keeps_ite (fun _ => (keeps_deadlockCheck _).after <| (keeps_drainCheck _).after (s.keeps_idleCtx i)) fun _ => .refl s

theorem Part.keeps_handBand (s : Part) : s.Keeps s.handBand := by
  unfold Part.handBand
  split
  · exact (keeps_giveTarget ..).after (.of_vitals rfl)
  · exact .refl s

end Sys2Proof.Machine
end

section
/-! What every command keeps: record writes, settlement, reclaim and anchor writes (chapter 3). -/

namespace Sys2Proof.Machine

open Sys2Proof.Machine.Part

variable {s t u : Part}

/-! ### Record writes -/

theorem Part.keeps_raiseVoid (s : Part) (r code) : s.Keeps (s.raiseVoid r code) := s.keeps_raise ..

theorem Part.keeps_offerVoid (s : Part) (r) : s.Keeps (s.offerVoid r) :=
  keeps_ite (fun _ => (keeps_barrierParts _).after <| s.keeps_onRec _ fun _ => by rfl) fun _ => s.keeps_offer _

theorem Part.keeps_recordFinal (s : Part) (q code) : s.Keeps (s.recordFinal q code) := by
  unfold Part.recordFinal
  split
  · exact .refl s
  · exact keeps_ite (fun _ => (keeps_barrierParts _).after <| s.keeps_onRec _ fun _ => by rfl)
      fun _ => (keeps_offerVoid ..).after <| s.keeps_onRec _ fun _ => by rfl

theorem Part.keeps_voidFinal (s : Part) (q code) : s.Keeps (s.voidFinal q code) := by
  unfold Part.voidFinal
  split
  · exact .refl s
  · exact keeps_ite
      (fun _ => (keeps_raiseVoid ..).after <| (keeps_barrierParts _).after <| s.keeps_onRec _ fun _ => by rfl)
      fun _ => (keeps_barrierParts _).after <| (keeps_raiseVoid ..).after <| (keeps_enterDegraded _).after <|
        s.keeps_onRec _ fun _ => by rfl

/-! ### Settlement -/

theorem Part.keeps_settleCounts (s : Part) (r) : s.Keeps (s.settleCounts r) := by
  unfold Part.settleCounts
  split
  · exact (keeps_ite (fun _ => keeps_releaseIndex ..) fun _ => .refl _).after (s.keeps_onL ..)
  · exact .refl s

theorem Part.keeps_settleExtent (s : Part) (r l) : s.Keeps (s.settleExtent r l) :=
  (keeps_ite (fun _ => keeps_offerLimit ..) fun _ => .refl _).after (s.keeps_insertExtent _)

theorem Part.keeps_endCarry (s : Part) (i p) : s.Keeps (s.endCarry i p) := by
  unfold Part.endCarry
  dsimp only
  split
  · exact (keeps_carryFailed ..).after (s.keeps_idleCtx i)
  · exact (s.keeps_idleCtx i).trans (.of_vitals rfl)

theorem Part.keeps_carrySettled (s : Part) (i n void) : s.Keeps (s.carrySettled i n void) := by
  unfold Part.carrySettled
  dsimp only
  split
  · exact .refl s
  · exact (keeps_ite (fun _ => keeps_endCarry ..) fun _ => .refl _).after (s.keeps_onCtx ..)

theorem Part.keeps_settleCarry (s : Part) (r) : s.Keeps (s.settleCarry r) := by
  unfold Part.settleCarry
  split
  · exact s.keeps_repoint ..
  · exact .refl s

theorem Part.keeps_tellVoid (s : Part) (r) : s.Keeps (s.tellVoid r) := by
  unfold Part.tellVoid
  split
  · exact .refl s
  · exact s.keeps_partFinal ..
  · exact s.keeps_failMerge ..
  · exact s.keeps_carrySettled ..

theorem Part.keeps_settleVoid (s : Part) (r) : s.Keeps (s.settleVoid r) :=
  (keeps_tellVoid ..).after <| (keeps_evalPressure _).after <| (keeps_settleCounts ..).after <|
    s.keeps_onRec _ fun _ => by rfl

/-- The part of a command that a record is comes to its end; a record of no command ends none (R137). -/
theorem Part.keeps_partDone (s : Part) (o : Origin) :
    s.Keeps (match o with | .cmd cid part => s.partFinal cid part .done | _ => s) := by
  split
  · exact s.keeps_partFinal ..
  · exact .refl s

theorem Part.keeps_settleEffect (s : Part) (r) : s.Keeps (s.settleEffect r) := by
  unfold Part.settleEffect
  dsimp only
  refine Keeps.after ?_ (s.keeps_settleCounts r)
  split
  · exact keeps_commitMerge ..
  · exact .refl _
  · exact (keeps_carrySettled ..).after (keeps_settleCarry ..)
  · exact (keeps_partDone _ _).after <|
      keeps_ite (fun _ => keeps_discardBand ..) fun _ => (keeps_evalPressure _).after (keeps_settleExtent ..)
  · exact (keeps_partDone _ _).after <| (keeps_evalPressure _).after (keeps_settleExtent ..)
  · exact .refl _

theorem Part.keeps_settleOne (h : s.settleOne = some t) : s.Keeps t := by
  unfold Part.settleOne at h
  split at h
  · cases h
  · split at h
    case isFalse => cases h
    case isTrue =>
      obtain rfl := Option.some.inj h
      refine (keeps_ite (fun _ => keeps_settleVoid ..) fun _ => keeps_settleEffect ..).after ?_
      exact (s.keeps_onRec _ fun _ => by rfl).trans (.of_vitals rfl)

theorem Part.keeps_settle (s : Part) : s.Keeps s.settle := keeps_repeatStep (fun _ _ h => keeps_settleOne h) _ s

/-! ### Reclaim and anchor writes -/

theorem Part.keeps_reclaimAdvance (s : Part) : s.Keeps s.reclaimAdvance := by
  unfold Part.reclaimAdvance
  refine keeps_ite (fun _ => ?_) fun _ => .refl s
  split
  · exact .refl s
  case h_2 h =>
    exact (keeps_triggerAnchor _).after <| (keeps_repeatStep (fun _ _ h => keeps_reclaimOne h) _ _).after (keeps_reclaimOne h)

theorem Part.keeps_creditFor (s : Part) (n) : s.Keeps (s.creditFor n) :=
  keeps_ite (fun _ => s.keeps_pace fun _ =>
    ⟨Nat.min_le_left .., Nat.le_of_lt_succ (Nat.mod_lt _ (by decide))⟩) fun _ => .refl s

/-- The lengths of a table are those of the records kept and those of the records removed. -/
theorem sum_len_filter (rs : List Rec) (f : Rec → Bool) :
    ((rs.filter fun r => !f r).map (·.len)).sum + ((rs.filter f).map (·.len)).sum = (rs.map (·.len)).sum := by
  induction rs with
  | nil => rfl
  | cons r rs ih => cases h : f r <;> simp [h] <;> omega

/-- The records before the durable tail leave the table, and their blocks the occupancy (R60). -/
theorem Part.keeps_dropRecords (s : Part) (hm : s.sys.mode ≠ .offline ∧ s.sys.mode ≠ .mounting) (tail) (f : Rec → Bool) :
    s.Keeps { s with log := { s.log with
      tail := tail, table := s.log.table.filter (fun r => !f r),
      occ := s.log.occ - ((s.log.table.filter f).map (·.len)).sum } } where
  bounds := id
  index := id
  blocks := by
    simp only [blocksCounted_iff]
    rintro ⟨-, -, hocc⟩
    refine ⟨fun h => absurd h hm.1, fun h => absurd h hm.2, fun _ => ?_⟩
    have := hocc hm.2
    have := sum_len_filter s.log.table f
    show s.log.occ - _ = _
    omega
  contexts := id

theorem Part.modes_of_holdsLog (h : s.holdsLog = true) : s.sys.mode ≠ .offline ∧ s.sys.mode ≠ .mounting := by
  constructor <;> intro hm <;> simp [holdsLog, mounted, hm] at h

theorem Part.keeps_anchorGood (s : Part) (w) (hm : s.holdsLog = true) : s.Keeps (s.anchorGood w) :=
  (keeps_ite (fun _ => keeps_triggerAnchor _) fun _ => .refl _).after <|
    Keeps.after (.of_vitals (by rfl)) <| (keeps_finishSettings ..).after <| Keeps.after (.of_vitals (by rfl)) <|
    (keeps_evalLevel _).after <| (keeps_creditFor ..).after <|
    s.keeps_dropRecords (modes_of_holdsLog hm) w.tail fun r => decide (r.seq < w.tailSeq)

theorem Part.keeps_failPendingSettings (s : Part) : s.Keeps s.failPendingSettings :=
  keeps_ite (fun _ => s.keeps_finishDirective ..) fun _ => .refl s

theorem Part.keeps_anchorFailed (s : Part) (w code) : s.Keeps (s.anchorFailed w code) :=
  keeps_ite
    (fun _ => (keeps_ite (fun _ => keeps_offerAnchor _)
      fun _ => (keeps_finishSettings ..).after (.of_vitals (by rfl))).after (.of_vitals (by rfl)))
    fun _ => Keeps.after (.of_vitals (by rfl)) <| (keeps_failPendingSettings _).after <| (keeps_raise ..).after <|
      (keeps_enterDegraded _).after (.of_vitals (by rfl))

theorem Part.keeps_anchorFinal (s : Part) (code) : s.Keeps (s.anchorFinal code) := by
  unfold Part.anchorFinal
  split
  · exact .refl s
  · exact keeps_ite (fun _ => .refl s) fun h =>
      keeps_ite (fun _ => s.keeps_anchorGood _ (by simpa using h)) fun _ => s.keeps_anchorFailed ..

end Sys2Proof.Machine
end

section
/-! What every command keeps: the drive port (chapter 6). -/

namespace Sys2Proof.Machine

open Sys2Proof.Machine.Part

variable {s t u : Part}

/-! ### Grants -/

/-- The next grant is of an offer of the class that its slot is free for (R114). -/
theorem Part.nextGrant_class {k i : Nat} {o : Offer} (h : s.nextGrant = some (k, i)) (ho : s.port.offers[i]? = some o)
    (hk : 28 ≤ k) : o.cls = .a ∨ o.cls = .e := by
  obtain ⟨x, -, hx⟩ := List.exists_of_findSome?_eq_some h
  split at hx
  · cases hx
  case h_2 j hslot =>
    obtain ⟨i', hfind, he⟩ := Option.map_eq_some_iff.mp hx
    obtain ⟨rfl, rfl⟩ := Prod.mk.inj he
    obtain ⟨hlt, hcls, -⟩ := List.findIdx?_eq_some_iff_getElem.mp hfind
    obtain rfl : s.port.offers[i'] = o := Option.some.inj ((List.getElem?_eq_getElem hlt).symm.trans ho)
    have hocls : s.port.offers[i'].cls = x := by simpa using (Bool.and_eq_true_iff.mp hcls).1
    have hgeneral : s.port.general ≠ some j := fun hg => by
      have := List.mem_range.mp (List.mem_of_find?_eq_some hg)
      omega
    rw [hocls]
    unfold Port.slotFor at hslot
    split at hslot
    · exact .inl rfl
    · exact .inr rfl
    · exact absurd hslot hgeneral

/-- A slot is given a command of a class that it is kept for (R114). -/
theorem Part.keeps_grant (s : Part) (k) (o : Offer) (h : 28 ≤ k → o.cls = .a ∨ o.cls = .e) : s.Keeps (s.grant k o) := by
  unfold Part.grant
  extract_lets first o' blocks s'
  have hcls : o'.cls = o.cls := by
    simp only [o']
    split <;> rfl
  have hs : s.Keeps s' := by
    simp only [s']
    split
    · exact s.keeps_onP ..
    · exact .refl s
  have hslots : s'.port = s.port := by
    simp only [s']
    split <;> rfl
  refine Keeps.after ?_ hs
  refine (s'.keeps_setSlot k (x := some { offer := o' }) fun y hy hk => ?_).trans (.of_vitals ?_)
  · obtain rfl := Option.some.inj hy
    rw [hcls]
    exact h hk
  · simp [vitals, hslots]

theorem Part.keeps_bandWriteFinal (s : Part) (o code) : s.Keeps (s.bandWriteFinal o code) := by
  unfold Part.bandWriteFinal
  split
  · exact keeps_ite (fun _ => s.keeps_appendGood ..) fun _ => s.keeps_appendFail ..
  · exact s.keeps_unitFinal ..
  · exact .refl s

theorem Part.keeps_grantOne (h : s.grantOne = some t) : s.Keeps t := by
  unfold Part.grantOne at h
  split at h
  case isFalse => cases h
  case isTrue =>
    split at h
    · cases h
    case h_2 k i hnext =>
      split at h
      · cases h
      case h_2 o ho =>
        obtain rfl := Option.some.inj h
        exact (keeps_ite (fun _ => keeps_grant _ k o (nextGrant_class hnext ho))
          fun _ => keeps_bandWriteFinal ..).after (.of_vitals rfl)

theorem Part.keeps_grantAll (s : Part) : s.Keeps s.grantAll := keeps_repeatStep (fun _ _ h => keeps_grantOne h) _ s

/-! ### Completions and recovery -/

theorem Part.keeps_complete (s : Part) (k mine) {f : Offer → Part → Part}
    (hf : ∀ (o : Offer) (s : Part), mine o.work = true → s.Keeps (f o s)) : s.Keeps (s.complete k mine f) := by
  unfold Part.complete
  split
  · exact .refl s
  · refine keeps_ite (fun hmine => ?_) fun _ => .refl s
    have hfree := s.keeps_setSlot k (x := none) (by simp)
    exact keeps_ite (fun _ => hfree) fun _ => (hf _ _ hmine).after <| (keeps_clearOut ..).after hfree

theorem Part.keeps_rejoin (s : Part) (os) : s.Keeps (s.rejoin os) := .of_vitals rfl
theorem Part.keeps_dropRecovering (s : Part) (b) : s.Keeps (s.dropRecovering b) := .of_vitals rfl

theorem Part.keeps_endRecovery (s : Part) (o code) : s.Keeps (s.endRecovery o code) :=
  (keeps_bandWriteFinal ..).after (s.keeps_clearOut _)

theorem Part.keeps_recoveryGood (s : Part) (p w) : s.Keeps (s.recoveryGood p w) := by
  unfold Part.recoveryGood
  extract_lets t
  have ht : s.Keeps t := s.keeps_onP ..
  refine Keeps.after ?_ ht
  split
  · exact .refl _
  · refine Keeps.after ?_ (keeps_dropRecovering _ p)
    split
    · exact keeps_ite (fun _ => keeps_endRecovery ..) fun _ =>
        keeps_ite (fun _ => keeps_rejoin ..) fun _ => keeps_endRecovery ..
    · exact .refl _

theorem Part.keeps_recoveryFailed (s : Part) (p o code) : s.Keeps (s.recoveryFailed p o code) := by
  unfold Part.recoveryFailed
  split
  · exact .refl s
  · exact keeps_ite (fun _ => (keeps_offer ..).after (.of_vitals rfl))
      fun _ => (keeps_endRecovery ..).after (s.keeps_dropRecovering p)

theorem Part.keeps_refreshFinal (s : Part) (p code wps) : s.Keeps (s.refreshFinal p code wps) :=
  keeps_ite (fun _ => s.keeps_onP ..) fun _ => s.keeps_offer _

/-! ### Appends and resets -/

theorem Part.keeps_appendIssue (s : Part) (l) : s.Keeps (s.appendIssue l) := by
  unfold Part.appendIssue
  dsimp only
  split
  · exact .refl s
  · exact keeps_ite
      (fun _ => keeps_ite (fun _ => (keeps_offer ..).after (s.keeps_onL ..)) fun _ => s.keeps_appendFail ..)
      fun _ => .refl s

theorem Part.keeps_offerReset (s : Part) (p) : s.Keeps (s.offerReset p) :=
  (keeps_offer ..).after (s.keeps_onP ..)

theorem Part.keeps_offerResets (s : Part) : s.Keeps s.offerResets := keeps_foldl keeps_offerReset _ s

theorem Part.keeps_retire (s : Part) (p) : s.Keeps (s.retire p) := (keeps_raise ..).after (s.keeps_onP ..)

theorem Part.keeps_resetFinal (s : Part) (p code) : s.Keeps (s.resetFinal p code) :=
  (keeps_deadlockCheck _).after <|
    (keeps_ite
      (fun _ => (keeps_releaseHold ..).after <| (keeps_resetFinished ..).after <|
        .of_vitals (by rfl))
      fun _ => keeps_retire ..).after <| (keeps_onP ..).after (.of_vitals (by rfl))

end Sys2Proof.Machine
end

section
/-! What every command keeps: directives and the blocks of write data (chapters 7 and 10). -/

namespace Sys2Proof.Machine

open Sys2Proof.Machine.Part

variable {s t u : Part}

/-! ### Settings -/

/-- The tag of a command in a context is the context's (R128), so it may be put back by its own tag. -/
theorem Part.keeps_putBack (s : Part) {t : Nat} {c d : Cmd} (h : s.ini.at t = some c) (hsame : c.Same d) :
    s.Keeps (s.putTag c.tag (some d)) where
  bounds := by
    rintro ⟨⟨htags, hrest⟩, hbounded⟩
    exact ⟨⟨by simpa [putTag] using htags, hrest⟩, hbounded⟩
  index := id
  blocks := id
  contexts hs := by
    have htag : c.tag = t := (hs.1 t c h).1
    rw [htag]
    exact (s.keeps_putTag h hsame).contexts hs

/-- The policy may come to be another whose BURST fits its field (R18, R176). -/
theorem Part.keeps_policy (s : Part) {p : Policy} (h : p.burst ≤ 65535) : s.Keeps { s with cfg.policy := p } where
  bounds := by
    rintro ⟨hsized, ⟨hevents, hresp, hqueue, hexp, hreqs, hcredit, hrem, -⟩, hreason⟩
    exact ⟨hsized, ⟨hevents, hresp, hqueue, hexp, hreqs, hcredit, hrem, h⟩, hreason⟩
  index := id
  blocks := id
  contexts := id

theorem Part.keeps_acceptSettings (s : Part) (n c) : s.Keeps (s.acceptSettings n c) :=
  keeps_ite (fun _ => (keeps_triggerAnchor _).after (s.keeps_setPending ..))
    fun _ => (keeps_triggerAnchor _).after (s.keeps_respond ..)

theorem Part.keeps_installPolicy (s : Part) {p : Policy} (h : p.burst ≤ 65535) : s.Keeps (s.installPolicy p) :=
  (keeps_ite (fun _ => keeps_pace _ fun _ => ⟨h, Nat.zero_le 3⟩) fun _ => .refl _).after <|
    (keeps_evalLevel _).after (s.keeps_policy h)

theorem Part.keeps_dirSetPolicy (s : Part) (n) {p : Policy} (h : p.burst ≤ 65535) : s.Keeps (s.dirSetPolicy n p) :=
  keeps_ite (fun _ => (keeps_acceptSettings ..).after (s.keeps_installPolicy h)) fun _ => s.keeps_respond ..

theorem clampPolicy_burst (l h x g p b c t) : (clampPolicy l h x g p b c t).burst ≤ 65535 :=
  Nat.max_le.mpr ⟨Nat.zero_le _, Nat.min_le_left ..⟩

theorem Part.keeps_dirSetDisposition (s : Part) (n c x) : s.Keeps (s.dirSetDisposition n c x) := by
  unfold Part.dirSetDisposition
  split
  · exact keeps_ite (fun _ => (keeps_acceptSettings ..).after (.of_vitals (by rfl))) fun _ => s.keeps_respond ..
  · exact s.keeps_respond ..

theorem Part.keeps_dirSetRange (s : Part) (n i m f a len) : s.Keeps (s.dirSetRange n i m f a len) := by
  unfold Part.dirSetRange
  split
  · exact s.keeps_respond ..
  · split
    · exact s.keeps_respond ..
    · exact keeps_ite (fun _ => s.keeps_respond ..) fun _ => keeps_ite (fun _ => s.keeps_respond ..) fun _ =>
        keeps_ite (fun _ => s.keeps_respond ..) fun _ =>
        (keeps_acceptSettings ..).after (s.keeps_entries fun h => by simpa using h)

theorem Part.keeps_dirSetAlerts (s : Part) (n m) : s.Keeps (s.dirSetAlerts n m) :=
  (keeps_acceptSettings ..).after (.of_vitals (by rfl))

/-! ### Immediate directives -/

theorem Part.keeps_dirAckAlerts (s : Part) (n m) : s.Keeps (s.dirAckAlerts n m) :=
  (keeps_respond ..).after (.of_vitals (by rfl))

theorem Part.keeps_dirClearFlags (s : Part) (n) : s.Keeps (s.dirClearFlags n) :=
  (keeps_respond ..).after (.of_vitals (by simp [vitals]))

theorem Part.keeps_dirQuery (s : Part) (n a) : s.Keeps (s.dirQuery n a) :=
  keeps_ite (fun _ => s.keeps_respond ..) fun _ => s.keeps_respond ..

theorem Part.keeps_dropReferral (s : Part) (id) : s.Keeps { s with ref := s.ref.drop id } :=
  s.keeps_ref (fun h => (List.length_filter_le ..).trans h) fun h => h

theorem Part.keeps_answerComplete (s : Part) (n e c len r) : s.Keeps (s.answerComplete n e c len r) :=
  keeps_ite
    (fun _ => (keeps_respond ..).after <| (keeps_finish ..).after <|
      (keeps_ite (fun _ => keeps_send ..) fun _ => .refl _).after (s.keeps_dropReferral e.id))
    fun _ => s.keeps_respond ..

theorem Part.keeps_release (s : Part) (tag) : s.Keeps (s.release tag) := by
  unfold Part.release
  split
  · exact .refl s
  case h_2 c hc =>
    exact keeps_ite (fun _ => s.keeps_finish ..) fun _ =>
      keeps_enqueue s _ fun d hd => (s.keeps_putBack (d := d) hc hd :)

theorem Part.keeps_answerRelease (s : Part) (n e) : s.Keeps (s.answerRelease n e) :=
  (keeps_respond ..).after <| (keeps_release ..).after (s.keeps_dropReferral e.id)

theorem Part.keeps_dirAnswer (s : Part) (n id a c len r) : s.Keeps (s.dirAnswer n id a c len r) := by
  unfold Part.dirAnswer
  split
  · split
    · exact s.keeps_respond ..
    · split
      · exact s.keeps_answerComplete ..
      · exact s.keeps_respond ..
  · split
    · split
      · exact s.keeps_answerRelease ..
      · exact s.keeps_respond ..
    · exact s.keeps_respond ..

theorem Part.keeps_dirStop (s : Part) (n) : s.Keeps (s.dirStop n) :=
  (keeps_drainCheck _).after <| (keeps_drain ..).after (s.keeps_respond ..)

/-! ### Merge directives -/

theorem Part.keeps_dirClean (s : Part) (n l) : s.Keeps (s.dirClean n l) :=
  keeps_ite (fun _ => s.keeps_respond ..) fun _ => keeps_ite (fun _ => s.keeps_respond ..) fun _ =>
    keeps_ite (fun _ => s.keeps_respond ..) fun _ =>
    keeps_ite (fun _ => (keeps_setPending ..).after (s.keeps_reqs fun h => by simpa using h)) fun _ =>
    keeps_ite (fun h => (keeps_setPending ..).after (s.keeps_reqs fun _ => by
      rw [List.length_append]
      exact h)) fun _ => s.keeps_respond ..

theorem Part.keeps_dirDrain (s : Part) (n) : s.Keeps (s.dirDrain n) :=
  (keeps_startTest _).after <| (keeps_setPending ..).after (s.keeps_drain _)

/-! ### FORMAT and RESTART -/

theorem Part.keeps_startFormat (s : Part) (x) (hm : s.sys.mode = .active ∨ s.sys.mode = .halted) :
    s.Keeps (s.startFormat x) := by
  have henter : s.Keeps (s.enter .formatting .none) :=
    s.keeps_enter (by rcases hm with h | h <;> simp [h]) (by simp) (by simp)
  exact (keeps_pace _ (c := {}) fun _ => ⟨Nat.zero_le _, Nat.zero_le _⟩).after henter |>.trans (.of_vitals (by rfl))

theorem Part.keeps_dirFormat (s : Part) (n b r len) (hm : s.sys.mode = .active ∨ s.sys.mode = .halted) :
    s.Keeps (s.dirFormat n b r len) := by
  unfold Part.dirFormat
  refine keeps_ite (fun _ => s.keeps_respond ..) fun _ => keeps_ite (fun _ => s.keeps_respond ..) fun _ => ?_
  split
  · exact s.keeps_respond ..
  · exact (keeps_startFormat _ _ (by exact hm)).after (s.keeps_setPending ..)

/-- A part with cleared tables comes to wait for a mount (R194). -/
theorem Part.keeps_waitMount (s : Part) (htable : s.log.table = []) (hocc : s.log.occ = 0) {timer} :
    s.Keeps { s with
      cfg.loaded := false, ret := {}, ref := {}, ini.accept := [], mnt := { phase := .wait }, port.timer := timer } where
  bounds := by
    rintro ⟨⟨htags, hslots, -, hctxs⟩, ⟨hevents, hresp, -, -, hrest⟩, hreason⟩
    exact ⟨⟨htags, hslots, rfl, hctxs⟩, ⟨hevents, hresp, Nat.zero_le _, Nat.zero_le _, hrest⟩, hreason⟩
  index := id
  blocks := by simp [blocksCounted, htable, hocc]
  contexts := id

theorem Part.keeps_startRestart (s : Part) : s.Keeps s.startRestart :=
  (keeps_waitMount _ (by rfl) (by rfl)).after <| (keeps_clearPort _).after <| (keeps_enter_clearTables _ (by simp)).after <|
    s.keeps_win (fun _ => by simp) fun h => h

theorem Part.keeps_dirRestart (s : Part) (n) : s.Keeps (s.dirRestart n) :=
  keeps_ite (fun _ => s.keeps_respond ..) fun _ => (keeps_startRestart _).after (s.keeps_setPending ..)

/-! ### Taking a directive -/

theorem Part.keeps_applyDirective (s : Part) (n) (d : Directive) (hm : d.allowedIn s.sys.mode = true) :
    s.Keeps (s.applyDirective n d) := by
  cases d with
  | setPolicy l h x g p b c t => exact s.keeps_dirSetPolicy n (clampPolicy_burst ..)
  | setDisposition c x => exact s.keeps_dirSetDisposition ..
  | setRange i m f a len => exact s.keeps_dirSetRange ..
  | setAlerts m => exact s.keeps_dirSetAlerts ..
  | ackAlerts m => exact s.keeps_dirAckAlerts ..
  | clearFlags => exact s.keeps_dirClearFlags n
  | clean l => exact s.keeps_dirClean ..
  | drain => exact s.keeps_dirDrain n
  | stop => exact s.keeps_dirStop n
  | answer id a c len reply => exact s.keeps_dirAnswer ..
  | query a => exact s.keeps_dirQuery ..
  | format b r len => exact s.keeps_dirFormat _ _ _ _ (by simpa [Directive.allowedIn] using hm)
  | restart => exact s.keeps_dirRestart n
  | unknown c => exact s.keeps_respond ..

theorem Part.keeps_takeDirective (s : Part) (n d) : s.Keeps (s.takeDirective n d) :=
  keeps_ite (fun _ => s.keeps_respond ..) fun _ => keeps_ite (fun _ => s.keeps_respond ..) fun hm =>
    keeps_ite (fun _ => s.keeps_respond ..) fun _ => s.keeps_applyDirective n d (by simpa using hm)

theorem Part.keeps_takeEchoed (s : Part) (b n d) : s.Keeps (s.takeEchoed b n d) :=
  (keeps_takeDirective ..).after (.of_vitals (by rfl))

/-! ### Blocks of write data -/

theorem Part.keeps_windowTaken (s : Part) (tag) : s.Keeps (s.windowTaken tag) := by
  unfold Part.windowTaken
  split
  · exact .refl s
  case h_2 hc =>
    exact (keeps_ite (fun _ => keeps_finish ..) fun _ => .refl _).after <| s.keeps_putTag hc ⟨rfl, rfl, rfl, rfl⟩

theorem Part.keeps_directiveBlock (s : Part) (tag b n d) : s.Keeps (s.directiveBlock tag b n d) :=
  keeps_ite (fun _ => (keeps_windowTaken ..).after (s.keeps_takeEchoed ..)) fun _ => .refl s

theorem Part.keeps_ignoredBlock (s : Part) (tag) : s.Keeps (s.ignoredBlock tag) := by
  unfold Part.ignoredBlock
  split
  · exact keeps_ite (fun _ => .refl s) fun _ => s.keeps_windowTaken tag
  · exact .refl s

theorem Part.keeps_directiveRow (s : Part) (tag n d) : s.Keeps (s.directiveRow tag n d) := s.keeps_directiveBlock ..

theorem Part.keeps_placeWrite (s : Part) (tag c) : s.Keeps (s.placeWrite tag c) :=
  keeps_ite (fun _ => s.keeps_finish ..) fun _ => keeps_ite (fun _ => s.keeps_finish ..) fun _ =>
    (keeps_deadlockCheck _).after (s.keeps_placePieces ..)

theorem Part.keeps_receiveBlock (s : Part) (tag : Nat) (c : Cmd) (b) (hc : s.ini.at tag = some c) :
    s.Keeps (s.receiveBlock tag c b) :=
  keeps_ite (fun _ => s.keeps_putTag hc ⟨rfl, rfl, rfl, rfl⟩) fun _ =>
    (keeps_ite (fun _ => keeps_placeWrite ..) fun _ =>
      keeps_ite (fun _ => keeps_finish ..) fun _ => keeps_forward ..).after <|
      s.keeps_putTag hc ⟨rfl, rfl, rfl, rfl⟩

theorem Part.keeps_dataBlock (s : Part) (tag b) : s.Keeps (s.dataBlock tag b) := by
  unfold Part.dataBlock
  split
  · exact .refl s
  case h_2 hc =>
    exact keeps_ite
      (fun _ => keeps_ite (fun _ => s.keeps_directiveBlock ..) fun _ => s.keeps_ignoredBlock tag)
      fun _ => keeps_ite (fun _ => s.keeps_receiveBlock _ _ _ hc) fun _ => .refl s

theorem Part.keeps_forwardData (s : Part) (k bs) : s.Keeps (s.forwardData k bs) := by
  unfold Part.forwardData
  split
  · exact .refl s
  · split
    · refine keeps_ite (fun _ => .refl s) fun _ => ?_
      split
      case h_1 hc =>
        obtain ⟨_, hat⟩ := Initiator.exists_at_of_mem_active (List.mem_of_find?_eq_some hc)
        exact (keeps_send ..).after <| s.keeps_putBack hat ⟨rfl, rfl, rfl, rfl⟩
      case h_2 => exact .refl s
    · exact .refl s

end Sys2Proof.Machine
end

section
/-! What every command keeps: mount, FORMAT and the drive link (chapters 6 and 11). -/

namespace Sys2Proof.Machine

open Sys2Proof.Machine.Part

variable {s t u : Part}

/-! ### The steps of mount -/

theorem Part.keeps_mountStart (s : Part) : s.Keeps s.mountStart :=
  keeps_ite (fun _ => (keeps_offer ..).after (.of_vitals (by rfl))) fun _ => .refl s

theorem Part.keeps_recordDrive (s : Part) (g ser) : s.Keeps (s.recordDrive g ser) := .of_vitals rfl

theorem Part.keeps_mountIdentified (s : Part) (code g ser) : s.Keeps (s.mountIdentified code g ser) :=
  keeps_ite
    (fun _ => (keeps_ite (fun _ => (keeps_offerAll ..).after (.of_vitals (by rfl)))
      fun _ => keeps_enterHalted _ (by simp)).after (s.keeps_recordDrive g ser))
    fun _ => s.keeps_offer _

theorem Part.keeps_offerAnchorRead (s : Part) : s.Keeps s.offerAnchorRead := s.keeps_offer _

theorem Part.keeps_mountQueryFinal (s : Part) (p n code wps) : s.Keeps (s.mountQueryFinal p n code wps) :=
  keeps_ite
    (fun _ => (keeps_ite (fun _ => (keeps_offerAnchorRead _).after (.of_vitals (by rfl))) fun _ => .refl _).after
      (.of_vitals (by rfl)))
    fun _ => s.keeps_offer _

theorem Part.keeps_offerReplay (s : Part) : s.Keeps s.offerReplay := .of_vitals rfl
theorem Part.keeps_startReplay (s : Part) : s.Keeps s.startReplay := .of_vitals rfl
theorem Part.keeps_endReplay (s : Part) : s.Keeps s.endReplay := .of_vitals rfl
theorem Part.keeps_endReplayDegraded (s : Part) : s.Keeps s.endReplayDegraded := .of_vitals rfl
theorem Part.keeps_offerHeaderRead (s : Part) (p) : s.Keeps (s.offerHeaderRead p) := s.keeps_offer _

theorem Part.keeps_startHeaders (s : Part) : s.Keeps s.startHeaders :=
  (keeps_ite (fun _ => keeps_startReplay _) fun _ => .refl _).after <|
    (keeps_foldl keeps_offerHeaderRead _ _).after (.of_vitals (by rfl))

theorem length_of_mapM_eq_some {α β : Type} {f : α → Option β} {l : List α} {r : List β} (h : l.mapM f = some r) :
    r.length = l.length := by
  induction l generalizing r with
  | nil =>
    obtain rfl : [] = r := by simpa using h
    rfl
  | cons a l ih =>
    obtain ⟨b, -, rs, hrs, rfl⟩ : ∃ b, f a = some b ∧ ∃ rs, l.mapM f = some rs ∧ b :: rs = r := by
      simpa [List.mapM_cons, Option.bind_eq_some_iff] using h
    simp [ih hrs]

/-- The settings that an anchor holds fit the tables (R184). -/
theorem parseAnchor_bounds {b : Block} {a : AnchorData} (h : parseAnchor b = some a) :
    a.policy.burst ≤ 65535 ∧ a.ranges.length = 8 := by
  unfold parseAnchor at h
  split at h
  case h_2 => cases h
  case h_1 rs _ hrs =>
    obtain rfl := Option.some.inj h
    refine ⟨?_, ?_⟩
    · have := leNat_lt (bytesAt b 50 2)
      simp only [bytesAt, List.length_map, List.length_range] at this
      exact Nat.le_of_lt_succ this
    · exact (length_of_mapM_eq_some hrs).trans List.length_range

theorem Part.keeps_loadSettings (s : Part) {a : AnchorData} (hb : a.policy.burst ≤ 65535) (hr : a.ranges.length = 8) :
    s.Keeps (s.loadSettings a) :=
  ((s.keeps_policy hb).trans (keeps_entries _ fun _ => hr)).trans (.of_vitals rfl)

theorem Part.keeps_buildTables (s : Part) (a) : s.Keeps (s.buildTables a) := .of_vitals rfl

theorem Part.keeps_judgeAnchor (s : Part) (b) : s.Keeps (s.judgeAnchor b) := by
  unfold Part.judgeAnchor
  refine keeps_ite (fun _ => s.keeps_enterHalted (by simp)) fun _ => ?_
  split
  · exact s.keeps_enterHalted (by simp)
  case h_2 a ha =>
    obtain ⟨hburst, hranges⟩ := parseAnchor_bounds ha
    exact keeps_ite
      (fun _ => (keeps_ite (fun _ => (keeps_startHeaders _).after (keeps_buildTables ..))
        fun _ => keeps_enterHalted _ (by simp)).after (s.keeps_loadSettings hburst hranges))
      fun _ => s.keeps_enterHalted (by simp)

theorem Part.keeps_anchorReadFinal (s : Part) (code b) : s.Keeps (s.anchorReadFinal code b) :=
  keeps_ite (fun _ => s.keeps_judgeAnchor b) fun _ =>
    keeps_ite (fun _ => (keeps_offerAnchorRead _).after (.of_vitals (by rfl))) fun _ => s.keeps_enterHalted (by simp)

theorem Part.keeps_headerDone (s : Part) (p) : s.Keeps (s.headerDone p) :=
  (keeps_ite (fun _ => keeps_startReplay _) fun _ => .refl _).after (.of_vitals (by rfl))

theorem Part.keeps_headerReadFinal (s : Part) (p code b) : s.Keeps (s.headerReadFinal p code b) := by
  unfold Part.headerReadFinal
  refine keeps_ite (fun _ => ?_) fun _ =>
    keeps_ite (fun _ => (keeps_headerDone ..).after (s.keeps_retire p)) fun _ =>
      (keeps_offerHeaderRead ..).after (.of_vitals (by rfl))
  split
  · exact (keeps_headerDone ..).after (.of_vitals (by rfl))
  · exact (keeps_headerDone ..).after <| (keeps_onP ..).after (.of_vitals (by rfl))

/-! ### Replay -/

/-- What the count of the log's blocks reads of a part. -/
def Part.logCount (p : Part) := (p.sys.mode, p.mnt.blocks, p.log.occ, p.log.table.map (·.len))

theorem Part.logCount_onRec (s : Part) (q) {f : Rec → Rec} (hf : ∀ r, (f r).len = r.len) :
    (s.onRec q f).logCount = s.logCount := by
  simp only [logCount, onRec, List.map_map, Prod.mk.injEq, true_and]
  refine List.map_congr_left fun r _ => ?_
  simp only [Function.comp]
  split <;> simp [hf]

/-- What no step of a fold changes, the fold leaves alone. -/
theorem foldl_frame {α β γ : Type} (g : β → γ) {f : β → α → β} (hf : ∀ b a, g (f b a) = g b) (l : List α) (b : β) :
    g (l.foldl f b) = g b := by
  induction l generalizing b with
  | nil => rfl
  | cons a l ih => rw [List.foldl_cons, ih, hf]

theorem Part.logCount_loseBlocks (s : Part) (ls) : (s.loseBlocks ls).logCount = s.logCount :=
  foldl_frame logCount (fun s _ => s.logCount_onRec _ fun _ => by rfl) ls s

theorem Part.logCount_insertExtent (s : Part) (x) : (s.insertExtent x).logCount = s.logCount :=
  (logCount_onRec _ _ fun _ => by rfl).trans (s.logCount_loseBlocks _)

theorem Part.logCount_removeExtents (s : Part) (p) : (s.removeExtents p).logCount = s.logCount :=
  s.logCount_loseBlocks _

theorem Part.logCount_replayEffect (s : Part) (r) : (s.replayEffect r).logCount = s.logCount := by
  unfold Part.replayEffect
  dsimp only
  split
  · exact s.logCount_insertExtent _
  · split
    · exact s.logCount_removeExtents _
    · exact s.logCount_insertExtent _
  · exact s.logCount_removeExtents _
  · rfl

theorem Part.keeps_replayEffect (s : Part) (r) : s.Keeps (s.replayEffect r) := by
  unfold Part.replayEffect
  dsimp only
  split
  · exact s.keeps_insertExtent _
  · exact keeps_ite (fun _ => (s.keeps_removeExtents _).trans (.of_vitals (by rfl))) fun _ => s.keeps_insertExtent _
  · exact (s.keeps_removeExtents _).trans (.of_vitals (by rfl))
  · exact .refl s

/-- An accepted record is counted with the blocks of replay (R186). -/
theorem Part.keeps_accepted (s : Part) (r : Rec) (hm : s.sys.mode = .mounting) {pos seq records} :
    let t := ({ s with log.table := s.log.table ++ [r] } : Part).replayEffect r
    s.Keeps { t with
      mnt.pos := pos, mnt.seq := seq, mnt.blocks := s.mnt.blocks + r.len, mnt.records := records } := by
  intro t
  have ht : ({ s with log.table := s.log.table ++ [r] } : Part).Keeps t := keeps_replayEffect ..
  have hcount := logCount_replayEffect { s with log.table := s.log.table ++ [r] } r
  simp only [logCount, Prod.mk.injEq] at hcount
  obtain ⟨hmode, -, -, htable⟩ := hcount
  refine ⟨ht.bounds, ht.index, fun hb => ?_, ht.contexts⟩
  obtain ⟨-, hblocks, -⟩ := s.blocksCounted_iff.mp hb
  have htmode : t.sys.mode = .mounting := hmode.trans hm
  refine (blocksCounted_iff _).mpr ⟨fun h => ?_, fun _ => ?_, fun h => absurd htmode h⟩
  · rw [htmode] at h
    cases h
  · show s.mnt.blocks + r.len = (t.log.table.map (·.len)).sum
    rw [htable, hblocks hm]
    simp

theorem Part.keeps_acceptRecord (s : Part) (r) (hm : s.sys.mode = .mounting) : s.Keeps (s.acceptRecord r) :=
  keeps_ite (fun _ => s.keeps_endReplayDegraded) fun _ =>
    (keeps_ite (fun _ => keeps_endReplay _) fun _ => keeps_offerReplay _).after (s.keeps_accepted _ hm)

theorem Part.keeps_judgeRecord (s : Part) (b r data) (hm : s.sys.mode = .mounting) :
    s.Keeps (s.judgeRecord b r data) :=
  keeps_ite (fun _ => s.keeps_endReplay) fun _ => keeps_ite (fun _ => s.keeps_endReplayDegraded) fun _ =>
    s.keeps_acceptRecord r hm

theorem Part.keeps_replayHeaderRead (s : Part) (b) (hm : s.sys.mode = .mounting) : s.Keeps (s.replayHeaderRead b) := by
  unfold Part.replayHeaderRead
  split
  · exact s.keeps_endReplay
  · exact keeps_ite (fun _ => (keeps_offer ..).after (.of_vitals (by rfl))) fun _ => s.keeps_judgeRecord _ _ _ hm

theorem Part.keeps_replayDataRead (s : Part) (bs) (hm : s.sys.mode = .mounting) : s.Keeps (s.replayDataRead bs) := by
  unfold Part.replayDataRead
  split
  · exact .refl s
  · split
    · exact s.keeps_endReplay
    · exact s.keeps_judgeRecord _ _ _ hm

theorem Part.keeps_replayFinal (s : Part) (w code bs) : s.Keeps (s.replayFinal w code bs) := by
  unfold Part.replayFinal
  refine keeps_ite (fun _ => .refl s) fun h => keeps_ite (fun _ => ?_) fun _ => s.keeps_endReplayDegraded
  have hm : s.sys.mode = .mounting := by
    by_contra hne
    exact h (.inl hne)
  split
  · exact s.keeps_replayHeaderRead _ hm
  · exact s.keeps_replayDataRead _ hm
  · exact .refl s

/-! ### Claims and the end of mount -/

theorem Part.keeps_setUpBand (s : Part) (l) : s.Keeps (s.setUpBand l) := by
  unfold Part.setUpBand
  extract_lets c w s₁ s₂ s₃
  have h₁ : s.Keeps s₁ := s.keeps_onL ..
  have h₂ : s₁.Keeps s₂ := by
    simp only [s₂]
    split
    · exact keeps_onP ..
    · exact .refl _
  have h₃ : s₂.Keeps s₃ := keeps_foldl (fun s (x : Candidate) => s.keeps_onP x.p _) _ _
  exact (keeps_ite (fun _ => keeps_raise ..) fun _ => .refl _).after <| h₃.after <| h₂.after h₁

theorem Part.logCount_setUpBand (s : Part) (l) : (s.setUpBand l).logCount = s.logCount := by
  unfold Part.setUpBand
  extract_lets c w s₁ s₂ s₃
  have h₂ : s₂.logCount = s.logCount := by
    simp only [s₂]
    split <;> rfl
  have h₃ : s₃.logCount = s₂.logCount := foldl_frame logCount (fun s x => by rfl) _ _
  split <;> exact h₃.trans h₂

theorem Part.keeps_assignLoser (s : Part) (c) : s.Keeps (s.assignLoser c) := by
  unfold Part.assignLoser
  split
  · exact s.keeps_onRec _ fun _ => by rfl
  · exact keeps_ite (fun _ => .of_vitals (by rfl)) fun _ => .refl s

theorem Part.logCount_assignLoser (s : Part) (c) : (s.assignLoser c).logCount = s.logCount := by
  unfold Part.assignLoser
  split
  · exact s.logCount_onRec _ fun _ => by rfl
  · split <;> rfl

theorem Rec.awaitedLive_len (r : Rec) : r.awaitedLive.len = r.len := by
  unfold Rec.awaitedLive
  split <;> rfl

/-- In MOUNTING the occupancy may come to be what it will be counted from (R189). -/
theorem Part.keeps_setOcc (s : Part) (hm : s.sys.mode = .mounting) {g : Rec → Rec} (hg : ∀ r, (g r).len = r.len)
    {n pos ps} : s.Keeps { s with
      log.table := s.log.table.map g, log.reclaim := pos, log.occ := n, bands.resetPend := ps } where
  bounds := id
  index := id
  blocks hb := by
    obtain ⟨-, hblocks, -⟩ := s.blocksCounted_iff.mp hb
    refine (blocksCounted_iff _).mpr ⟨fun h => ?_, fun _ => ?_, fun h => absurd hm h⟩
    · have : Mode.mounting = .offline := hm.symm.trans h
      cases this
    · simpa [Function.comp_def, hg] using hblocks hm
  contexts := id

/-- The claims are resolved in MOUNTING: the occupancy comes to be the blocks that replay accepted (R189). -/
theorem Part.resolveClaims_mounting (s : Part) (hm : s.sys.mode = .mounting) :
    s.Keeps s.resolveClaims ∧ s.resolveClaims.sys.mode = .mounting ∧ s.resolveClaims.log.occ = s.resolveClaims.mnt.blocks := by
  unfold Part.resolveClaims
  extract_lets ls claims d s₁ s₂ s₃
  have hcount : s₃.logCount = s.logCount :=
    (foldl_frame logCount logCount_assignLoser _ _).trans <| (logCount_removeExtents ..).trans <|
      foldl_frame logCount logCount_setUpBand _ _
  have hmode : s₃.sys.mode = .mounting := (congrArg Prod.fst hcount).trans hm
  have hkeeps : s.Keeps s₃ := (keeps_foldl keeps_assignLoser _ _).after <| (keeps_removeExtents ..).after <|
    keeps_foldl keeps_setUpBand _ _
  exact ⟨hkeeps.trans (s₃.keeps_setOcc hmode Rec.awaitedLive_len), hmode, rfl⟩

/-- The part leaves MOUNTING with the occupancy replay found (R190). -/
theorem Part.keeps_leaveMounting (s : Part) {m} (hs : s.sys.mode = .mounting) (ho : s.log.occ = s.mnt.blocks)
    (hm : m = .active ∨ m = .degraded) : s.Keeps { s.enter m .none with mnt := {}, pace := {} } := by
  let t : Part := { s with sys.mode := m, sys.halt := .none, mnt := {} }
  suffices ht : s.Keeps t from
    (keeps_pace _ (c := {}) fun _ => ⟨Nat.zero_le _, Nat.zero_le _⟩).after <|
      (t.keeps_raise .modeChange (some .mode) none none (if m = .halted then some (haltNum .none) else none)
        (some (modeNum m))).after ht
  refine ⟨fun hb => ?_, id, fun hb => ?_, id⟩
  · obtain ⟨hsized, hbounded, -, hkept⟩ := hb
    exact ⟨hsized, hbounded, by rcases hm with rfl | rfl <;> simp [t, reasoned], hkept⟩
  · obtain ⟨-, hblocks, -⟩ := hb
    refine ⟨fun h => ?_, fun h => ?_, fun _ => ho.trans (hblocks hs)⟩
    · rcases hm with rfl | rfl <;> cases h
    · rcases hm with rfl | rfl <;> cases h

theorem Part.keeps_offerLimits (s : Part) : s.Keeps s.offerLimits :=
  keeps_ite (fun _ => keeps_foldl (fun s l => keeps_ite (fun _ => .refl s) fun _ => s.keeps_offerLimit l) _ s)
    fun _ => .refl s

theorem Part.keeps_finishRestart (s : Part) : s.Keeps s.finishRestart :=
  keeps_ite (fun _ => s.keeps_finishDirective ..) fun _ => .refl s

theorem Part.keeps_endMount (s : Part) (hs : s.sys.mode = .mounting) (ho : s.log.occ = s.mnt.blocks) :
    s.Keeps s.endMount :=
  (keeps_finishRestart _).after <| (keeps_offerLimits _).after <| (keeps_evalPressure _).after <|
    (keeps_evalLevel _).after <| (keeps_raise ..).after <| s.keeps_leaveMounting hs ho (by split <;> simp)

theorem Part.keeps_claimResolution (s : Part) : s.Keeps s.claimResolution :=
  keeps_ite (fun h => by
    obtain ⟨hkeeps, hmode, hocc⟩ := s.resolveClaims_mounting h.1
    exact (keeps_endMount _ hmode hocc).after hkeeps) fun _ => .refl s

/-! ### FORMAT -/

theorem Part.keeps_failFormat (s : Part) {h} (hh : h ≠ .none) : s.Keeps (s.failFormat h) := s.keeps_enterHalted hh

theorem Part.keeps_formatQuiesced (s : Part) : s.Keeps s.formatQuiesced := by
  unfold Part.formatQuiesced
  split
  · exact .refl s
  · exact keeps_ite (fun _ => (keeps_offer ..).after <| s.keeps_clearTables.trans (.of_vitals (by rfl))) fun _ => .refl s

theorem Part.keeps_formatIdentified (s : Part) (code g ser) : s.Keeps (s.formatIdentified code g ser) := by
  unfold Part.formatIdentified
  refine keeps_ite (fun _ => ?_) fun _ => s.keeps_offer _
  dsimp only
  split
  · exact s.keeps_recordDrive ..
  · exact (keeps_ite (fun _ => (keeps_offerAll ..).after (keeps_onFmt ..)) fun _ =>
      keeps_failFormat _ (by simp)).after (s.keeps_recordDrive g ser)

theorem Part.keeps_startResets (s : Part) (n) : s.Keeps (s.startResets n) := (keeps_offerAll ..).after (s.keeps_onFmt _)

theorem Part.keeps_formatCleared (s : Part) (k n code) : s.Keeps (s.formatCleared k n code) := by
  unfold Part.formatCleared
  split
  · exact .refl s
  · exact keeps_ite (fun _ => (keeps_ite (fun _ => keeps_startResets ..) fun _ => .refl _).after (s.keeps_onFmt _))
      fun _ => keeps_ite (fun _ => s.keeps_failFormat (by simp)) fun _ => (keeps_offer ..).after (s.keeps_onFmt _)

theorem Part.keeps_offerFormatAnchor (s : Part) : s.Keeps s.offerFormatAnchor := s.keeps_offer _

theorem Part.keeps_formatReset (s : Part) (p code) : s.Keeps (s.formatReset p code) := by
  unfold Part.formatReset
  split
  · exact .refl s
  · exact (keeps_ite (fun _ => (keeps_offerFormatAnchor _).after (keeps_onFmt ..)) fun _ => .refl _).after <|
      (keeps_ite (fun _ => .refl _) fun _ => keeps_raise ..).after (s.keeps_onFmt _)

/-- The part is ACTIVE and empty, its settings at their defaults (R193). -/
theorem Part.keeps_formatted (s : Part) (f : Format) :
    s.Keeps (({ s.clearTables with
      sys.layout := f.layout, bands := f.bands, log := { nextSeq := 1 }, cfg := { loaded := true },
      ret.entries := List.replicate 8 {} } : Part).enter .active .none) := by
  refine (keeps_raise ..).after ⟨fun hb => ?_, fun hi => s.keeps_clearTables.index hi,
    fun _ => ⟨fun h => ?_, fun h => ?_, fun _ => rfl⟩, fun hc => s.keeps_clearTables.contexts hc⟩
  · obtain ⟨⟨htags, hslots, -, hctxs⟩, ⟨hevents, hresp, hqueue, hexp, hreqs, hcredit, hrem, -⟩, -, hkept⟩ :=
      s.keeps_clearTables.bounds hb
    exact ⟨⟨htags, hslots, List.length_replicate, hctxs⟩,
      ⟨hevents, hresp, hqueue, hexp, hreqs, hcredit, hrem, (by decide : Policy.burst {} ≤ 65535)⟩, by simp [reasoned], hkept⟩
  · cases h
  · cases h

theorem Part.keeps_formatDone (s : Part) (f) : s.Keeps (s.formatDone f) :=
  (keeps_finishDirective ..).after <| (keeps_evalLevel _).after (s.keeps_formatted f)

theorem Part.keeps_formatAnchored (s : Part) (code) : s.Keeps (s.formatAnchored code) := by
  unfold Part.formatAnchored
  split
  · exact .refl s
  · exact keeps_ite (fun _ => s.keeps_formatDone _) fun _ =>
      keeps_ite (fun _ => (keeps_offerFormatAnchor _).after (s.keeps_onFmt _)) fun _ => s.keeps_failFormat (by simp)

/-! ### The drive link -/

theorem Part.keeps_linkReset (s : Part) : s.Keeps s.linkReset :=
  keeps_ite (fun _ => (keeps_raise ..).after
    { bounds := by
        rintro ⟨⟨htags, -, hrest⟩, hbounded, hreason, -⟩
        refine ⟨⟨htags, List.length_replicate, hrest⟩, hbounded, hreason, fun k x _ hx => ?_⟩
        rw [List.getD_eq_getElem?_getD, List.getElem?_replicate] at hx
        split at hx <;> cases hx
      index := id
      blocks := id
      contexts := id }) fun _ => .refl s

theorem Part.keeps_abortedFinal (s : Part) (o) : s.Keeps (s.abortedFinal o) := by
  unfold Part.abortedFinal
  split
  · exact s.keeps_fgReadFinal ..
  · exact s.keeps_forwardedFinal ..
  · exact s.keeps_mergeReadFinal ..
  · exact s.keeps_carryReadFinal ..
  · exact s.keeps_anchorReadFinal ..
  · exact s.keeps_headerReadFinal ..
  · exact s.keeps_replayFinal ..
  · exact s.keeps_replayFinal ..
  · exact .refl s

theorem Part.keeps_retractData (s : Part) (w) : s.Keeps (s.retractData w) := by
  unfold Part.retractData
  split
  · split
    case h_1 hc =>
      obtain ⟨_, hat⟩ := Initiator.exists_at_of_mem_active (List.mem_of_find?_eq_some hc)
      exact (keeps_send ..).after <| s.keeps_putBack hat ⟨rfl, rfl, rfl, rfl⟩
    case h_2 => exact .refl s
  · exact .refl s

theorem Part.keeps_recover (s : Part) (o) : s.Keeps (s.recover o) := by
  unfold Part.recover
  refine keeps_ite (fun _ => keeps_ite (fun _ => s.keeps_abortedFinal o) fun _ =>
    (keeps_rejoin ..).after (s.keeps_retractData _)) fun _ => ?_
  split
  · exact (keeps_rejoin ..).after (.of_vitals (by rfl))
  · exact keeps_ite (fun _ => s.keeps_reportWithdrawn o) fun _ => s.keeps_rejoin _

theorem Part.keeps_recoverAll (s : Part) : s.Keeps s.recoverAll :=
  (keeps_foldl keeps_recover _ _).after (.of_vitals (by rfl))

/-- The part leaves OFFLINE, where it holds no record, to wait for a mount (R181). -/
theorem Part.keeps_leaveOffline (s : Part) (hs : s.sys.mode = .offline) :
    s.Keeps { s.enter .mounting .none with mnt := { phase := .wait } } := by
  let t : Part := { s with sys.mode := .mounting, sys.halt := .none, mnt := { phase := .wait } }
  suffices ht : s.Keeps t from
    (t.keeps_raise .modeChange (some .mode) none none none (some (modeNum .mounting))).after ht
  refine ⟨fun hb => ?_, id, fun hb => ?_, id⟩
  · obtain ⟨hsized, hbounded, -, hkept⟩ := hb
    exact ⟨hsized, hbounded, by simp [t, reasoned], hkept⟩
  · have htable : s.log.table = [] := hb.1 hs
    simp [t, blocksCounted, htable]

theorem Part.keeps_linkUp (s : Part) : s.Keeps s.linkUp :=
  keeps_ite (fun _ => .refl s) fun _ =>
    (keeps_ite (fun h => keeps_leaveOffline _ h) fun _ => (keeps_barrierParts _).after (keeps_recoverAll _)).after
      (.of_vitals (by rfl))

theorem Part.keeps_linkExpiry (s : Part) : s.Keeps s.linkExpiry :=
  keeps_ite (fun _ => s.keeps_enterHalted (by simp)) fun _ => .refl s

theorem Part.keeps_tick (s : Part) : s.Keeps s.tick :=
  (s.keeps_ref (r := { s.ref with queue := s.ref.queue.map fun e => { e with ticks := e.ticks - 1 } })
    (fun h => by simpa using h) fun h => h).trans (.of_vitals rfl)

/-! ### What several commands share -/

theorem Part.keeps_admission (s : Part) : s.Keeps s.admission := keeps_repeatStep (fun _ _ h => keeps_admitHead h) _ s

theorem Part.keeps_positionInternal (s : Part) : s.Keeps s.positionInternal :=
  keeps_repeatStep (fun _ _ h => keeps_positionWaiting h) _ s

theorem Part.keeps_queryFinal (s : Part) (o code wps) : s.Keeps (s.queryFinal o code wps) := by
  unfold Part.queryFinal
  split
  · exact s.keeps_refreshFinal ..
  · exact keeps_ite (fun _ => s.keeps_recoveryGood ..) fun _ => s.keeps_recoveryFailed ..
  · exact s.keeps_mountQueryFinal ..
  · exact .refl s

theorem Part.keeps_identifyFinal (s : Part) (o code g ser) : s.Keeps (s.identifyFinal o code g ser) := by
  unfold Part.identifyFinal
  split
  · exact s.keeps_mountIdentified ..
  · exact s.keeps_formatIdentified ..
  · exact .refl s

end Sys2Proof.Machine
end

section
/-! What every command keeps: every command of the table respects `Part.Keeps`, so every step does. -/

namespace Sys2Proof.Machine

open Sys2Proof.Machine.Part

variable {s t : State}

theorem getD_replicate_none {α : Type} (n k : Nat) : (List.replicate n (none : Option α)).getD k none = none := by
  rw [List.getD_eq_getElem?_getD, List.getElem?_replicate]
  split <;> rfl

/-- The reset state meets every invariant (R182). -/
theorem Part.reset_sound :
    inBounds {} ∧ indexOrdered {} ∧ blocksCounted {} ∧ commandsSound {} := by
  refine ⟨⟨⟨rfl, rfl, rfl, rfl⟩, ?_, ?_, fun k x _ hx => ?_⟩, ⟨.nil, by simp⟩, ⟨fun _ => rfl, fun _ => rfl, fun _ => rfl⟩,
    fun k c hc => ?_, by simp⟩
  · simp [bounded]
  · simp [reasoned]
  · have hnone : ({} : Part).port.slots.getD k none = none := getD_replicate_none 32 k
    cases hnone.symm.trans hx
  · have hnone : ({} : Part).ini.at k = none := getD_replicate_none 32 k
    cases hnone.symm.trans hc

/-- Every invariant holds in a state that has the vitals of the reset state. -/
theorem Part.keeps_reset (p : Part) {u : Part} (h : u.vitals = vitals {}) : p.Keeps u := by
  obtain ⟨hbounds, hindex, hblocks, hcontexts⟩ := reset_sound
  have hu : Part.Keeps {} u := .of_vitals h
  exact ⟨fun _ => hu.bounds hbounds, fun _ => hu.index hindex, fun _ => hu.blocks hblocks, fun _ => hu.contexts hcontexts⟩

/-- A command whose effect respects `Keeps` respects it, whether RESET_N is asserted or not. -/
theorem State.act_keeps {f : Part → Part} (hf : ∀ p : Part, p.Keeps (f p)) (h : s.act f = .next t) :
    s.part.Keeps t.part := by
  cases h
  exact keeps_ite (fun _ => .refl _) fun _ => hf _

theorem exec_keeps (i : Instr) (h : exec i s = .next t) : s.part.Keeps t.part := by
  cases i with
  | resetNAssert =>
    cases h
    exact keeps_reset _ rfl
  | resetNRelease w =>
    cases h
    exact keeps_reset _ rfl
  | tick => exact State.act_keeps keeps_tick h
  | linkDownTimerExpiry => exact State.act_keeps keeps_linkExpiry h
  | referralExpiryFirst id => exact State.act_keeps (fun p => p.keeps_expireFirst _) h
  | referralExpiryLate id => exact State.act_keeps (fun p => p.keeps_expireLate _) h
  | drivePortLinkReset => exact State.act_keeps keeps_linkReset h
  | driveLinkUp => exact State.act_keeps keeps_linkUp h
  | upstreamLinkReset => exact State.act_keeps keeps_upstreamReset h
  | read tag lba count => exact State.act_keeps (fun p => p.keeps_readFrame ..) h
  | write tag lba count => exact State.act_keeps (fun p => p.keeps_writeFrame ..) h
  | discard tag lba count => exact State.act_keeps (fun p => p.keeps_discardFrame ..) h
  | flush tag => exact State.act_keeps (fun p => p.keeps_flushFrame _) h
  | identify tag => exact State.act_keeps (fun p => p.keeps_identifyFrame _) h
  | other tag opcode params dir count => exact State.act_keeps (fun p => p.keeps_otherFrame ..) h
  | frameUnknownClass tag cls =>
    exact State.act_keeps (fun p => keeps_ite (fun _ => .refl p) fun _ => p.keeps_unknownFrame _) h
  | eventsPageRead tag => exact State.act_keeps (fun p => p.keeps_readFrame ..) h
  | writeDataBlock tag block => exact State.act_keeps (fun p => p.keeps_dataBlock ..) h
  | windowWriteIgnored tag block => exact State.act_keeps (fun p => p.keeps_ignoredBlock _) h
  | directiveUnknownCode tag num code => exact State.act_keeps (fun p => p.keeps_directiveRow ..) h
  | setPolicy tag num lowQ highQ hardQ gap paceQ burst contexts timeout =>
    exact State.act_keeps (fun p => p.keeps_directiveRow ..) h
  | setDisposition tag num cls disp => exact State.act_keeps (fun p => p.keeps_directiveRow ..) h
  | setRange tag num index mode fixed start length => exact State.act_keeps (fun p => p.keeps_directiveRow ..) h
  | setAlerts tag num mask => exact State.act_keeps (fun p => p.keeps_directiveRow ..) h
  | ackAlerts tag num mask => exact State.act_keeps (fun p => p.keeps_directiveRow ..) h
  | clearFlags tag num => exact State.act_keeps (fun p => p.keeps_directiveRow ..) h
  | query tag num lba => exact State.act_keeps (fun p => p.keeps_directiveRow ..) h
  | answerComplete tag num id code len reply => exact State.act_keeps (fun p => p.keeps_directiveRow ..) h
  | answerRelease tag num id => exact State.act_keeps (fun p => p.keeps_directiveRow ..) h
  | stop tag num => exact State.act_keeps (fun p => p.keeps_directiveRow ..) h
  | clean tag num band => exact State.act_keeps (fun p => p.keeps_directiveRow ..) h
  | drain tag num => exact State.act_keeps (fun p => p.keeps_directiveRow ..) h
  | format tag num bandBlocks spares logLen => exact State.act_keeps (fun p => p.keeps_directiveRow ..) h
  | restart tag num => exact State.act_keeps (fun p => p.keeps_directiveRow ..) h
  | acceptQueueTake => exact State.act_keeps keeps_serveAccept h
  | admission => exact State.act_keeps keeps_admission h
  | internalRecordPosition => exact State.act_keeps keeps_positionInternal h
  | driveGrant => exact State.act_keeps keeps_grantAll h
  | driveStaleCompletion slot code => exact State.act_keeps (fun p => .refl p) h
  | foregroundReadComplete slot code blocks =>
    exact State.act_keeps (fun p => p.keeps_complete _ _ fun o p _ => by
      split
      · exact p.keeps_fgReadFinal ..
      · exact .refl p) h
  | forwardedDataIn slot blocks => exact State.act_keeps (fun p => p.keeps_forwardData ..) h
  | forwardedCommandComplete slot code =>
    exact State.act_keeps (fun p => p.keeps_complete _ _ fun o p _ => by
      split
      · exact p.keeps_forwardedFinal ..
      · exact .refl p) h
  | recordWriteComplete slot code =>
    exact State.act_keeps (fun p => p.keeps_complete _ _ fun o p _ => by
      split
      · exact p.keeps_recordFinal ..
      · exact .refl p) h
  | voidRewriteComplete slot code =>
    exact State.act_keeps (fun p => p.keeps_complete _ _ fun o p _ => by
      split
      · exact p.keeps_voidFinal ..
      · exact .refl p) h
  | settlement => exact State.act_keeps keeps_settle h
  | reclaimAdvance => exact State.act_keeps keeps_reclaimAdvance h
  | anchorWriteComplete slot code =>
    exact State.act_keeps (fun p => p.keeps_complete _ _ fun _ p _ => p.keeps_anchorFinal _) h
  | appendIssue band => exact State.act_keeps (fun p => p.keeps_appendIssue _) h
  | appendWriteComplete slot code =>
    exact State.act_keeps (fun p => p.keeps_complete _ _ fun o p _ => p.keeps_bandWriteFinal ..) h
  | bandQueryComplete slot code wps =>
    exact State.act_keeps (fun p => p.keeps_complete _ _ fun o p _ => p.keeps_queryFinal ..) h
  | bandResetOffer => exact State.act_keeps keeps_offerResets h
  | bandResetComplete slot code =>
    exact State.act_keeps (fun p => p.keeps_complete _ _ fun o p _ => by
      split
      · exact p.keeps_resetFinal ..
      · exact .refl p) h
  | targetBandHanded => exact State.act_keeps keeps_handBand h
  | mergeStart => exact State.act_keeps keeps_deadlockCheck h
  | mergeSnapshot ctx => exact State.act_keeps (fun p => p.keeps_snapshot _) h
  | mergeReadIssue ctx => exact State.act_keeps (fun p => p.keeps_issueRead _) h
  | mergeReadComplete slot code blocks =>
    exact State.act_keeps (fun p => p.keeps_complete _ _ fun o p _ => by
      split
      · exact p.keeps_mergeReadFinal ..
      · exact .refl p) h
  | targetUnitOffer ctx => exact State.act_keeps (fun p => p.keeps_offerUnit _) h
  | targetUnitComplete slot code =>
    exact State.act_keeps (fun p => p.keeps_complete _ _ fun o p _ => p.keeps_bandWriteFinal ..) h
  | contextIdle ctx => exact State.act_keeps (fun p => p.keeps_releaseCtx _) h
  | carryForwardReadComplete slot code blocks =>
    exact State.act_keeps (fun p => p.keeps_complete _ _ fun o p _ => by
      split
      · exact p.keeps_carryReadFinal ..
      · exact .refl p) h
  | commandStatus tag => exact State.act_keeps (fun p => p.keeps_commandStatus _) h
  | flushDone tag => exact State.act_keeps (fun p => p.keeps_flushDone _) h
  | mountStart => exact State.act_keeps keeps_mountStart h
  | driveIdentifyComplete slot code bands bandBlocks conv model serial =>
    exact State.act_keeps (fun p => p.keeps_complete _ _ fun o p _ => p.keeps_identifyFinal ..) h
  | mountAnchorReadComplete slot code block =>
    exact State.act_keeps (fun p => p.keeps_complete _ _ fun _ p _ => p.keeps_anchorReadFinal ..) h
  | mountHeaderReadComplete slot code block =>
    exact State.act_keeps (fun p => p.keeps_complete _ _ fun o p _ => by
      split
      · exact p.keeps_headerReadFinal ..
      · exact .refl p) h
  | replayReadComplete slot code blocks =>
    exact State.act_keeps (fun p => p.keeps_complete _ _ fun o p _ => p.keeps_replayFinal ..) h
  | claimResolution => exact State.act_keeps keeps_claimResolution h
  | formatQuiesceDone => exact State.act_keeps keeps_formatQuiesced h
  | formatLogClearComplete slot code =>
    exact State.act_keeps (fun p => p.keeps_complete _ _ fun o p _ => by
      split
      · exact p.keeps_formatCleared ..
      · exact .refl p) h
  | formatBandResetComplete slot code =>
    exact State.act_keeps (fun p => p.keeps_complete _ _ fun o p _ => by
      split
      · exact p.keeps_formatReset ..
      · exact .refl p) h
  | formatAnchorWriteComplete slot code =>
    exact State.act_keeps (fun p => p.keeps_complete _ _ fun _ p _ => p.keeps_formatAnchored _) h
  | answerUnknownAction tag num id action => exact State.act_keeps (fun p => p.keeps_directiveRow ..) h

/-- A step runs the command at the front of the queue, or idles. -/
theorem step_keeps (h : step s = .next t) : s.part.Keeps t.part := by
  unfold step at h
  split at h
  case h_1 =>
    cases h
    exact .refl _
  case h_2 c rest _ => exact exec_keeps (s := { s with pending := rest }) c h

end Sys2Proof.Machine

namespace Sys2Proof

open Sys2Proof.Machine

/-- Settles O57: every operation of the part keeps the bounds, so every command does. -/
theorem everyStepKeepsTheBounds : Obligations.EveryStepKeepsTheBounds :=
  fun _ _ h => (step_keeps h).bounds

/-- Settles O58: every operation that changes the extents filters, cuts or inserts in order. -/
theorem everyStepKeepsTheIndexInOrder : Obligations.EveryStepKeepsTheIndexInOrder :=
  fun _ _ h => (step_keeps h).index

/-- Settles O59: the records come and go with their blocks, in the modes that count them so. -/
theorem everyStepCountsTheLogBlocks : Obligations.EveryStepCountsTheLogBlocks :=
  fun _ _ h => (step_keeps h).blocks

/-- Settles O60: a command changes in its context, and a new one comes to a FREE tag with a new identity. -/
theorem everyStepKeepsTheContextsSound : Obligations.EveryStepKeepsTheContextsSound :=
  fun _ _ h => (step_keeps h).contexts

end Sys2Proof
end

section
/-! The block as a whole: a step, the reset state, the tick and the referral timers. -/

namespace Sys2Proof.Machine

/-- Every command but those of RESET_N acts on the part while it is awake. -/
theorem exec_eq_act (c : Instr) (ha : c ≠ .resetNAssert) (hr : ∀ v, c ≠ .resetNRelease v) :
    ∃ f, ∀ s, exec c s = s.act f := by
  cases c
  case resetNAssert => exact absurd rfl ha
  case resetNRelease v => exact absurd rfl (hr v)
  all_goals exact ⟨_, fun _ => rfl⟩

/-- The expiry of a referral's timer is no event at the other stage (R160). -/
theorem Part.expireFirst_late {p : Part} {id : Nat} {e : ReferralEntry} (hfind : p.ref.find id = some e)
    (hstage : e.stage = .late) : p.expireFirst id = p := by
  simp [expireFirst, hfind, hstage]

theorem Part.expireLate_first {p : Part} {id : Nat} {e : ReferralEntry} (hfind : p.ref.find id = some e)
    (hstage : e.stage = .first) : p.expireLate id = p := by
  simp [expireLate, hfind, hstage]

end Sys2Proof.Machine

namespace Sys2Proof

open Sys2Proof.Machine

/-- Settles O1, by the definition of a step. -/
theorem stepRunsTheFrontCommand : Obligations.StepRunsTheFrontCommand := fun _ _ _ => ⟨rfl, rfl⟩

/-- Settles O2: every command but those of RESET_N is asleep while it is asserted. -/
theorem resetStateAndPins : Obligations.ResetStateAndPins := by
  refine ⟨?_, fun p q w => ⟨⟨rfl, rfl⟩, fun c hreset ha hr => ?_⟩, ?_⟩
  · exact ⟨rfl, rfl, rfl, rfl, rfl, rfl, rfl, rfl, rfl, rfl, rfl, rfl, rfl, rfl, rfl, rfl, rfl, rfl, rfl, rfl, rfl, rfl, rfl,
      rfl, rfl, rfl, rfl, rfl, rfl, rfl, rfl, rfl, rfl, rfl, rfl, rfl, rfl, rfl, rfl⟩
  · obtain ⟨f, hf⟩ := exec_eq_act c ha hr
    exact (hf _).trans (State.act_asleep _ hreset)
  · obtain ⟨⟨hsized, hbounded, hreason, hkept⟩, hindex, hblocks, hcontexts⟩ := Part.reset_sound
    exact ⟨hsized, hbounded, hreason, hkept, hindex, hblocks, hcontexts⟩

/-- Settles O3, by the stage of the entry. -/
theorem timersTickAndReferralsExpire : Obligations.TimersTickAndReferralsExpire := by
  refine ⟨fun p q hreset => ?_, fun p q id e hreset hfind hticks => ⟨fun hstage => ⟨?_, ?_⟩, fun hstage => ⟨?_, ?_⟩⟩⟩
  · rw [exec_tick, State.act_awake _ hreset]
    simp [Part.tick, Part.timed, Config.linkDownTicks]
  · rw [exec_referralExpiryFirst, State.act_awake _ hreset]
    simp [Part.expireFirst, hfind, hstage, hticks, Part.raise]
  · rw [exec_referralExpiryLate, State.act_awake _ hreset, Part.expireLate_first hfind hstage]
  · rw [exec_referralExpiryLate, State.act_awake _ hreset]
    simp [Part.expireLate, hfind, hstage, hticks, Part.raise, Part.finish, Referral.expire,
      Referral.drop, Config.expiredCapacity]
  · rw [exec_referralExpiryFirst, State.act_awake _ hreset, Part.expireFirst_late hfind hstage]

end Sys2Proof
end

section
/-! The end of every command: the entry into HALTED (R191) and the upstream link reset (R146). -/

namespace Sys2Proof.Machine

/-! ### The commands that a fold of statuses ends -/

/-- Another tag's command keeps its context, but for what a FLUSH waits for (R140). -/
theorem Initiator.finish_at_other (i : Initiator) {t k : Nat} (code : Code) (h : t ≠ k) :
    (i.at k = none → (i.finish t code).at k = none) ∧
      ∀ c, i.at k = some c → ∃ ws, (i.finish t code).at k = some { c with waits := ws } := by
  rw [Initiator.finish_at_ne _ _ _ _ h]
  split
  · exact ⟨id, fun c hc => ⟨c.waits, hc⟩⟩
  · exact ⟨fun hc => by simp [hc], fun c hc => ⟨_, by rw [hc]; rfl⟩⟩

theorem Initiator.foldl_finish_none {l : List Nat} {i : Initiator} {k : Nat} (code : Code) (h : i.at k = none) :
    (l.foldl (fun i t => i.finish t code) i).at k = none := by
  induction l generalizing i with
  | nil => exact h
  | cons t l ih =>
    refine ih ?_
    by_cases htk : t = k
    · exact htk ▸ i.finish_at_self t code
    · exact (i.finish_at_other code htk).1 h

theorem Initiator.foldl_finish_mem {l : List Nat} {i : Initiator} {k : Nat} (code : Code) (h : k ∈ l) :
    (l.foldl (fun i t => i.finish t code) i).at k = none := by
  induction l generalizing i with
  | nil => cases h
  | cons t l ih =>
    obtain rfl | h := List.mem_cons.mp h
    · exact Initiator.foldl_finish_none (i := i.finish k code) code (i.finish_at_self k code)
    · exact ih h

theorem Initiator.foldl_finish_not_mem {l : List Nat} {i : Initiator} {k : Nat} {c : Cmd} (code : Code) (h : k ∉ l)
    (hc : i.at k = some c) : ∃ ws, (l.foldl (fun i t => i.finish t code) i).at k = some { c with waits := ws } := by
  induction l generalizing i c with
  | nil => exact ⟨c.waits, hc⟩
  | cons t l ih =>
    obtain ⟨hne, hl⟩ := not_or.mp (mt List.mem_cons.mpr h)
    obtain ⟨ws, hws⟩ := (i.finish_at_other code (Ne.symm hne)).2 c hc
    obtain ⟨vs, hvs⟩ := ih (i := i.finish t code) hl hws
    exact ⟨vs, hvs⟩

/-- The tags that hold a command but no window command are those that `plainTags` lists (R145). -/
theorem Part.mem_plainTags {p : Part} (hs : p.commandsSound) {k : Nat} {c : Cmd} (hc : p.ini.at k = some c) :
    k ∈ p.ini.plainTags ↔ c.window = false := by
  have hmem : ∀ {j x}, p.ini.at j = some x → x ∈ p.ini.active := by
    intro j x hx
    have : some x ∈ p.ini.tags := by
      rw [Initiator.at, List.getD_eq_getElem?_getD] at hx
      cases hj : p.ini.tags[j]? with
      | none => simp [hj] at hx
      | some y => exact List.mem_of_getElem? (by simpa [hj] using hx : p.ini.tags[j]? = some (some x))
    simpa [Initiator.active] using this
  have htag : ∀ {j x}, p.ini.at j = some x → x.tag = j := fun hx => (hs.1 _ _ hx).1
  simp only [Initiator.plainTags, List.mem_map, List.mem_filter, Bool.not_eq_true']
  constructor
  · rintro ⟨x, ⟨hx, hwin⟩, hxk⟩
    obtain ⟨j, hj⟩ := Initiator.exists_at_of_mem_active hx
    obtain rfl : j = k := (htag hj).symm.trans hxk
    obtain rfl : x = c := Option.some.inj (hj.symm.trans hc)
    exact hwin
  · exact fun hwin => ⟨c, ⟨hmem hc, hwin⟩, htag hc⟩

/-! ### The entry into HALTED -/

/-- No directive stays pending when one is finished (R175). -/
@[simp] theorem Window.finish_dirPending (w : Window) (r d) : (w.finish r d).dirPending = none := by
  unfold Window.finish
  split
  · assumption
  · rw [Window.raise_dirPending, Window.update]
    split <;> rfl

theorem Part.enterHalted_eq (p : Part) (h : HaltReason) :
    p.enterHalted h =
      ({ (p.enter .halted h).clearTables.clearPort with
          port.timer := none, ref := p.ref.expireAll
          ini := p.ini.plainTags.foldl (fun i t => i.finish t .notReady)
            { p.ini with hold := [], detached := [], accept := [] } } : Part).finishDirective .failed p.haltData := by
  rw [enterHalted]
  dsimp only
  rw [foldl_finish]
  rfl

theorem Initiator.foldl_finish_frame (l : List Nat) (i : Initiator) (code : Code) :
    (l.foldl (fun i t => i.finish t code) i).hold = i.hold ∧ (l.foldl (fun i t => i.finish t code) i).accept = i.accept ∧
      (l.foldl (fun i t => i.finish t code) i).detached = i.detached :=
  ⟨foldl_frame Initiator.hold (fun i t => by simp) l i, foldl_frame Initiator.accept (fun i t => by simp) l i,
    foldl_frame Initiator.detached (fun i t => by simp) l i⟩

/-! ### The upstream link reset -/

/-- What the withdrawal of a command's offers leaves alone (R146, R147): all but contexts, and readers of bands and
records. -/
def Part.upstreamFrame (p : Part) :=
  (p.sys, p.cfg, p.ret, p.win, p.ref, p.pace, p.idx, p.mrg, p.port, p.bands.lbt, p.log.table.map (·.seq), p.log.occ,
    p.log.head, p.log.tail, p.ini.sent, p.ini.nextCid)

theorem Part.upstreamFrame_onCmd (p : Part) (cid f) : (p.onCmd cid f).upstreamFrame = p.upstreamFrame := rfl

theorem Part.upstreamFrame_unpinOpt (p : Part) (pin) : (p.unpinOpt pin).upstreamFrame = p.upstreamFrame := by
  match pin with
  | none => rfl
  | some (.band b) => rfl
  | some (.record q) =>
    simp only [upstreamFrame, unpinOpt, unpin, onRec, List.map_map, Prod.mk.injEq, true_and, and_true]
    refine List.map_congr_left fun r _ => ?_
    simp only [Function.comp]
    split <;> rfl

theorem Part.upstreamFrame_withdrawOffer (p : Part) (o) : (p.withdrawOffer o).upstreamFrame = p.upstreamFrame := by
  unfold Part.withdrawOffer
  split
  · exact p.upstreamFrame_unpinOpt _
  · rfl
  · rfl

end Sys2Proof.Machine

namespace Sys2Proof

open Sys2Proof.Machine

/-- Settles O4: the statuses end the plain commands one by one, and an upstream link reset leaves alone all but the
contexts and the pins of what was not granted. -/
theorem haltAndUpstreamResetDropEveryCommand : Obligations.HaltAndUpstreamResetDropEveryCommand := by
  intro p q hreset expired
  refine ⟨fun t hlink hoffline hhalted htimer => ⟨fun ht => ?_, fun ht => ?_⟩, ?_⟩
  · rw [exec_linkDownTimerExpiry, State.act_awake _ hreset]
    simp [Part.linkExpiry, htimer, Config.linkDownTicks, Nat.not_le.mpr ht]
  · refine ⟨p.enterHalted .driveLost, ?_, ?_⟩
    · rw [exec_linkDownTimerExpiry, State.act_awake _ hreset]
      simp [Part.linkExpiry, Part.timed, htimer, Config.linkDownTicks, ht, hlink, hoffline, hhalted]
    · rw [Part.enterHalted_eq]
      obtain ⟨hhold, haccept, hdetached⟩ := Initiator.foldl_finish_frame p.ini.plainTags
        { p.ini with hold := [], detached := [], accept := [] } .notReady
      refine ⟨rfl, rfl, rfl, rfl, rfl, rfl, rfl, rfl, hhold, haccept, hdetached, Initiator.foldl_finish_sent .., ?_, rfl, rfl,
        rfl, rfl, rfl, p.ref.expireAll_eq, Window.finish_dirPending .., rfl, rfl⟩
      refine fun hsound => ⟨fun k hplain => ?_, fun k c hc hwin => ?_⟩
      · cases hk : p.ini.at k with
        | none => exact Initiator.foldl_finish_none _ hk
        | some c => exact Initiator.foldl_finish_mem _ ((Part.mem_plainTags hsound hk).mpr (hplain c hk))
      · refine Initiator.foldl_finish_not_mem _ (fun hmem => ?_) hc
        simp [(Part.mem_plainTags hsound hc).mp hmem] at hwin
  · refine ⟨p.upstreamReset, ?_, ?_⟩
    · rw [exec_upstreamLinkReset, State.act_awake _ hreset]
    · unfold Part.upstreamReset
      extract_lets mine os s₁ held s₂ gone
      have hframe : s₂.upstreamFrame = (p.withdraw mine).upstreamFrame :=
        (foldl_frame Part.upstreamFrame (fun s e => s.upstreamFrame_onCmd ..) _ _).trans
          (foldl_frame Part.upstreamFrame Part.upstreamFrame_withdrawOffer _ _)
      simp only [Part.upstreamFrame, Prod.mk.injEq] at hframe
      obtain ⟨hsys, hcfg, hret, hwin, href, hpace, hidx, hmrg, hport, hlbt, hseqs, hocc, hhead, htail, hsent, hcid⟩ := hframe
      refine ⟨rfl, rfl, rfl, hsent, hcid, ?_, ?_, ?_, ?_, ?_, hlbt, hseqs, hocc, hhead, htail, hsys, hcfg, hret, hwin, hpace,
        hidx, hmrg⟩
      · show s₂.ref.expireAll = _
        rw [href]
        exact p.ref.expireAll_eq
      · exact (congrArg Port.slots hport :)
      · exact (congrArg Port.sent hport :)
      · exact (congrArg Port.awaiting hport :)
      · intro o ho hkept
        show o ∈ s₂.port.offers
        rw [hport]
        refine List.mem_filter.mpr ⟨ho, ?_⟩
        rcases hkept with hwork | hattempt
        · simp [mine, hwork]
        · simp [Nat.ne_of_gt hattempt]

end Sys2Proof
end

section
/-! Frames that are refused (R5, R6, R127, R129, R131). -/

namespace Sys2Proof.Machine

/-! ### The limits of R6, one by one -/

section Limits

variable {p : Part} {cls : Cls} {a n : Nat}

theorem Part.rangeCheck_of_count (h : n = 0 ∨ cls ≠ .discard ∧ 1024 < n) :
    p.rangeCheck cls a n = .refuse .invalidField := if_pos h

/-- A command that lies in the window, past the first test. -/
theorem Part.rangeCheck_of_window (hn : ¬ (n = 0 ∨ cls ≠ .discard ∧ 1024 < n))
    (hwin : p.sys.windowEn = true ∧ p.logBlocks ≤ a ∧ a + n ≤ p.logBlocks + 256) :
    p.rangeCheck cls a n = if cls = .discard then .refuse .invalidField else .window (a - p.logBlocks) :=
  (if_neg hn).trans (if_pos hwin)

/-- A command that does not lie in the window is left to the last three limits. -/
theorem Part.rangeCheck_past_window (hn : ¬ (n = 0 ∨ cls ≠ .discard ∧ 1024 < n))
    (hwin : ¬ (p.sys.windowEn = true ∧ p.logBlocks ≤ a ∧ a + n ≤ p.logBlocks + 256)) :
    p.rangeCheck cls a n =
      if !p.mounted then .refuse .notReady
      else if p.capacity < a + n then .refuse .outOfRange
      else if p.sys.windowEn = true ∧ p.logBlocks < a + n then .refuse .invalidField
      else .pass :=
  (if_neg hn).trans (if_neg hwin)

theorem Part.rangeCheck_not_mounted (hn : ¬ (n = 0 ∨ cls ≠ .discard ∧ 1024 < n))
    (hwin : ¬ (p.sys.windowEn = true ∧ p.logBlocks ≤ a ∧ a + n ≤ p.logBlocks + 256)) (hm : p.mounted = false) :
    p.rangeCheck cls a n = .refuse .notReady := by
  rw [Part.rangeCheck_past_window hn hwin]
  simp [hm]

theorem Part.rangeCheck_past_capacity (hn : ¬ (n = 0 ∨ cls ≠ .discard ∧ 1024 < n)) (hm : p.mounted = true)
    (hcap : (if p.sys.windowEn then p.logBlocks + 256 else p.logBlocks) < a + n) :
    p.rangeCheck cls a n = .refuse .outOfRange := by
  have hwin : ¬ (p.sys.windowEn = true ∧ p.logBlocks ≤ a ∧ a + n ≤ p.logBlocks + 256) := by
    rintro ⟨hen, -, hle⟩
    rw [if_pos hen] at hcap
    omega
  have hcapacity : p.capacity < a + n := by
    rw [Part.capacity, Config.windowPages]
    split at hcap <;> simp_all
  rw [Part.rangeCheck_past_window hn hwin]
  simp [hm, hcapacity]

theorem Part.rangeCheck_across_window (hn : ¬ (n = 0 ∨ cls ≠ .discard ∧ 1024 < n)) (hm : p.mounted = true)
    (hen : p.sys.windowEn = true) (hlow : a < p.logBlocks) (hpast : p.logBlocks < a + n) (hend : a + n ≤ p.logBlocks + 256) :
    p.rangeCheck cls a n = .refuse .invalidField := by
  have hcapacity : ¬ p.capacity < a + n := by
    rw [Part.capacity, if_pos hen, Config.windowPages]
    omega
  rw [Part.rangeCheck_past_window hn (by omega)]
  simp [hm, hcapacity, hen, hpast]

end Limits

/-! ### The frames that a limit refuses -/

section Refused

variable {p : Part} (q : List Instr) {tag : Fin 32}

theorem Part.tagged_free {p : Part} {t : Nat} {f : Part → Part} (h : p.ini.at t = none) : p.tagged t f = f p := by
  simp [Part.tagged, h]

theorem Part.tagged_busy {p : Part} {t : Nat} {f : Part → Part} (h : (p.ini.at t).isSome = true) :
    p.tagged t f = p.refuse t .tagConflict := if_pos h

theorem exec_read_refused {lba : BitVec 64} {count : BitVec 32} {c : Code} (hreset : p.sys.inReset = false)
    (hfree : p.ini.at tag = none) (hcheck : p.rangeCheck .read lba.toNat count.toNat = .refuse c) :
    exec (.read tag lba count) ⟨p, q⟩ = .next ⟨p.refuse tag c, q⟩ := by
  rw [exec_read, State.act_awake _ hreset, Part.readFrame, Part.tagged_free hfree, hcheck]

theorem exec_write_refused {lba : BitVec 64} {count : BitVec 32} {c : Code} (hreset : p.sys.inReset = false)
    (hfree : p.ini.at tag = none) (hcheck : p.rangeCheck .write lba.toNat count.toNat = .refuse c) :
    exec (.write tag lba count) ⟨p, q⟩ = .next ⟨p.refuse tag c, q⟩ := by
  rw [exec_write, State.act_awake _ hreset, Part.writeFrame, Part.tagged_free hfree, hcheck]

theorem exec_discard_refused {lba : BitVec 64} {count : BitVec 32} {c : Code} (hreset : p.sys.inReset = false)
    (hfree : p.ini.at tag = none) (hcheck : p.rangeCheck .discard lba.toNat count.toNat = .refuse c) :
    exec (.discard tag lba count) ⟨p, q⟩ = .next ⟨p.refuse tag c, q⟩ := by
  rw [exec_discard, State.act_awake _ hreset, Part.discardFrame, Part.tagged_free hfree, hcheck]

/-- A limit that is the same for a DISCARD, and for a READ and a WRITE of at most 1,024 blocks. -/
theorem exec_range_refused {lba : BitVec 64} {count : BitVec 32} {c : Code} (hreset : p.sys.inReset = false)
    (hfree : p.ini.at tag = none) (hone : 1 ≤ count.toNat)
    (hcheck : ∀ cls, ¬ (count.toNat = 0 ∨ cls ≠ .discard ∧ 1024 < count.toNat) →
      p.rangeCheck cls lba.toNat count.toNat = .refuse c) :
    exec (.discard tag lba count) ⟨p, q⟩ = .next ⟨p.refuse tag c, q⟩ ∧
      (count.toNat ≤ 1024 →
        exec (.read tag lba count) ⟨p, q⟩ = .next ⟨p.refuse tag c, q⟩ ∧
        exec (.write tag lba count) ⟨p, q⟩ = .next ⟨p.refuse tag c, q⟩) :=
  ⟨exec_discard_refused q hreset hfree (hcheck _ (by simp; omega)), fun hmax =>
    ⟨exec_read_refused q hreset hfree (hcheck _ (by omega)), exec_write_refused q hreset hfree (hcheck _ (by omega))⟩⟩

end Refused

theorem Part.mounted_iff (p : Part) : p.mounted = true ↔ p.sys.mode = .active ∨ p.sys.mode = .degraded := by
  simp [Part.mounted]

end Sys2Proof.Machine

namespace Sys2Proof

open Sys2Proof.Machine

/-- Settles O6: a frame is refused by its tag, or by the first limit of R6 that fails. -/
theorem framesAreRefusedInOrder : Obligations.FramesAreRefusedInOrder := by
  refine ⟨fun p q tag hreset => ⟨fun hbusy lba count opcode dir cls params => ?_, fun hfree cls hcls => ?_⟩, ?_⟩
  · refine ⟨?_, ?_, ?_, ?_, ?_, ?_, ?_, fun hcls => ?_⟩
    · exact (State.act_awake _ hreset).trans (by rw [Part.readFrame, Part.tagged_busy hbusy]; rfl)
    · exact (State.act_awake _ hreset).trans (by rw [Part.writeFrame, Part.tagged_busy hbusy]; rfl)
    · exact (State.act_awake _ hreset).trans (by rw [Part.discardFrame, Part.tagged_busy hbusy]; rfl)
    · exact (State.act_awake _ hreset).trans (by rw [Part.flushFrame, Part.tagged_busy hbusy]; rfl)
    · exact (State.act_awake _ hreset).trans (by rw [Part.identifyFrame, Part.tagged_busy hbusy]; rfl)
    · exact (State.act_awake _ hreset).trans (by rw [Part.otherFrame, Part.tagged_busy hbusy]; rfl)
    · exact (State.act_awake _ hreset).trans (by rw [Part.readFrame, Part.tagged_busy hbusy]; rfl)
    · rw [exec_frameUnknownClass, State.act_awake _ hreset, hcls, Part.unknownFrame, Part.tagged_busy hbusy]
      rfl
  · rw [exec_frameUnknownClass, State.act_awake _ hreset, hcls, Part.unknownFrame, Part.tagged_free hfree]
    rfl
  · intro p q tag lba count hreset hfree mounted w hw hw0 refused n a inWindow
    have hmounted : p.mounted = true ↔ mounted := p.mounted_iff
    have hlog : p.logBlocks = w := by
      by_cases hm : p.mounted = true
      · rw [hw (hmounted.mp hm), p.logBlocks_mounted hm]
      · simp [Part.logBlocks, hm, hw0 (mt hmounted.mpr hm)]
    subst hlog
    refine ⟨fun hn => ?_, fun hn => ?_, fun hone hwin hm => ?_, fun hone hm hcap => ?_,
      fun hone hm hen hlow hpast hend => ?_, fun hone hmode hend => ?_⟩
    · have hcount : ∀ cls : Cls, cls ≠ .discard → n = 0 ∨ cls ≠ .discard ∧ 1024 < n :=
        fun cls hcls => hn.imp_right fun h => ⟨hcls, h⟩
      exact ⟨exec_read_refused q hreset hfree (Part.rangeCheck_of_count (hcount _ (by decide))),
        exec_write_refused q hreset hfree (Part.rangeCheck_of_count (hcount _ (by decide)))⟩
    · refine exec_discard_refused q hreset hfree ?_
      by_cases h0 : n = 0
      · exact Part.rangeCheck_of_count (.inl h0)
      · exact Part.rangeCheck_of_window (by simpa using h0) (hn.resolve_left h0)
    · exact exec_range_refused q hreset hfree hone fun cls hcls =>
        Part.rangeCheck_not_mounted hcls hwin (by simpa using mt hmounted.mp hm)
    · exact exec_range_refused q hreset hfree hone fun cls hcls =>
        Part.rangeCheck_past_capacity hcls (hmounted.mpr hm) hcap
    · exact exec_range_refused q hreset hfree hone fun cls hcls =>
        Part.rangeCheck_across_window hcls (hmounted.mpr hm) hen hlow hpast hend
    · have hm : p.mounted = true := hmounted.mpr (.inr hmode)
      refine ⟨?_, fun hmax => ?_⟩
      · rw [exec_discard, State.act_awake _ hreset, Part.discardFrame, Part.tagged_free hfree,
          p.rangeCheck_pass .discard _ _ hm hone (.inr rfl) hend]
        exact congrArg (fun u : Part => Host.Outcome.next (State.mk u q)) (if_pos hmode)
      · rw [exec_write, State.act_awake _ hreset, Part.writeFrame, Part.tagged_free hfree,
          p.rangeCheck_pass .write _ _ hm hone (.inl hmax) hend]
        exact congrArg (fun u : Part => Host.Outcome.next (State.mk u q)) (if_pos hmode)

end Sys2Proof
end

section
/-! A READ that nothing staged overlaps (R7, R19, R20, R138, R139). -/

namespace Sys2Proof.Machine

/-! ### Pieces and segments -/

/-- A command that ends within the logical band after its first has two pieces (R7). -/
theorem pieces_two {d a n : Nat} (h : d < a % d + n) (h' : a % d + n ≤ 2 * d) :
    pieces d a n = [(a / d, a % d, d - a % d), (a / d + 1, 0, a % d + n - d)] := by
  have hd : 0 < d := by omega
  have ho : a % d < d := Nat.mod_lt _ hd
  have hfirst : min n (d - a % d) = d - a % d := by omega
  have hsecond : min (n - (d - a % d)) (d - 0) = a % d + n - d := by omega
  have hn : n ≠ 0 := by omega
  have hrest : n - (d - a % d) ≠ 0 := by omega
  have hdone : n - (d - a % d) - (a % d + n - d) = 0 := by omega
  have hlast : ∀ fuel l, piecesFrom d fuel l 0 0 = [] := fun fuel l => by cases fuel <;> rfl
  simp only [pieces, piecesFrom, if_neg hn, if_neg hrest, hfirst, hsecond, hdone, hlast]

/-- The source of offsets that no extent overlaps (R19). -/
theorem Part.resolve_unstaged {s : Part} {l o n : Nat} (h : s.idx.supply s.sys.layout.dataBlocks l o n = []) :
    s.resolve (l, o, n) = gapSegs s.sys.layout (s.bands.lband l) o (o + n) := by
  simp only [Part.resolve, h, segsFrom]

theorem gapSegs_below_fill {g : Layout} {b : LBand} {ph o n : Nat} (hp : b.phys = some ph) (hn : 1 ≤ n) (h : o + n ≤ b.f) :
    gapSegs g b o (o + n) =
      [{ kind := .band, abs := g.conv + ph * g.bandBlocks + 1 + o, n := n, pin := some (.band ph) }] := by
  have hmin : min (o + n) b.f = o + n := by omega
  have hmax : ¬ max o b.f < o + n := by omega
  have hlt : o < o + n := by omega
  simp [gapSegs, hp, hmin, hmax, hlt, Layout.bandStart]

theorem gapSegs_unmapped {g : Layout} {b : LBand} {o n : Nat} (hp : b.phys = none) (hn : 1 ≤ n) :
    gapSegs g b o (o + n) = [zeroSeg .beyondFill n] := by
  have hlt : o < o + n := by omega
  simp [gapSegs, hp, hlt]

theorem Part.resolve_one_piece (s : Part) {d a n : Nat} (hn : 1 ≤ n) (h : a % d + n ≤ d) :
    (pieces d a n).flatMap s.resolve = s.resolve (a / d, a % d, n) := by
  rw [pieces_one d a n hn h, List.flatMap_singleton]

theorem Part.resolve_two_pieces (s : Part) {d a n : Nat} (h : d < a % d + n) (h' : a % d + n ≤ 2 * d) :
    (pieces d a n).flatMap s.resolve =
      s.resolve (a / d, a % d, d - a % d) ++ s.resolve (a / d + 1, 0, a % d + n - d) := by
  rw [pieces_two h h', List.flatMap_cons, List.flatMap_singleton]

/-! ### Taking an accepted frame -/

/-- The part with a frame's command in its context, under its new identity (R128, R140). -/
def Part.accepted (p : Part) (c : Cmd) : Part :=
  ({ p with ini.nextCid := p.ini.nextCid + 1 } : Part).putTag c.tag (some { c with cid := p.ini.nextCid, st := .working })

theorem Part.accepted_at {p : Part} {c : Cmd} (h : c.tag < p.ini.tags.length) :
    (p.accepted c).ini.at c.tag = some { c with cid := p.ini.nextCid, st := .working } :=
  Initiator.at_set_self { p.ini with nextCid := p.ini.nextCid + 1 } _ _ h

section Take

variable {s : Part} {t : Nat} {c : Cmd}

theorem Part.take_read (hc : s.ini.at t = some c) (hr : c.refer = false) (hcls : c.cls = .read) :
    s.take t = s.takeRead t := by simp [Part.take, hc, hr, hcls]
theorem Part.take_write (hc : s.ini.at t = some c) (hr : c.refer = false) (hcls : c.cls = .write) :
    s.take t = s.startReceiving t := by simp [Part.take, hc, hr, hcls]
theorem Part.take_discard (hc : s.ini.at t = some c) (hr : c.refer = false) (hcls : c.cls = .discard) :
    s.take t = s.takeDiscard t := by simp [Part.take, hc, hr, hcls]
theorem Part.take_flush (hc : s.ini.at t = some c) (hr : c.refer = false) (hcls : c.cls = .flush) :
    s.take t = s.takeFlush t := by simp [Part.take, hc, hr, hcls]
theorem Part.take_identify (hc : s.ini.at t = some c) (hr : c.refer = false) (hcls : c.cls = .identify) :
    s.take t = s.takeIdentify t := by simp [Part.take, hc, hr, hcls]
theorem Part.take_other (hc : s.ini.at t = some c) (hr : c.refer = false) (hcls : c.cls = .other) :
    s.take t = s.takeOther t := by simp [Part.take, hc, hr, hcls]
theorem Part.take_referred (hc : s.ini.at t = some c) (hr : c.refer = true) :
    s.take t = s.refer t := by simp [Part.take, hc, hr]

end Take

/-! ### Taking the READ -/

/-- A READ whose frames are free, with nothing waiting ahead of it, is resolved at its arrival (R134). -/
theorem Part.readFrame_taken {p : Part} {tag a n : Nat} (hfree : p.ini.at tag = none) (htag : tag < p.ini.tags.length)
    (hpass : p.rangeCheck .read a n = .pass) (haccept : p.ini.accept = []) (hframes : n ≤ p.ini.freeFrames) :
    p.readFrame tag a n =
      (p.accepted { cid := 0, tag := tag, cls := .read, lba := a, count := n }).takeRead tag := by
  rw [Part.readFrame, Part.tagged_free hfree, hpass]
  exact (p.acceptFrame_taken { cid := 0, tag := tag, cls := .read, lba := a, count := n } rfl
    (.inr ⟨haccept, hframes⟩)).trans (Part.take_read (p.accepted_at htag) rfl rfl)

/-- The state in which a READ's segments have been given to its context, its pins taken and its reads offered. -/
def Part.resolved (s : Part) (tag : Nat) (c : Cmd) (segs : List Seg) : Part :=
  let s := s.putTag tag (some { c with st := .working, frames := c.count, segs := segs, cursor := 0 })
  ((segs.filterMap (·.pin)).foldl Part.pin s).offerAll (segOffers c.cid 0 segs)

theorem Part.takeRead_resolved {s : Part} {tag : Nat} {c : Cmd} {segs : List Seg} (hc : s.ini.at tag = some c)
    (hsegs : (pieces s.sys.layout.dataBlocks c.lba c.count).flatMap s.resolve = segs) :
    s.takeRead tag =
      if segs.all (·.outcome.isSome) then ((s.resolved tag c segs).advance tag).finish tag .good
      else (s.resolved tag c segs).advance tag := by
  subst hsegs
  simp only [Part.takeRead, hc]
  rfl

theorem Part.pin_ini (s : Part) (p : Pin) : (s.pin p).ini = s.ini := by
  cases p <;> rfl

theorem Part.resolved_ini (s : Part) (tag c segs) :
    (s.resolved tag c segs).ini =
      { s.ini with
        tags := s.ini.tags.set tag (some { c with st := .working, frames := c.count, segs := segs, cursor := 0 }) } :=
  foldl_frame Part.ini Part.pin_ini (segs.filterMap Seg.pin)
    (s.putTag tag (some { c with st := .working, frames := c.count, segs := segs, cursor := 0 }))

/-- The context of a READ that has been resolved. -/
theorem Part.resolved_at {s : Part} {tag : Nat} (c : Cmd) (segs : List Seg) (h : tag < s.ini.tags.length) :
    (s.resolved tag c segs).ini.at tag =
      some { c with st := .working, frames := c.count, segs := segs, cursor := 0 } := by
  rw [resolved_ini]
  exact Initiator.at_set_self _ _ _ h

/-- Nothing is sent while the first segment is a read (R139). -/
theorem Part.advance_read {s : Part} {tag : Nat} {c : Cmd} (hc : s.ini.at tag = some c)
    (h : c.sendable = []) : s.advance tag = s := by
  simp [Part.advance, hc, h]

theorem Part.advance_sends {s : Part} {tag : Nat} {c : Cmd} (hc : s.ini.at tag = some c)
    (h : c.sendable ≠ []) :
    s.advance tag = (s.putTag tag (some { c with cursor := c.cursor + c.sendable.length })).send
      (.data tag (c.sendable.flatMap (·.data))) := by
  simp [Part.advance, hc, h]

theorem segOffers_unpinned {cid k : Nat} {segs : List Seg} (h : ∀ g ∈ segs, g.pin = none) : segOffers cid k segs = [] := by
  induction segs generalizing k with
  | nil => rfl
  | cons g segs ih => simp [segOffers, h g (by simp), ih fun x hx => h x (by simp [hx])]

/-- A READ of zero segments alone is answered at once, and its context is FREE (R138, R139). -/
theorem Part.takeRead_zeros {s : Part} {tag : Nat} {c : Cmd} {segs : List Seg} (hc : s.ini.at tag = some c)
    (htag : tag < s.ini.tags.length) (hne : segs ≠ [])
    (hsegs : (pieces s.sys.layout.dataBlocks c.lba c.count).flatMap s.resolve = segs)
    (hzero : ∀ g ∈ segs, g.pin = none ∧ g.outcome = some true) :
    let u := s.takeRead tag
    u = { s with ini := u.ini } ∧
      u.ini.sent = s.ini.sent ++ [.data tag (segs.flatMap (·.data)), .status tag .good] ∧
      u.ini.at tag = none ∧ u.ini.accept = s.ini.accept ∧ u.ini.hold = s.ini.hold := by
  intro u
  have hall : segs.all (·.outcome.isSome) = true := List.all_eq_true.mpr fun g hg => by simp [(hzero g hg).2]
  have hpins : segs.filterMap (·.pin) = [] := List.filterMap_eq_nil_iff.mpr fun g hg => (hzero g hg).1
  have hsend : Cmd.sendable { c with st := .working, frames := c.count, segs := segs, cursor := 0 } = segs :=
    List.takeWhile_eq_self_iff.mpr fun g hg => by simp [(hzero g hg).2]
  let d : Cmd := { c with st := .working, frames := c.count, segs := segs, cursor := 0 + segs.length }
  have hu : u = (((s.resolved tag c segs).putTag tag (some d)).send (.data tag (segs.flatMap (·.data)))).finish tag
      .good := by
    simp only [u]
    rw [takeRead_resolved hc hsegs, if_pos hall, advance_sends (resolved_at c segs htag) (by rwa [hsend]), hsend]
  have hini := congrArg Part.ini hu
  refine ⟨?_, ?_, ?_, ?_, ?_⟩
  · rw [hu]
    simp [resolved, hpins, segOffers_unpinned fun g hg => (hzero g hg).1, finish, putTag, send, offerAll]
  · rw [hini, finish, Initiator.finish_sent]
    simp [send, putTag, resolved_ini]
  · rw [hini]
    exact Initiator.finish_at_self ..
  · rw [hini, finish, Initiator.finish_accept]
    simp [send, putTag, resolved_ini]
  · rw [hini, finish, Initiator.finish_hold]
    simp [send, putTag, resolved_ini]

end Sys2Proof.Machine

namespace Sys2Proof

open Sys2Proof.Machine

/-- Settles O7, by the pieces of the command and by whether their bands are mapped. -/
theorem readOfUnstagedBlocksIsResolved : Obligations.ReadOfUnstagedBlocksIsResolved := by
  intro p q tag lba count hreset hfree htags hmode hone hmax haccept hframes g d l o hend from' seg read pinned cmd zeros
  have hm : p.mounted = true := p.mounted_iff.mpr hmode
  have hpass := p.rangeCheck_pass .read lba.toNat count.toNat hm hone (.inl hmax) (by rwa [p.logBlocks_mounted hm])
  have htag : (tag : Nat) < p.ini.tags.length := htags.symm ▸ tag.isLt
  let c : Cmd := { cid := 0, tag := tag, cls := .read, lba := lba.toNat, count := count.toNat }
  have hat := p.accepted_at (c := c) htag
  have htag' : (tag : Nat) < (p.accepted c).ini.tags.length := by simpa [Part.accepted, Part.putTag] using htag
  have hread : exec (.read tag lba count) ⟨p, q⟩ = .next ⟨(p.accepted c).takeRead tag, q⟩ :=
    (State.act_awake _ hreset).trans (congrArg (fun u : Part => Host.Outcome.next (State.mk u q))
      (Part.readFrame_taken hfree htag hpass haccept hframes))
  have hzeros : ∀ segs, segs ≠ [] → (pieces d lba.toNat count.toNat).flatMap p.resolve = segs →
      (∀ g ∈ segs, g.pin = none ∧ g.outcome = some true) → segs.flatMap (·.data) = List.replicate count.toNat [] → zeros := by
    intro segs hne hsegs hzero hdata
    obtain ⟨hu, hsent, hnone, hacc, hhold⟩ := Part.takeRead_zeros hat htag' hne hsegs hzero
    exact ⟨_, hread, by rw [hsent, hdata]; rfl, hnone, hacc, hhold, hu⟩
  have hreads : ∀ segs, (pieces d lba.toNat count.toNat).flatMap p.resolve = segs →
      segs.all (·.outcome.isSome) = false →
      exec (.read tag lba count) ⟨p, q⟩ = .next ⟨((p.accepted c).resolved tag
        { c with cid := p.ini.nextCid, st := .working } segs).advance tag, q⟩ := by
    intro segs hsegs hpending
    rw [hread, Part.takeRead_resolved hat hsegs, hpending]
    rfl
  refine ⟨fun hone' hsupply => ⟨fun ph hph hfill => ?_, fun hph => ?_⟩, ?_⟩
  · have hsegs : (pieces d lba.toNat count.toNat).flatMap p.resolve = [seg ph o count.toNat] :=
      (p.resolve_one_piece hone hone').trans <|
        (Part.resolve_unstaged hsupply).trans (gapSegs_below_fill hph hone hfill)
    rw [hreads _ hsegs rfl, Part.advance_read (Part.resolved_at _ _ htag') rfl]
    simp [Part.resolved, Part.accepted, Part.putTag, Part.offerAll, segOffers, readOffer, read, seg, Part.pin,
      Part.onP, cmd, c, pinned]
  · refine hzeros [zeroSeg .beyondFill count.toNat] (by simp) ?_ (by simp [zeroSeg]) (by simp [zeroSeg])
    exact (p.resolve_one_piece hone hone').trans <|
      (Part.resolve_unstaged hsupply).trans (gapSegs_unmapped hph hone)
  intro htwo htwo' n m hsupply hsupply'
  have ho : o < d := Nat.mod_lt _ (by omega)
  have hn : 1 ≤ n := by omega
  have hm : 1 ≤ m := by omega
  have hsum : n + m = count.toNat := by omega
  have hnd : o + n = d := by omega
  have hsegs : ∀ x y, gapSegs g (p.bands.lband l) o (o + n) = [x] → gapSegs g (p.bands.lband (l + 1)) 0 (0 + m) = [y] →
      (pieces d lba.toNat count.toNat).flatMap p.resolve = [x, y] := fun x y hx hy =>
    (p.resolve_two_pieces htwo htwo').trans <|
      congrArg₂ (· ++ ·) ((Part.resolve_unstaged hsupply).trans hx) ((Part.resolve_unstaged hsupply').trans hy)
  refine ⟨fun hph hph' => ?_, fun ph' hph' hfill' => ⟨fun ph hph hfill => ?_, fun hph => ?_⟩⟩
  · refine hzeros [zeroSeg .beyondFill n, zeroSeg .beyondFill m] (by simp)
      (hsegs _ _ (gapSegs_unmapped hph hn) (gapSegs_unmapped hph' hm)) (by simp [zeroSeg]) ?_
    simp [zeroSeg, hsum]
  · have hboth := hsegs (seg ph o n) (seg ph' 0 m) (gapSegs_below_fill hph hn (hnd ▸ hfill))
      (gapSegs_below_fill hph' hm (by omega))
    rw [hreads _ hboth rfl, Part.advance_read (Part.resolved_at _ _ htag') rfl]
    simp [Part.resolved, Part.accepted, Part.putTag, Part.offerAll, segOffers, readOffer, read, seg, Part.pin,
      Part.onP, cmd, c, pinned]
  · have hboth := hsegs (zeroSeg .beyondFill n) (seg ph' 0 m) (gapSegs_unmapped hph hn)
      (gapSegs_below_fill hph' hm (by omega))
    rw [hreads _ hboth rfl, Part.advance_sends (Part.resolved_at _ _ htag') (by simp [Cmd.sendable, zeroSeg])]
    simp [Part.resolved, Part.accepted, Part.putTag, Part.send, Part.offerAll, segOffers, readOffer, read, seg, Part.pin,
      Part.onP, cmd, c, pinned, zeroSeg, Cmd.sendable]

end Sys2Proof
end

section
/-! WRITE and DISCARD frames in ACTIVE: the retention ranges (R150 to R152), the solicitation of a WRITE's data (R135) and
the records of a DISCARD (R141, R142). -/

namespace Sys2Proof.Machine

/-! ### Retention ranges -/

theorem RangeEntry.observe_eq (e : RangeEntry) (a n : Nat) :
    e.observe a n =
      if e.mode = .observe ∧ a < e.start + e.length ∧ e.start < a + n then
        { e with activity := true, count := min 65535 (e.count + 1) }
      else e := by
  by_cases h : e.mode = .observe <;> simp [observe, touches, h]

/-- A command that touches no HOLD entry goes on, its entries noted (R150, R151). -/
theorem Part.retention_passes {s : Part} {tag a n : Nat} (cls : Cls) (f : Part → Part) (h : s.ret.held a n = none) :
    s.retention tag cls a n f = f { s with ret.entries := s.ret.entries.map fun (e : RangeEntry) => e.observe a n } := by
  simp only [Part.retention, Retention.held_observe, h]

/-- A HOLD refusal that finds the latch valid sets "more" (R152). -/
theorem Part.retention_more {s : Part} {tag a n i : Nat} (cls : Cls) (f : Part → Part)
    (hheld : s.ret.held a n = some i) (hlatch : s.ret.latch ≠ none) :
    s.retention tag cls a n f =
      ({ s with
          ret.entries := s.ret.entries.map fun (e : RangeEntry) => e.observe a n
          ret.more := true } : Part).refuse tag .prot := by
  obtain ⟨l, hl⟩ := Option.ne_none_iff_exists'.mp hlatch
  unfold Part.retention
  simp only [Retention.held_observe, hheld]
  simp only [Part.latchRefusal, hl]

/-- Where no entry is in use, the ranges change nothing. -/
theorem Part.retention_off {s : Part} {tag a n : Nat} (cls : Cls) (f : Part → Part)
    (h : s.ret.entries.all (·.mode == .off) = true) : s.retention tag cls a n f = f s := by
  have hoff : ∀ e ∈ s.ret.entries, e.mode = .off := by simpa using h
  have hheld : s.ret.held a n = none := by
    simp only [Retention.held, List.findIdx?_eq_none_iff]
    intro e he
    simp [hoff e he]
  have hsame : (s.ret.entries.map fun (e : RangeEntry) => e.observe a n) = s.ret.entries := by
    refine (List.map_congr_left (g := id) fun e he => ?_).trans (List.map_id _)
    simp [RangeEntry.observe, hoff e he]
  rw [Part.retention_passes cls f hheld, hsame]

/-- A DISCARD frame that passes the limits in ACTIVE is decided by the ranges (R130). -/
theorem Part.discardFrame_retention {s : Part} {tag a n : Nat} (hfree : s.ini.at tag = none)
    (hmode : s.sys.mode = .active) (hdisp : s.cfg.dispInForce.discard = .translate)
    (hpass : s.rangeCheck .discard a n = .pass) :
    s.discardFrame tag a n = s.retention tag .discard a n fun s =>
      s.acceptFrame { cid := 0, tag := tag, cls := .discard, lba := a, count := n
                      refer := s.cfg.dispInForce.discard == .refer } := by
  simp [Part.discardFrame, Part.tagged, hfree, hpass, hmode, hdisp]

/-- A DISCARD passes the limits below E x D, whatever its length (R5, R6). -/
theorem Part.rangeCheck_discard_active {s : Part} {a n : Nat} (hmode : s.sys.mode = .active) (hone : 1 ≤ n)
    (hend : a + n ≤ (s.sys.layout.bands - s.sys.layout.spares) * (s.sys.layout.bandBlocks - 1)) :
    s.rangeCheck .discard a n = .pass := by
  have hmounted : s.mounted = true := by simp [Part.mounted, hmode]
  exact s.rangeCheck_pass .discard a n hmounted hone (.inr rfl) (by rwa [s.logBlocks_mounted hmounted])

theorem Part.startReceiving_of {s : Part} {t : Nat} {c : Cmd} (hc : s.ini.at t = some c) :
    s.startReceiving t =
      (s.putTag t (some { c with st := .receiving, frames := c.count })).send (.solicit t c.count) := by
  simp only [startReceiving, hc]

/-! ### The records of a DISCARD -/

/-- The blocks of a piece with nothing staged, unsettled or held over them, in a band that has none of its own there,
give no record (R141). -/
def Part.settledOut (s : Part) (pc : Nat × Nat × Nat) : Bool :=
  if pc.2.1 = 0 ∧ pc.2.2 = s.sys.layout.dataBlocks then
    (s.bands.lband pc.1).st == .empty && s.unstaged pc.1 pc.2.1 pc.2.2
  else decide ((s.bands.lband pc.1).pf ≤ pc.2.1) && s.unstaged pc.1 pc.2.1 pc.2.2

/-- The record of a DISCARD's piece (R141). -/
def Part.discardRecord (s : Part) (cid part : Nat) (pc : Nat × Nat × Nat) : HoldEntry :=
  { kind := .discard, full := decide (pc.2.1 = 0 ∧ pc.2.2 = s.sys.layout.dataBlocks), band := pc.1, off := pc.2.1
    n := pc.2.2, cid := cid, part := part }

theorem Part.discardEntry_eq (s : Part) (cid part : Nat) (pc : Nat × Nat × Nat) :
    s.discardEntry cid part pc = if s.settledOut pc then none else some (s.discardRecord cid part pc) := by
  obtain ⟨l, o, n⟩ := pc
  have hwhole : (o == 0 && n == s.sys.layout.dataBlocks) = decide (o = 0 ∧ n = s.sys.layout.dataBlocks) := by
    rw [Bool.decide_and]
    rfl
  simp only [discardEntry, settledOut, discardRecord, hwhole, decide_eq_true_eq]

/-- The pieces that are left each give their record, as the next part (R141). -/
theorem Part.discardEntries_eq (s : Part) (cid k : Nat) (ps : List (Nat × Nat × Nat)) :
    s.discardEntries cid k ps =
      (ps.filter fun x => !s.settledOut x).mapIdx fun i x => s.discardRecord cid (k + i) x := by
  induction ps generalizing k with
  | nil => rfl
  | cons pc ps ih =>
    rw [discardEntries, discardEntry_eq]
    cases hout : s.settledOut pc with
    | true => simp [hout, ih]
    | false => simp [hout, ih, List.mapIdx_cons, Nat.add_assoc, Nat.add_comm 1]

theorem Part.settledOut_eq (s : Part) (pc : Nat × Nat × Nat) :
    s.settledOut pc =
      ((s.bands.lband pc.1).unsettled == 0 && s.ini.hold.all (·.band != pc.1) &&
        !s.idx.overlaps s.sys.layout.dataBlocks pc.1 pc.2.1 pc.2.2 &&
        (if pc.2.1 = 0 ∧ pc.2.2 = s.sys.layout.dataBlocks then (s.bands.lband pc.1).st == .empty
          else decide ((s.bands.lband pc.1).pf ≤ pc.2.1))) := by
  have hholds : (!s.holds pc.1) = s.ini.hold.all (·.band != pc.1) := by
    simp [Part.holds, List.not_any_eq_all_not, bne]
  rw [settledOut, unstaged, hholds]
  split <;> exact Bool.and_comm ..

/-- A DISCARD in its context, taken with TRANSLATE: a FAULTED band, no record, or its records (R141, R142). -/
theorem Part.takeDiscard_of {s : Part} {tag : Nat} {c : Cmd} (hc : s.ini.at tag = some c) :
    s.takeDiscard tag =
      let ps := pieces s.sys.layout.dataBlocks c.lba c.count
      let left := ps.filter fun x => !s.settledOut x
      if s.anyFaulted ps then s.finish tag .mediumError
      else if left = [] then s.finish tag .good
      else
        { s.putTag tag (some { c with st := .working, parts := List.replicate left.length .pending }) with
          ini.hold := s.ini.hold ++ left.mapIdx fun i x => s.discardRecord c.cid i x } := by
  simp only [takeDiscard, hc]
  rw [discardEntries_eq]
  simp only [Nat.zero_add, List.isEmpty_iff, List.mapIdx_eq_nil_iff, List.length_mapIdx]

end Sys2Proof.Machine

namespace Sys2Proof

open Sys2Proof.Machine

/-- Settles O8: a WRITE that no HOLD entry holds is taken at its arrival. -/
theorem writeAcceptedSolicitsItsData : Obligations.WriteAcceptedSolicitsItsData := by
  intro p q tag lba count hreset hfree htags hmode hone hmax haccept hframes hend hheld cmd
  have htag : (tag : Nat) < p.ini.tags.length := htags.symm ▸ tag.isLt
  let c : Cmd := { cid := 0, tag := tag, cls := .write, lba := lba.toNat, count := count.toNat }
  let noted : Part := { p with ret.entries := p.ret.entries.map fun (e : RangeEntry) => e.observe lba.toNat count.toNat }
  have hat := noted.accepted_at (c := c) htag
  rw [exec_write, State.act_awake _ hreset,
    Part.writeFrame_retention hfree hmode (Part.rangeCheck_pass_active .write hmode hone hmax hend),
    Part.retention_passes .write _ hheld, Part.acceptFrame_taken noted c rfl (.inr ⟨haccept, hframes⟩)]
  change Host.Outcome.next (State.mk ((noted.accepted c).take tag) q) = _
  rw [Part.take_write hat rfl rfl]
  rw [Part.startReceiving_of hat]
  simp [Part.accepted, Part.putTag, Part.send, noted, c, cmd, RangeEntry.observe_eq]

/-- Settles O9, by whether the latch is empty. -/
theorem holdRangeRefusesAndLatches : Obligations.HoldRangeRefusesAndLatches := by
  intro p q tag lba count i hreset hfree hmode hone hmax hend hdisp hheld seen stored
  have hseen : (p.ret.entries.map fun (e : RangeEntry) => e.observe lba.toNat count.toNat) = seen :=
    List.map_congr_left fun e _ => e.observe_eq ..
  have hwrite : exec (.write tag lba count) ⟨p, q⟩ = _ := (State.act_awake _ hreset).trans <|
    congrArg (fun u : Part => Host.Outcome.next (State.mk u q)) <|
      Part.writeFrame_retention hfree hmode (Part.rangeCheck_pass_active .write hmode hone hmax hend)
  have hdiscard : exec (.discard tag lba count) ⟨p, q⟩ = _ := (State.act_awake _ hreset).trans <|
    congrArg (fun u : Part => Host.Outcome.next (State.mk u q)) <|
      Part.discardFrame_retention hfree hmode hdisp (Part.rangeCheck_discard_active hmode hone hend)
  rw [hwrite, hdiscard]
  refine ⟨fun hlatch => ?_, fun hlatch => ?_⟩
  · rw [Part.retention_latches .write _ hheld hlatch, Part.retention_latches .discard _ hheld hlatch, hseen]
    exact ⟨rfl, rfl⟩
  · rw [Part.retention_more .write _ hheld hlatch, Part.retention_more .discard _ hheld hlatch, hseen]
    exact ⟨rfl, rfl⟩

/-- Settles O10: the pieces that give no record are filtered out, and the others are the parts. -/
theorem partialDiscardIsSettledOutOrHeld : Obligations.PartialDiscardIsSettledOutOrHeld := by
  intro p q tag lba count hreset hfree htags hmode hone hdisp hoff d l o hend ended held
  have htag : (tag : Nat) < p.ini.tags.length := htags.symm ▸ tag.isLt
  let c : Cmd := { cid := 0, tag := tag, cls := .discard, lba := lba.toNat, count := count.toNat }
  have hat := p.accepted_at (c := c) htag
  let ps := pieces d lba.toNat count.toNat
  let left := ps.filter fun x => !p.settledOut x
  have hexec : exec (.discard tag lba count) ⟨p, q⟩ =
      .next ⟨if p.anyFaulted ps then (p.accepted c).finish tag .mediumError
        else if left = [] then (p.accepted c).finish tag .good
        else { (p.accepted c).putTag tag (some
            { c with cid := p.ini.nextCid, st := .working, parts := List.replicate left.length .pending }) with
          ini.hold := p.ini.hold ++ left.mapIdx fun i x => p.discardRecord p.ini.nextCid i x }, q⟩ := by
    rw [exec_discard, State.act_awake _ hreset,
      Part.discardFrame_retention hfree hmode hdisp (Part.rangeCheck_discard_active hmode hone hend),
      Part.retention_off .discard _ hoff, hdisp]
    change Host.Outcome.next (State.mk (p.acceptFrame c) q) = _
    rw [p.acceptFrame_taken c rfl (.inl rfl)]
    change Host.Outcome.next (State.mk ((p.accepted c).take tag) q) = _
    rw [Part.take_discard hat rfl rfl, Part.takeDiscard_of hat]
    rfl
  have hended : ∀ code, exec (.discard tag lba count) ⟨p, q⟩ = .next ⟨(p.accepted c).finish tag code, q⟩ → ended code := by
    intro code h
    exact ⟨_, h, Initiator.finish_sent .., Initiator.finish_at_self .., Initiator.finish_hold .., rfl⟩
  have hheld : p.anyFaulted ps = false → left ≠ [] → held (left.mapIdx fun i x => p.discardRecord p.ini.nextCid i x) := by
    intro hfaulted hleft
    simp only [held, hexec, hfaulted, hleft, if_false, Bool.false_eq_true]
    simp [Part.accepted, Part.putTag, c]
  have hgood : p.anyFaulted ps = false → left = [] → ended .good := by
    intro hfaulted hleft
    refine hended _ ?_
    simp only [hexec, hfaulted, hleft, if_true, if_false, Bool.false_eq_true]
  refine ⟨fun hone' hpart hfaulted => ?_, ?_⟩
  · have hps : ps = [(l, o, count.toNat)] := pieces_one d _ _ hone hone'
    have hnone : p.anyFaulted ps = false := by simp [hps, Part.anyFaulted, hfaulted]
    have hpartial : ¬ (o = 0 ∧ count.toNat = p.sys.layout.dataBlocks) := fun h => Nat.ne_of_lt hpart h.2
    have hclear : p.settledOut (l, o, count.toNat) = true ↔ (p.bands.lband l).pf ≤ o ∧
        p.idx.overlaps d l o count.toNat = false ∧ (p.bands.lband l).unsettled = 0 ∧
          p.ini.hold.all (·.band != l) = true := by
      rw [Part.settledOut_eq, if_neg hpartial]
      simp only [Bool.and_eq_true, beq_iff_eq, Bool.not_eq_true', decide_eq_true_eq]
      exact ⟨fun ⟨⟨⟨hu, hh⟩, ho⟩, hp⟩ => ⟨hp, ho, hu, hh⟩, fun ⟨hp, ho, hu, hh⟩ => ⟨⟨⟨hu, hh⟩, ho⟩, hp⟩⟩
    refine ⟨fun h => hgood hnone ?_, fun h => ?_⟩
    · simp [left, hps, hclear.mpr h]
    · have hleft : left = [(l, o, count.toNat)] := by simp [left, hps, mt hclear.mp h]
      have := hheld hnone (by simp [hleft])
      rw [hleft] at this
      simpa only [List.mapIdx_cons, List.mapIdx_nil, Part.discardRecord, decide_eq_false hpartial] using this
  · have hsettled : ∀ x, p.settledOut x = _ := p.settledOut_eq
    have hfaulted : p.anyFaulted ps = true ↔ ∃ x ∈ ps, (p.bands.lband x.1).st = .faulted := by
      simp [Part.anyFaulted]
    refine ⟨fun h => hended _ ?_, fun h => ?_⟩
    · rw [hexec, if_pos (hfaulted.mpr h)]
    · have hnone : p.anyFaulted ps = false := by
        rw [← Bool.not_eq_true, hfaulted]
        rintro ⟨x, hx, hst⟩
        exact h x hx hst
      simp only [left, hsettled] at hgood hheld
      exact ⟨hgood hnone, hheld hnone⟩

end Sys2Proof
end

section
/-! Statuses, FLUSH, IDENTIFY, OTHER and the blocks of write data (R127, R132, R135, R137, R140, R143, R144, R167). -/

namespace Sys2Proof.Machine

/-! ### FLUSH -/

theorem List.filter_filterMap_set {α : Type} {P : α → Bool} {c : α} (hP : P c = false) {l : List (Option α)} {t : Nat}
    (h : l.getD t none = none) : ((l.set t (some c)).filterMap id).filter P = (l.filterMap id).filter P := by
  induction l generalizing t with
  | nil => rfl
  | cons a l ih =>
    cases t with
    | zero =>
      obtain rfl : a = none := h
      simp [hP]
    | succ t =>
      have := ih (t := t) h
      cases a <;> simp_all [List.filter_cons]

/-- A FLUSH does not wait for itself (R140). -/
theorem Initiator.flushSet_set {i : Initiator} {t : Nat} {c : Cmd} (hfree : i.at t = none) (hcls : c.cls = .flush)
    {n : Nat} : ({ i with nextCid := n, tags := i.tags.set t (some c) } : Initiator).flushSet = i.flushSet :=
  congrArg (List.map Cmd.cid) <|
    List.filter_filterMap_set (P := fun c : Cmd => c.cls == .write || c.cls == .discard) (by simp [hcls]) hfree

/-- A command that needs no frame is taken at its arrival (R134). -/
theorem Part.acceptFrame_needless (s : Part) {c : Cmd} (hr : c.refer = false) (hneed : c.need = 0) :
    s.acceptFrame c = (s.accepted c).take c.tag := s.acceptFrame_taken c hr (.inl hneed)

/-! ### OTHER -/

theorem Part.forward_of {s : Part} {t : Nat} {c : Cmd} (hc : s.ini.at t = some c) :
    s.forward t =
      (s.putTag t (some { c with st := .working, parts := [.pending] })).offer
        { cls := .b, work := .forwarded c.cid, cmd := .forwarded c.opcode c.params c.dir c.count } := by
  simp only [forward, hc]

theorem Part.takeOther_noData {s : Part} {t : Nat} {c : Cmd} (hc : s.ini.at t = some c) (hd : c.dir = .noData) :
    s.takeOther t = s.forward t := by
  simp only [takeOther, hc, hd]

theorem otherDir_noData : otherDir 0 0 = some .noData := rfl

theorem otherDir_data {dir : Byte} {n : Nat} (hdir : dir = 1 ∨ dir = 2) (hone : 1 ≤ n) (hmax : n ≤ 1024) :
    otherDir dir n = some (if dir = 2 then .dataOut else .dataIn) := by
  rcases hdir with rfl | rfl <;> simp [otherDir, dirOf, hone, hmax, Config.maxTransfer]

/-! ### The capability record (R143, R207) -/

/-- W of the spec, 0 unless the part is mounted (R5). -/
theorem Part.logBlocks_eq (p : Part) :
    p.logBlocks = if p.sys.mode = .active ∨ p.sys.mode = .degraded then
      (p.sys.layout.bands - p.sys.layout.spares) * (p.sys.layout.bandBlocks - 1) else 0 := by
  by_cases hmode : p.sys.mode = .active ∨ p.sys.mode = .degraded
  · rw [if_pos hmode, p.logBlocks_mounted (p.mounted_iff.mpr hmode)]
  · rw [if_neg hmode]
    rw [Part.logBlocks, if_neg (mt p.mounted_iff.mp hmode)]

theorem Part.capabilityBytes_eq (p : Part) (hserial : p.sys.serial.length = 20) :
    p.capabilityBytes =
      le 8 ((if p.sys.mode = .active ∨ p.sys.mode = .degraded then
          (p.sys.layout.bands - p.sys.layout.spares) * (p.sys.layout.bandBlocks - 1) else 0) +
        (if p.sys.windowEn then 256 else 0)) ++ le 4 4096 ++ [32, 0] ++ le 2 1024 ++
      ((['C', 'O', 'R', 'S', 'I', 'L', 'A', 'N', ' ', 'S', 'B', '2', '4', '0'].map
        fun c => BitVec.ofNat 8 c.toNat) ++ List.replicate 26 0x20) ++ p.sys.serial ++ le 2 Config.partRevision.toNat := by
  have hmodel : fit 40 0x20 modelText = (['C', 'O', 'R', 'S', 'I', 'L', 'A', 'N', ' ', 'S', 'B', '2', '4', '0'].map
      fun c => BitVec.ofNat 8 c.toNat) ++ List.replicate 26 0x20 := by rfl
  rw [Part.capabilityBytes, hmodel, fit_of_length _ _ _ hserial, Part.capacity, p.logBlocks_eq]
  rfl

/-! ### Blocks -/

theorem Part.windowTaken_more {p : Part} {t : Nat} {c : Cmd} (hc : p.ini.at t = some c) (h : c.taken + 1 ≠ c.count) :
    p.windowTaken t = { p with ini.tags := p.ini.tags.set t (some { c with taken := c.taken + 1 }) } := by
  simp only [windowTaken, hc, if_neg h]
  rfl

/-- Taking the last block does not show, once the context is FREE (R128, R167). -/
theorem Part.windowTaken_last {p : Part} {t : Nat} {c : Cmd} (hc : p.ini.at t = some c) (h : c.taken + 1 = c.count) :
    p.windowTaken t = { p with ini := p.ini.finish t .good } := by
  have ht : t < p.ini.tags.length := by
    by_contra hlt
    simp [Initiator.at, List.getD_eq_getElem?_getD, Nat.not_lt.mp hlt] at hc
  have hat := Initiator.at_set_self p.ini t (some { c with taken := c.taken + 1 }) ht
  simp only [windowTaken, hc, if_pos h]
  simp only [finish, putTag, Initiator.finish]
  have hat' : ∀ x, ({ p.ini with tags := p.ini.tags.set t (some { c with taken := c.taken + 1 }), sent := x } :
      Initiator).at t = some { c with taken := c.taken + 1 } := fun _ => hat
  have hc' : ∀ x, ({ p.ini with sent := x } : Initiator).at t = some c := fun _ => hc
  simp only [hat', hc', List.set_set]

theorem Part.dataBlock_receiving {p : Part} {t : Nat} {c : Cmd} (block : Block) (hc : p.ini.at t = some c)
    (hw : c.window = false) (hst : c.st = .receiving) : p.dataBlock t block = p.receiveBlock t c block := by
  simp [dataBlock, hc, hw, hst]

/-- A block of a window WRITE to a page whose write is ignored (R168). -/
theorem Part.ignoredBlock_counted {p : Part} {t : Nat} {c : Cmd} (hc : p.ini.at t = some c) (hw : c.window = true)
    (hpage : c.page + c.taken ≠ 2) : p.ignoredBlock t = p.windowTaken t := by
  simp [ignoredBlock, Initiator.windowPage, hc, hw, directivePage, hpage]

end Sys2Proof.Machine

namespace Sys2Proof

open Sys2Proof.Machine

/-- Settles O11: a FLUSH records the set at its taking, and a status is due when every part is final. -/
theorem statusesWaitForPartsAndSets : Obligations.StatusesWaitForPartsAndSets := by
  refine ⟨fun p q tag hreset htags => ⟨?_, fun c hc hcls hst => ⟨fun hw => ?_, fun hw => ?_⟩⟩,
    ?_⟩
  · intro hfree hmode hdisp set
    have htag : (tag : Nat) < p.ini.tags.length := htags.symm ▸ tag.isLt
    let c : Cmd := { cid := 0, tag := tag, cls := .flush }
    have hat := p.accepted_at (c := c) htag
    have hm : p.mounted = true := p.mounted_iff.mpr hmode
    have hset : (p.accepted c).ini.flushSet = set := Initiator.flushSet_set hfree rfl
    have hexec : exec (.flush tag) ⟨p, q⟩ = .next ⟨(p.accepted c).takeFlush tag, q⟩ := by
      rw [exec_flush, State.act_awake _ hreset, Part.flushFrame, Part.tagged_free hfree, hm, hdisp]
      change Host.Outcome.next (State.mk (p.acceptFrame c) q) = _
      rw [p.acceptFrame_needless rfl rfl, Part.take_flush hat rfl rfl]
    refine ⟨fun hempty => ⟨_, hexec, ?_⟩, fun hne => ?_⟩
    · have hfinish : (p.accepted c).takeFlush tag = (p.accepted c).finish tag .good := by
        have hat' : (p.accepted c).ini.at tag = _ := hat
        simp only [Part.takeFlush, hat', hset, hempty, List.isEmpty_nil, if_true]
      rw [hfinish]
      exact ⟨Initiator.finish_sent .., Initiator.finish_at_self .., rfl⟩
    · have hat' : (p.accepted c).ini.at tag = _ := hat
      rw [hexec]
      simp only [Part.takeFlush, hat', hset, List.isEmpty_iff, if_neg hne]
      simp [Part.accepted, Part.putTag, c]
  · rw [exec_flushDone, State.act_awake _ hreset]
    simp [Part.flushDone, hc, hcls, hst, hw, Part.finish]
  · rw [exec_flushDone, State.act_awake _ hreset]
    simp [Part.flushDone, hc, hw]
  · intro p q tag c hreset htags hc hst hwin hcls final
    refine ⟨fun hnot => ?_, fun hfinal => ?_⟩
    · rw [exec_commandStatus, State.act_awake _ hreset]
      have hpending : c.partsFinal = false := by
        rw [← Bool.not_eq_true, Cmd.partsFinal, Bool.and_eq_true]
        exact hnot
      simp [Part.commandStatus, hc, Cmd.due, hpending]
    · have hpartsFinal : c.partsFinal = true := by
        rw [Cmd.partsFinal, Bool.and_eq_true]
        exact hfinal
      refine ⟨p.finish tag (c.fail.getD .good), ?_, ?_, Initiator.finish_at_self .., fun k d hk hd => ?_,
        Initiator.finish_accept .., Initiator.finish_hold .., rfl⟩
      · rw [exec_commandStatus, State.act_awake _ hreset]
        simp [Part.commandStatus, hc, Cmd.due, hpartsFinal, hst, hwin, hcls]
      · refine (Initiator.finish_sent ..).trans ?_
        cases c.fail <;> rfl
      · refine (Initiator.finish_at_ne _ _ _ _ (Ne.symm hk)).trans ?_
        simp [hc, hd]

/-- Settles O12: neither IDENTIFY nor an OTHER without data needs a frame, so both are taken at their arrival. -/
theorem identifyAndOtherAreAnswered : Obligations.IdentifyAndOtherAreAnswered := by
  refine ⟨?_, ?_⟩
  · intro p q tag hreset htags hfree hserial hdisp w capacity model record
    have htag : (tag : Nat) < p.ini.tags.length := htags.symm ▸ tag.isLt
    let c : Cmd := { cid := 0, tag := tag, cls := .identify }
    have hat := p.accepted_at (c := c) htag
    have hrefer : (p.mounted && p.cfg.dispInForce.identify == .refer) = false := by
      cases hm : p.mounted with
      | false => rfl
      | true => simp [hdisp (p.mounted_iff.mp hm)]
    have hrecord : p.capabilityBytes = record := p.capabilityBytes_eq hserial
    refine ⟨(p.accepted c).takeIdentify tag, ?_, ?_, Initiator.finish_at_self .., rfl⟩
    · rw [exec_identify, State.act_awake _ hreset, Part.identifyFrame, Part.tagged_free hfree, hrefer]
      change Host.Outcome.next (State.mk (p.acceptFrame c) q) = _
      rw [p.acceptFrame_needless rfl rfl, Part.take_identify hat rfl rfl]
    · refine (Initiator.finish_sent ..).trans ?_
      rw [← hrecord]
      simp [Part.send]
      rfl
  · intro p q tag opcode dir params count hreset htags hfree hmode hparams
    have htag : (tag : Nat) < p.ini.tags.length := htags.symm ▸ tag.isLt
    have hm : p.mounted = true := p.mounted_iff.mpr hmode
    refine ⟨fun hdir hcount hdisp => ?_, fun hdir hdisp => ?_⟩
    · subst hdir hcount
      let c : Cmd := { cid := 0, tag := tag, cls := .other, opcode := opcode, params := params, dir := .noData }
      have hat := p.accepted_at (c := c) htag
      have hframe : p.otherFrame tag opcode params 0 0 = p.acceptFrame c := by
        rw [Part.otherFrame, Part.tagged_free hfree, otherDir_noData, fit_of_length _ _ _ hparams, hm, hdisp]
        simp [c]
      rw [exec_other, State.act_awake _ hreset]
      change Host.Outcome.next (State.mk (p.otherFrame tag opcode params 0 0) q) = _
      rw [hframe, p.acceptFrame_needless rfl rfl, Part.take_other hat rfl rfl]
      have hat' : (p.accepted c).ini.at tag = _ := hat
      rw [Part.takeOther_noData hat' rfl, Part.forward_of hat']
      simp [Part.accepted, Part.putTag, Part.offer, c]
    · have hother : ∃ d, otherDir dir count.toNat = some d ∧ (dir = 2 → d = .dataOut) := by
        rcases hdir with ⟨rfl, rfl⟩ | ⟨hdir, hone, hmax⟩
        · exact ⟨.noData, rfl, by simp⟩
        · exact ⟨_, otherDir_data hdir hone hmax, fun h => if_pos h⟩
      obtain ⟨d, hd, hout⟩ := hother
      rw [exec_other, State.act_awake _ hreset, Part.otherFrame, Part.tagged_free hfree, hd]
      rcases hdisp with hdisp | ⟨hdisp, hdir2⟩
      · simp [hm, hdisp, Part.refuse, Part.send]
      · simp [hm, hdisp, hout hdir2, Part.refuse, Part.send]

/-- Settles O14, through what a block does to the context of its command. -/
theorem blocksAreTakenInOrder : Obligations.BlocksAreTakenInOrder := by
  refine ⟨fun p q tag block c hreset hc => ⟨fun hw hst hshort => ?_, fun hw hst hlast hcls hmode => ?_, fun hw hpage =>
    ⟨fun hmore => ?_, fun hlast => ?_⟩⟩, fun p tag c hc => ⟨Part.windowTaken_more hc, Part.windowTaken_last hc⟩⟩
  · rw [exec_writeDataBlock, State.act_awake _ hreset, Part.dataBlock_receiving block hc hw hst]
    simp [Part.receiveBlock, hshort, Part.putTag]
  · have htag : (tag : Nat) < p.ini.tags.length := by
      by_contra hlt
      simp [Initiator.at, List.getD_eq_getElem?_getD, Nat.not_lt.mp hlt] at hc
    rw [exec_writeDataBlock, State.act_awake _ hreset, Part.dataBlock_receiving block hc hw hst]
    have hat : (p.putTag tag (some { c with data := c.data ++ [toBlock block], st := .working })).ini.at tag = _ :=
      Initiator.at_set_self _ _ _ htag
    simp [Part.receiveBlock, hlast, hcls, hmode]
    rw [Part.forward_of (by simpa [hcls] using hat)]
    simp [Part.putTag, Part.offer]
  · rw [exec_windowWriteIgnored, State.act_awake _ hreset, Part.ignoredBlock_counted hc hw hpage,
      Part.windowTaken_more hc hmore]
  · rw [exec_windowWriteIgnored, State.act_awake _ hreset, Part.ignoredBlock_counted hc hw hpage,
      Part.windowTaken_last hc hlast]
    exact ⟨_, rfl, Initiator.finish_sent .., Initiator.finish_at_self .., rfl⟩

end Sys2Proof
end

section
/-! The placement decision, the level and the writes of records (R9 to R11, R15, R18, R49, R53, R54). -/

namespace Sys2Proof.Machine

/-! ### Placement -/

theorem Part.holds_eq_false (s : Part) (l : Nat) : s.holds l = false ↔ ∀ e ∈ s.ini.hold, e.band ≠ l := by
  simp [Part.holds]

theorem Part.unstaged_iff (s : Part) (l o n : Nat) :
    s.unstaged l o n = true ↔ (s.bands.lband l).unsettled = 0 ∧ (∀ e ∈ s.ini.hold, e.band ≠ l) ∧
      s.idx.overlaps s.sys.layout.dataBlocks l o n = false := by
  simp [Part.unstaged, ← s.holds_eq_false, and_assoc]

/-! ### Completions -/

/-- What a completion comes to, in a slot whose completion is handed on (R117, R126). -/
theorem Part.complete_runs {s : Part} {k : Nat} {o : Offer} {mine : Work → Bool} (f : Offer → Part → Part)
    (h : s.port.runs k o) (hm : mine o.work = true) :
    s.complete k mine f = f o (({ s with port.slots := s.port.slots.set k none } : Part).clearOut o.band) := by
  simp only [complete, show s.port.slots.getD k none = some { offer := o } from h, hm]
  rfl

/-- A code the drive reports for a failed command is kept as it is (R112). -/
theorem finalCode_of_error {code : DriveCode}
    (h : code = .mediumError ∨ code = .alignError ∨ code = .otherError) : finalCode code = code ∧ code ≠ .good := by
  rcases h with rfl | rfl | rfl <;> simp [finalCode]

/-- Marks of records that add no barrier let no barrier act (R54, R55). -/
theorem Part.barrierParts_onRec {s : Part} (h : s.log.table.all (fun r => r.barrier.isNone) = true) (q : Nat)
    {f : Rec → Rec} (hf : ∀ r, (f r).barrier = r.barrier) : (s.onRec q f).barrierParts = s.onRec q f := by
  refine Part.barrierParts_none _ ?_
  simp only [Part.onRec, List.all_map, List.all_eq_true] at h ⊢
  intro r hr
  by_cases hq : r.seq = q
  · simp [Function.comp, hq, hf, h r hr]
  · simp [Function.comp, hq, h r hr]

/-! ### Entry into DEGRADED leaves the drive's identity and the layout as they were -/

section
variable (s : Part)

@[simp] theorem Part.barrierParts_sys : s.barrierParts.sys = s.sys := by
  unfold Part.barrierParts
  split
  · rfl
  · refine foldl_frame Part.sys (fun s r => ?_) _ s
    unfold Part.barrierPart
    split
    · split <;> rfl
    · rfl

@[simp] theorem Part.markVoids_sys : s.markVoids.sys = s.sys :=
  foldl_frame Part.sys (fun s o => by split <;> rfl) _ s

@[simp] theorem Part.dropHeld_sys : s.dropHeld.sys = s.sys :=
  foldl_frame Part.sys (fun s _ => s.partFinal_sys ..) _ _

@[simp] theorem Part.failEntries_sys (c es) : (s.failEntries c es).sys = s.sys :=
  foldl_frame Part.sys (fun s _ => s.partFinal_sys ..) _ _

@[simp] theorem Part.replaceEntries_sys (l es) : (s.replaceEntries l es).1.sys = s.sys := by
  induction es generalizing s with
  | nil => rfl
  | cons e es ih => exact ih _

@[simp] theorem Part.offerUrgent_sys (l) : (s.offerUrgent l).sys = s.sys := by
  unfold Part.offerUrgent
  split
  · split <;> rfl
  · dsimp only
    split
    · rfl
    · split
      · split
        · rfl
        · split
          · exact Part.finishClean_sys ..
          · rfl
      · rfl

@[simp] theorem Part.clearOut_sys (b) : (s.clearOut b).sys = s.sys := by
  cases b <;> rfl

@[simp] theorem Part.appendFail_sys (l p start) : (s.appendFail l p start).sys = s.sys := by
  unfold Part.appendFail
  split
  · rfl
  · dsimp only
    split
    · rw [Part.raise_sys]
      split <;> simp [Part.offerRefresh]
    · exact Part.failEntries_sys ..

@[simp] theorem Part.finishSettings_sys (d r) : (s.finishSettings d r).sys = s.sys := by
  unfold Part.finishSettings
  split
  · rfl
  · split <;> rfl

@[simp] theorem Part.withdrawAnchor_sys : s.withdrawAnchor.sys = s.sys := by
  unfold Part.withdrawAnchor
  split
  · rfl
  · exact Part.finishSettings_sys ..

@[simp] theorem Part.reportWithdrawn_sys (o) : (s.reportWithdrawn o).sys = s.sys := by
  unfold Part.reportWithdrawn
  split
  · rfl
  · rfl
  · exact s.withdrawAnchor_sys
  · rfl
  · split
    · rfl
    · exact (Part.appendFail_sys ..).trans (s.clearOut_sys _)
  · rw [Part.onCtx_sys]
    split
    · rfl
    · exact s.clearOut_sys _
  · rfl

@[simp] theorem Part.dropAppends_sys (l) : (s.dropAppends l).sys = s.sys := Part.failEntries_sys ..

@[simp] theorem Part.withdrawWrites_sys : s.withdrawWrites.sys = s.sys :=
  (foldl_frame Part.sys Part.reportWithdrawn_sys _ _).trans <| (foldl_frame Part.sys Part.dropAppends_sys _ _).trans
    (foldl_frame Part.sys Part.reportWithdrawn_sys _ _)

@[simp] theorem Part.unpin_sys (p) : (s.unpin p).sys = s.sys := by cases p <;> rfl

@[simp] theorem Part.unpinOpt_sys (p) : (s.unpinOpt p).sys = s.sys := by
  cases p
  · rfl
  · exact s.unpin_sys _

theorem Part.unpinOffers_sys (os : List Offer) : (os.foldl (fun s o => s.unpinOpt o.pin) s).sys = s.sys :=
  foldl_frame Part.sys (fun s _ => s.unpinOpt_sys _) os s

@[simp] theorem Part.dropCarry_sys (i) : (s.dropCarry i).sys = s.sys := Part.unpinOffers_sys ..

@[simp] theorem Part.withdrawMerge_sys (i) : (s.withdrawMerge i).sys = s.sys := Part.unpinOffers_sys ..

@[simp] theorem Part.releaseSnapshot_sys (i) : (s.releaseSnapshot i).sys = s.sys :=
  foldl_frame Part.sys (fun s _ => s.unpin_sys _) _ s

@[simp] theorem Part.endMerge_sys (i) : (s.endMerge i).sys = s.sys :=
  (Part.releaseSnapshot_sys ..).trans (s.withdrawMerge_sys i)

@[simp] theorem Part.toResetPendingOpt_sys (p) : (s.toResetPendingOpt p).sys = s.sys := by
  cases p
  · rfl
  · exact s.toResetPending_sys _

@[simp] theorem Part.dropMerge_sys (i) : (s.dropMerge i).sys = s.sys := by
  simp [Part.dropMerge, Part.raiseAbandoned]

@[simp] theorem Part.degradeCtx_sys (issued i) : (s.degradeCtx issued i).sys = s.sys := by
  unfold Part.degradeCtx
  dsimp only
  split
  · rfl
  · rfl
  · split
    · rfl
    · split <;> simp
  · split <;> simp

@[simp] theorem Part.failMergeDirectives_sys : s.failMergeDirectives.sys = s.sys := by
  unfold Part.failMergeDirectives
  extract_lets told mrg unclean
  have htold : told.sys = s.sys := by
    unfold told
    split <;> simp
  split
  · exact htold
  · split <;> exact htold

@[simp] theorem Part.failSettings_sys : s.failSettings.sys = s.sys := by
  unfold Part.failSettings
  split
  · rfl
  · split <;> rfl

@[simp] theorem Part.degradeAccept_sys : s.degradeAccept.sys = s.sys :=
  foldl_frame Part.sys (fun s _ => s.finish_sys ..) _ _

theorem Part.enterDegraded_sys (h : s.sys.mode = .active) :
    s.enterDegraded.sys = { s.sys with mode := .degraded, halt := .none } := by
  rw [Part.enterDegraded, if_pos h]
  simp only [barrierParts_sys, degradeAccept_sys, failSettings_sys, failMergeDirectives_sys]
  rw [foldl_frame Part.sys (fun s i => s.degradeCtx_sys _ i)]
  simp only [withdrawWrites_sys, dropHeld_sys, barrierParts_sys, markVoids_sys]
  rfl

end

end Sys2Proof.Machine

namespace Sys2Proof

open Sys2Proof.Machine

/-- Settles O25, branch by branch of the decision. -/
theorem placementIsDecidedByTheBand : Obligations.PlacementIsDecidedByTheBand := by
  intro p l o n b clean direct allocate
  have hfree : Config.mergeReserve < p.freeAvail.length ↔ 2 < p.bands.free.length - p.mrg.waitBand.length := by
    simp [Part.freeAvail, Config.mergeReserve]
  have hexclusive : ¬ (direct ∧ allocate) := fun ⟨⟨hfilling, _⟩, ⟨hempty, _⟩⟩ => by
    rw [hfilling] at hempty
    cases hempty
  have hdirect : (b.st = .filling ∧ b.pf ≤ o ∧ o - b.pf ≤ p.cfg.policy.gap ∧ p.unstaged l o n = true) ↔ direct := by
    rw [p.unstaged_iff]
  have hallocate : (b.st = .empty ∧ o ≤ p.cfg.policy.gap ∧ Config.mergeReserve < p.freeAvail.length ∧
      p.unstaged l o n = true) ↔ allocate := by
    rw [p.unstaged_iff, hfree, and_comm (a := 2 < _)]
  have hdecide : p.decidePiece l o n = if direct then .direct else if allocate then .allocate else .staged := by
    simp only [← hdirect, ← hallocate]
    rfl
  rw [hdecide]
  by_cases hd : direct
  · have ha : ¬ allocate := fun ha => hexclusive ⟨hd, ha⟩
    simp [hd, ha]
  · by_cases ha : allocate <;> simp [hd, ha]

/-- Settles O28, from the table of R15 and the move of the credit. -/
theorem levelAndPacingFollowTheOccupancy : Obligations.LevelAndPacingFollowTheOccupancy := by
  refine ⟨?_, fun q t c => ⟨rfl, rfl, rfl⟩, fun p hmode => ?_⟩
  · intro tLow tHigh tHard hyst occ hlow hhigh f
    refine ⟨fun h => ?_, fun h h' => ?_, fun h h' => ?_, fun h => ?_⟩
    · simp [f, nextLevel, h]
    · have : ¬ occ < tHigh - hyst := by omega
      simp [f, nextLevel, h, h', this, Nat.not_le.mpr h']
    · have hhard : ¬ tHard ≤ occ := by omega
      simp [f, nextLevel, h, Nat.not_le.mpr h', Nat.not_lt.mpr h, hhard, show occ < tHard by omega]
    · have hhard : ¬ tHard ≤ occ := by omega
      have hnothigh : ¬ tHigh ≤ occ := by omega
      simp [f, nextLevel, h, Nat.not_le.mpr h, hhard, hnothigh, show occ < tHard by omega]
  · have hlog : p.holdsLog = true := by
      rcases hmode with h | h | h <;> simp [Part.holdsLog, Part.mounted, h]
    refine ⟨fun hne hnew => ?_, fun hold hnew => ?_, fun hold hnew => ?_, fun hsame => ?_⟩
    · simp [Part.evalLevel, hlog, hnew, Pace.move, Ne.symm hne, levelNum]
    · simp [Part.evalLevel, hlog, hnew, Pace.move, hold]
    · simp [Part.evalLevel, hlog, hnew, Pace.move, hold, levelNum]
    · simp [Part.evalLevel, hlog, hsame, Pace.move]

/-- Settles O30: where no record is a barrier, the mark that a completion leaves makes no part final. -/
theorem recordWritesCompleteOrVoid : Obligations.RecordWritesCompleteOrVoid := by
  intro p q k o r code hreset hruns hband hfind hbarrier hcode slots settle
  obtain ⟨hfinal, hbad⟩ := finalCode_of_error hcode
  have hfind' : ({ p with port.slots := p.port.slots.set k none } : Part).log.find r.seq = some r := hfind
  refine ⟨fun hwork => ⟨?_, fun hmode => ?_⟩, fun hwork => ⟨?_, fun hmode => ?_⟩⟩
  · rw [exec_recordWriteComplete, State.act_awake _ hreset, Part.complete_runs _ hruns (by simp [hwork]), hband]
    simp only [hwork, Part.clearOut, Part.recordFinal, hfind', finalCode, if_true]
    rw [Part.barrierParts_onRec (by exact hbarrier) _ fun _ => by rfl]
    rfl
  · rw [exec_recordWriteComplete, State.act_awake _ hreset, Part.complete_runs _ hruns (by simp [hwork]), hband]
    simp only [hwork, Part.clearOut, Part.recordFinal, hfind', hfinal, if_neg hbad]
    rw [Part.offerVoid, if_neg (by exact hmode)]
    rfl
  · rw [exec_voidRewriteComplete, State.act_awake _ hreset, Part.complete_runs _ hruns (by simp [hwork]), hband]
    simp only [hwork, Part.clearOut, Part.voidFinal, hfind', finalCode, if_true]
    rw [Part.barrierParts_onRec (by exact hbarrier) _ fun _ => by rfl]
    rfl
  · rw [exec_voidRewriteComplete, State.act_awake _ hreset, Part.complete_runs _ hruns (by simp [hwork]), hband]
    refine ⟨_, rfl, ?_⟩
    simp only [hwork, Part.clearOut, Part.voidFinal, hfind', hfinal, if_neg hbad, Part.barrierParts_sys,
      Part.raiseVoid, Part.raise_sys]
    exact Part.enterDegraded_sys _ hmode

end Sys2Proof
end

section
/-! Entry into DEGRADED stops every write (R37, R55, R110, R115, R145, R192): a relation between two states of which
the second has no more to do than the first, and the operations that respect it. -/

namespace Sys2Proof.Machine

/-! ### The relation -/

/-- `t` has no more held records, offers, append entries, drain or waiting commands than `s`. -/
structure Part.Winds (s t : Part) : Prop where
  sys : t.sys = s.sys
  hold : ∀ e ∈ t.ini.hold, e ∈ s.ini.hold
  offers : ∀ o ∈ t.port.offers, o ∈ s.port.offers
  queues : ∀ b ∈ t.bands.lbt, ∀ e ∈ b.queue, ∃ b' ∈ s.bands.lbt, e ∈ b'.queue
  drain : s.mrg.drain = none → t.mrg.drain = none
  accept : ∀ k ∈ t.ini.accept, k ∈ s.ini.accept
  commands : ∀ k c, t.ini.at k = some c → ∃ d, s.ini.at k = some d ∧ c.cls = d.cls ∧ c.dir = d.dir

variable {s t u : Part}

@[refl] theorem Part.Winds.refl (s : Part) : s.Winds s :=
  ⟨rfl, fun _ => id, fun _ => id, fun b hb _ he => ⟨b, hb, he⟩, id, fun _ => id, fun _ c h => ⟨c, h, rfl, rfl⟩⟩

@[trans] theorem Part.Winds.trans (h : s.Winds t) (h' : t.Winds u) : s.Winds u where
  sys := h'.sys.trans h.sys
  hold e he := h.hold e (h'.hold e he)
  offers o ho := h.offers o (h'.offers o ho)
  queues b hb e he := by
    obtain ⟨b', hb', he'⟩ := h'.queues b hb e he
    exact h.queues b' hb' e he'
  drain := h'.drain ∘ h.drain
  accept k hk := h.accept k (h'.accept k hk)
  commands k c hc := by
    obtain ⟨d, hd, hcls, hdir⟩ := h'.commands k c hc
    obtain ⟨x, hx, hcls', hdir'⟩ := h.commands k d hd
    exact ⟨x, hx, hcls.trans hcls', hdir.trans hdir'⟩

/-- `Winds.trans`, from the last operation back to the first. -/
theorem Part.Winds.after (h' : t.Winds u) (h : s.Winds t) : s.Winds u := h.trans h'

/-- All that the relation reads of a part. -/
def Part.stirs (p : Part) := (p.sys, p.ini, p.port.offers, p.bands.lbt, p.mrg.drain)

theorem Part.Winds.of_stirs (h : t.stirs = s.stirs) : s.Winds t := by
  simp only [Part.stirs, Prod.mk.injEq] at h
  obtain ⟨hsys, hini, hoffers, hlbt, hdrain⟩ := h
  refine ⟨hsys, ?_, ?_, ?_, ?_, ?_, ?_⟩ <;> simp only [hini, hoffers, hlbt, hdrain]
  exacts [fun _ => id, fun _ => id, fun b hb _ he => ⟨b, hb, he⟩, id, fun _ => id, fun _ c h => ⟨c, h, rfl, rfl⟩]

theorem Part.winds_ite {c : Prop} [Decidable c] (ht : c → s.Winds t) (hu : ¬ c → s.Winds u) :
    s.Winds (if c then t else u) := by
  split
  · exact ht ‹_›
  · exact hu ‹_›

theorem Part.winds_foldl {α : Type} {f : Part → α → Part} (hf : ∀ (s : Part) a, s.Winds (f s a)) (l : List α)
    (s : Part) : s.Winds (l.foldl f s) := by
  induction l generalizing s with
  | nil => exact .refl s
  | cons a l ih => exact (hf s a).trans (ih _)

/-! ### Small updates -/

theorem Part.winds_onL (s : Part) (l) {f : LBand → LBand} (hf : ∀ b, ∀ e ∈ (f b).queue, e ∈ b.queue) :
    s.Winds (s.onL l f) where
  sys := rfl
  hold _ := id
  offers _ := id
  queues b hb e he := by
    obtain ⟨j, hj, rfl⟩ := List.mem_iff_getElem.mp hb
    have hlt : j < s.bands.lbt.length := by simpa [Part.onL] using hj
    refine ⟨_, List.getElem_mem hlt, ?_⟩
    simp only [Part.onL, List.getElem_modify] at he
    split at he
    · exact hf _ e he
    · exact he
  drain := id
  accept _ := id
  commands _ c h := ⟨c, h, rfl, rfl⟩

theorem Part.winds_ini (s : Part) {i : Initiator} (hhold : ∀ e ∈ i.hold, e ∈ s.ini.hold)
    (haccept : ∀ k ∈ i.accept, k ∈ s.ini.accept)
    (hat : ∀ k c, i.at k = some c → ∃ d, s.ini.at k = some d ∧ c.cls = d.cls ∧ c.dir = d.dir) :
    s.Winds { s with ini := i } :=
  ⟨rfl, hhold, fun _ => id, fun b hb _ he => ⟨b, hb, he⟩, id, haccept, hat⟩

theorem Part.winds_partFinal (s : Part) (cid i p) : s.Winds (s.partFinal cid i p) := by
  refine s.winds_ini (fun _ => id) (fun _ => id) fun k c hc => ?_
  have he := Initiator.at_map s.ini (fun c => if c.cid = cid then c.setPart i p else c) k
  obtain ⟨d, hd, rfl⟩ := Option.map_eq_some_iff.mp (he.symm.trans hc)
  refine ⟨d, hd, ?_⟩
  split
  · unfold Cmd.setPart
    split <;> exact ⟨rfl, rfl⟩
  · exact ⟨rfl, rfl⟩

theorem Part.winds_finish (s : Part) (t code) : s.Winds (s.finish t code) := by
  refine s.winds_ini (by simp) (by simp) fun k c hc => ?_
  by_cases hk : t = k
  · subst hk
    rw [Initiator.finish_at_self] at hc
    cases hc
  · rw [Initiator.finish_at_ne _ _ _ _ hk] at hc
    split at hc
    · exact ⟨c, hc, rfl, rfl⟩
    · obtain ⟨d, hd, rfl⟩ := Option.map_eq_some_iff.mp hc
      exact ⟨d, hd, rfl, rfl⟩

theorem Part.winds_withdraw (s : Part) (w) : s.Winds (s.withdraw w) :=
  ⟨rfl, fun _ => id, fun _ ho => List.mem_of_mem_filter ho, fun b hb _ he => ⟨b, hb, he⟩, id, fun _ => id,
    fun _ c h => ⟨c, h, rfl, rfl⟩⟩

theorem Part.winds_onCtx (s : Part) (i f) : s.Winds (s.onCtx i f) := .of_stirs rfl

theorem Part.winds_finishDirective (s : Part) (r d) : s.Winds (s.finishDirective r d) := .of_stirs rfl

theorem Part.winds_finishClean (s : Part) (l r) : s.Winds (s.finishClean l r) :=
  winds_ite (fun _ => s.winds_finishDirective ..) fun _ => .refl s

theorem Part.winds_raise (s : Part) (k a b p n c) : s.Winds (s.raise k a b p n c) := .of_stirs rfl

theorem Part.winds_onRec (s : Part) (q f) : s.Winds (s.onRec q f) := .of_stirs rfl

theorem Part.winds_onP (s : Part) (p f) : s.Winds (s.onP p f) := .of_stirs rfl

theorem Part.winds_unpin (s : Part) (p) : s.Winds (s.unpin p) := by
  cases p <;> exact .of_stirs rfl

theorem Part.winds_unpinOffers (s : Part) (os : List Offer) : s.Winds (os.foldl (fun s o => s.unpinOpt o.pin) s) := by
  refine winds_foldl (fun s o => ?_) os s
  cases o.pin
  · exact .refl s
  · exact s.winds_unpin _

theorem Part.winds_toResetPendingOpt (s : Part) (p) : s.Winds (s.toResetPendingOpt p) := by
  cases p with
  | none => exact .refl s
  | some p => exact winds_ite (fun _ => s.winds_onP ..) fun _ => .of_stirs rfl

/-! ### What the blocks do at the entry -/

theorem Part.winds_barrierParts (s : Part) : s.Winds s.barrierParts := by
  unfold Part.barrierParts
  split
  · exact .refl s
  · refine winds_foldl (fun s r => ?_) _ s
    unfold Part.barrierPart
    split
    · exact winds_ite (fun _ => s.winds_partFinal ..) fun _ => .refl s
    · exact .refl s

theorem Part.winds_markVoids (s : Part) : s.Winds s.markVoids := by
  refine winds_foldl (fun s o => ?_) _ s
  split
  · exact s.winds_onRec ..
  · exact .refl s

theorem Part.winds_dropHeld (s : Part) : s.Winds s.dropHeld :=
  (winds_foldl (fun s _ => s.winds_partFinal ..) _ _).after <|
    s.winds_ini (by simp) (fun _ => id) fun _ c h => ⟨c, h, rfl, rfl⟩

theorem Part.winds_dropCarry (s : Part) (i) : s.Winds (s.dropCarry i) := by
  unfold Part.dropCarry
  extract_lets mine os unpinned withdrawn loses log ended
  have hwithdrawn : s.Winds withdrawn := (winds_withdraw ..).after <| s.winds_unpinOffers os
  have hended : withdrawn.Winds ended := .of_stirs rfl
  exact (winds_onCtx ..).after <| hwithdrawn.trans hended

theorem Part.winds_withdrawMerge (s : Part) (i) : s.Winds (s.withdrawMerge i) :=
  (winds_onCtx ..).after <| (winds_withdraw ..).after <| s.winds_unpinOffers _

theorem Part.winds_releaseSnapshot (s : Part) (i) : s.Winds (s.releaseSnapshot i) :=
  (winds_onCtx ..).after <| winds_foldl (fun s _ => s.winds_unpin _) _ s

theorem Part.winds_endMerge (s : Part) (i) : s.Winds (s.endMerge i) :=
  (winds_onCtx ..).after <|
    Winds.trans ((winds_releaseSnapshot ..).after <| s.winds_withdrawMerge i) (.of_stirs (by rfl))

theorem Part.winds_dropMerge (s : Part) (i) : s.Winds (s.dropMerge i) :=
  (winds_raise ..).after <| Winds.after (winds_onL _ _ (by exact fun _ _ => id)) <| (winds_endMerge ..).after <|
    s.winds_toResetPendingOpt _

theorem Part.winds_degradeCtx (issued) (s : Part) (i) : s.Winds (s.degradeCtx issued i) := by
  unfold Part.degradeCtx
  dsimp only
  split
  · exact .refl s
  · exact .refl s
  · exact winds_ite (fun _ => .refl s) fun _ => winds_ite (fun _ => s.winds_dropCarry i) fun _ =>
      (winds_dropMerge ..).after (.of_stirs (by rfl))
  · exact winds_ite (fun _ => s.winds_dropCarry i) fun _ => s.winds_dropMerge i

theorem Part.winds_failMergeDirectives (s : Part) :
    s.Winds s.failMergeDirectives ∧ s.failMergeDirectives.mrg.drain = none := by
  unfold Part.failMergeDirectives
  extract_lets told mrg unclean
  have htold : s.Winds told := by
    unfold told
    split
    · exact s.winds_finishClean ..
    · exact s.winds_finishClean ..
    · exact .refl s
  have hunclean : s.Winds unclean := htold.trans (.of_stirs (by rfl))
  split
  case h_1 hdrain => exact ⟨hunclean, hdrain⟩
  case h_2 =>
    have hended : s.Winds { unclean with mrg.drain := none } :=
      ⟨hunclean.sys, hunclean.hold, hunclean.offers, hunclean.queues, fun _ => rfl, hunclean.accept, hunclean.commands⟩
    refine ⟨winds_ite (fun _ => hended.trans (winds_finishDirective ..)) fun _ => hended, ?_⟩
    split <;> rfl

theorem Part.winds_failSettings (s : Part) : s.Winds s.failSettings := by
  unfold Part.failSettings
  split
  · exact .refl s
  · exact winds_ite (fun _ => .refl s) fun _ => s.winds_finishDirective ..

/-- No WRITE, DISCARD or data-out OTHER waits to be accepted (R145). -/
def Part.acceptsNoWrite (p : Part) : Prop :=
  ∀ t ∈ p.ini.accept, ∀ c, p.ini.at t = some c → endsReadOnly c = false

theorem endsReadOnly_congr {c d : Cmd} (hcls : c.cls = d.cls) (hdir : c.dir = d.dir) :
    endsReadOnly c = endsReadOnly d := by
  simp only [endsReadOnly, hcls, hdir]

theorem Part.acceptsNoWrite_of_winds (h : s.Winds t) (hs : s.acceptsNoWrite) : t.acceptsNoWrite := by
  intro k hk c hc
  obtain ⟨d, hd, hcls, hdir⟩ := h.commands k c hc
  exact (endsReadOnly_congr hcls hdir).trans (hs k (h.accept k hk) d hd)

theorem Part.winds_degradeAccept (s : Part) : s.Winds s.degradeAccept ∧ s.degradeAccept.acceptsNoWrite := by
  let out := s.ini.accept.filter fun t => (s.ini.at t).any endsReadOnly
  obtain ⟨kept, hkept⟩ : ∃ kept : Part,
    kept = { s with ini.accept := s.ini.accept.filter (fun t => !out.contains t) } := ⟨_, rfl⟩
  have hfilter : s.Winds kept :=
    hkept ▸ s.winds_ini (fun _ => id) (fun _ hk => List.mem_of_mem_filter hk) fun _ c h => ⟨c, h, rfl, rfl⟩
  have hnone : kept.acceptsNoWrite := by
    subst hkept
    intro k hk c hc
    have hc' : s.ini.at k = some c := hc
    have hin : k ∈ s.ini.accept := List.mem_of_mem_filter hk
    have hout : k ∉ out := by simpa using List.of_mem_filter hk
    rw [← Bool.not_eq_true]
    exact fun he => hout (List.mem_filter.mpr ⟨hin, by simp [hc', he]⟩)
  have hfinish : kept.Winds s.degradeAccept := by
    subst hkept
    exact winds_foldl (fun s _ => s.winds_finish ..) _ _
  exact ⟨hfilter.trans hfinish, acceptsNoWrite_of_winds hfinish hnone⟩

/-! ### The writes that wait are withdrawn (R37, R115) -/

/-- Outcomes of the withdrawal that its later steps build on. -/
structure Part.Reported (s t : Part) : Prop where
  hold : t.ini.hold = s.ini.hold
  offers : t.port.offers = s.port.offers
  bands : t.bands.lbt.length = s.bands.lbt.length

theorem Part.reported_reportWithdrawn (s : Part) {o : Offer} (ho : o.attempt = 1) : s.Reported (s.reportWithdrawn o) := by
  unfold Part.reportWithdrawn
  split
  · exact ⟨rfl, rfl, rfl⟩
  · exact ⟨rfl, rfl, rfl⟩
  · unfold Part.withdrawAnchor
    split
    · exact ⟨rfl, rfl, rfl⟩
    · unfold Part.finishSettings
      split
      · exact ⟨rfl, rfl, rfl⟩
      · split <;> exact ⟨rfl, rfl, rfl⟩
  · exact ⟨rfl, rfl, rfl⟩
  · rw [if_pos ho]
    exact ⟨rfl, rfl, by simp [Part.onL]⟩
  · rw [if_pos ho]
    exact ⟨rfl, rfl, rfl⟩
  · exact ⟨rfl, rfl, rfl⟩

theorem Part.reported_foldl {os : List Offer} (ho : ∀ o ∈ os, o.attempt = 1) (s : Part) :
    s.Reported (os.foldl Part.reportWithdrawn s) := by
  induction os generalizing s with
  | nil => exact ⟨rfl, rfl, rfl⟩
  | cons o os ih =>
    obtain ⟨hhold, hoffers, hbands⟩ := s.reported_reportWithdrawn (ho o List.mem_cons_self)
    obtain ⟨hhold', hoffers', hbands'⟩ := ih (fun x hx => ho x (List.mem_cons_of_mem _ hx)) (s.reportWithdrawn o)
    exact ⟨hhold'.trans hhold, hoffers'.trans hoffers, hbands'.trans hbands⟩

theorem Part.partFinal_hold (s : Part) (cid i p) : (s.partFinal cid i p).ini.hold = s.ini.hold := rfl

theorem Part.dropHeld_hold (s : Part) : s.dropHeld.ini.hold = [] :=
  foldl_frame (fun s : Part => s.ini.hold) (fun s _ => s.partFinal_hold ..) _ _

theorem Part.failEntries_bands (s : Part) (c es) : (s.failEntries c es).bands = s.bands :=
  foldl_frame Part.bands (fun s _ => s.partFinal_bands ..) es s

theorem Part.failEntries_port (s : Part) (c es) : (s.failEntries c es).port = s.port :=
  foldl_frame Part.port (fun s _ => s.partFinal_port ..) es s

theorem Part.failEntries_hold (s : Part) (c es) : (s.failEntries c es).ini.hold = s.ini.hold :=
  foldl_frame (fun s : Part => s.ini.hold) (fun s _ => s.partFinal_hold ..) es s

theorem Part.dropAppends_port (s : Part) (l) : (s.dropAppends l).port = s.port := Part.failEntries_port ..

theorem Part.dropAppends_hold (s : Part) (l) : (s.dropAppends l).ini.hold = s.ini.hold := Part.failEntries_hold ..

/-- The append entries of a band not issued are removed, and no other (R37). -/
theorem Part.dropAppends_queue (s : Part) (l j : Nat) (b : LBand) (h : (s.dropAppends l).bands.lbt[j]? = some b) :
    ∃ b', s.bands.lbt[j]? = some b' ∧ b.queue = if j = l then b'.queue.filter (·.issued) else b'.queue := by
  simp only [Part.dropAppends, Part.failEntries_bands, Part.onL, List.getElem?_modify] at h
  obtain ⟨b', hb', rfl⟩ := Option.map_eq_some_iff.mp h
  refine ⟨b', hb', ?_⟩
  by_cases hj : l = j
  · subst hj
    simp only [if_true, Bands.lband, List.getD_eq_getElem?_getD, hb']
    rfl
  · simp [hj, Ne.symm hj]

theorem Part.foldl_dropAppends_queue (ls : List Nat) (s : Part) (j : Nat) (b : LBand)
    (h : (ls.foldl Part.dropAppends s).bands.lbt[j]? = some b) :
    ∃ b', s.bands.lbt[j]? = some b' ∧ b.queue = if j ∈ ls then b'.queue.filter (·.issued) else b'.queue := by
  induction ls generalizing s with
  | nil => exact ⟨b, h, rfl⟩
  | cons l ls ih =>
    obtain ⟨x, hx, hqueue⟩ := ih _ h
    obtain ⟨b', hb', hqueue'⟩ := s.dropAppends_queue l j x hx
    refine ⟨b', hb', ?_⟩
    rw [hqueue, hqueue']
    by_cases hl : j = l <;> by_cases hls : j ∈ ls <;> simp [hl, hls, List.filter_filter]

/-- With no offer behind a link reset, no write is left to be offered or issued (R37, R115). -/
theorem Part.withdrawWrites_stops (s : Part) (hfirst : ∀ o ∈ s.port.offers, o.attempt = 1) :
    s.withdrawWrites.ini.hold = s.ini.hold ∧ (∀ o ∈ s.withdrawWrites.port.offers, o.cmd.modifies = false) ∧
      ∀ b ∈ s.withdrawWrites.bands.lbt, ∀ e ∈ b.queue, e.issued = true := by
  have hnone : (s.port.offers.filter (·.cmd.modifies)).filter (·.attempt != 1) = [] := by
    simp only [List.filter_eq_nil_iff, List.mem_filter]
    exact fun o ho => by simp [hfirst o ho.1]
  have hones : ∀ o ∈ (s.port.offers.filter (·.cmd.modifies)).filter (·.attempt == 1), o.attempt = 1 := fun o ho => by
    simpa using List.of_mem_filter ho
  obtain ⟨kept, hkept⟩ : ∃ kept : Part,
    kept = { s with port.offers := s.port.offers.filter fun o => !o.cmd.modifies } := ⟨_, rfl⟩
  obtain ⟨told, htold⟩ : ∃ told : Part,
    told = ((s.port.offers.filter (·.cmd.modifies)).filter (·.attempt == 1)).foldl Part.reportWithdrawn kept := ⟨_, rfl⟩
  have heq : s.withdrawWrites = (List.range told.bands.lbt.length).foldl Part.dropAppends told := by
    simp only [Part.withdrawWrites, hnone, List.foldl_nil, htold, hkept]
  obtain ⟨hhold, hoffers, -⟩ := htold ▸ Part.reported_foldl hones kept
  rw [heq]
  refine ⟨?_, fun o ho => ?_, fun b hb e he => ?_⟩
  · rw [foldl_frame (fun s : Part => s.ini.hold) Part.dropAppends_hold, hhold, hkept]
  · rw [foldl_frame Part.port Part.dropAppends_port, hoffers, hkept] at ho
    simpa using List.of_mem_filter ho
  · obtain ⟨j, hj⟩ := List.mem_iff_getElem?.mp hb
    obtain ⟨b', hb', hqueue⟩ := told.foldl_dropAppends_queue _ j b hj
    have hlt : j < told.bands.lbt.length := (List.getElem?_eq_some_iff.mp hb').1
    rw [hqueue, if_pos (List.mem_range.mpr hlt)] at he
    simpa using List.of_mem_filter he

/-! ### The entry as a whole -/

/-- What R37, R55, R110, R115 and R145 ask of a part in DEGRADED. -/
structure Part.Stopped (p : Part) : Prop where
  mode : p.sys.mode = .degraded
  hold : p.ini.hold = []
  offers : ∀ o ∈ p.port.offers, o.cmd.modifies = false
  queues : ∀ b ∈ p.bands.lbt, ∀ e ∈ b.queue, e.issued = true
  drain : p.mrg.drain = none
  accept : p.acceptsNoWrite

theorem Part.Stopped.winds (hs : s.Stopped) (h : s.Winds t) : t.Stopped where
  mode := by rw [h.sys, hs.mode]
  hold := by
    refine List.eq_nil_iff_forall_not_mem.mpr fun e he => ?_
    simpa [hs.hold] using h.hold e he
  offers o ho := hs.offers o (h.offers o ho)
  queues b hb e he := by
    obtain ⟨b', hb', he'⟩ := h.queues b hb e he
    exact hs.queues b' hb' e he'
  drain := h.drain hs.drain
  accept := acceptsNoWrite_of_winds h hs.accept

theorem Part.enterDegraded_stops (s : Part) (hm : s.sys.mode = .active)
    (hfirst : ∀ o ∈ s.port.offers, o.attempt = 1) : s.enterDegraded.Stopped := by
  rw [Part.enterDegraded, if_pos hm]
  extract_lets ctxs issued entered marked dropped withdrawn ended told settled accepted
  have hmarked : (s.enter .degraded .none).Winds dropped :=
    (winds_dropHeld _).after <| (winds_barrierParts _).after <| winds_markVoids _
  have hdropped : dropped.ini.hold = [] := Part.dropHeld_hold _
  obtain ⟨hhold, hoffers, hqueues⟩ := dropped.withdrawWrites_stops fun o ho => hfirst o (hmarked.offers o ho)
  have hended : withdrawn.Winds ended := winds_foldl (fun s i => s.winds_degradeCtx _ i) _ _
  obtain ⟨htold, hdrain⟩ := ended.winds_failMergeDirectives
  have hsettled : told.Winds settled := winds_failSettings _
  obtain ⟨haccepted, hnowrite⟩ := settled.winds_degradeAccept
  have hsince : withdrawn.Winds accepted := ((hended.trans htold).trans hsettled).trans haccepted
  have hstopped : accepted.Stopped :=
    { mode := by
        rw [hsince.sys, show withdrawn.sys = dropped.sys from Part.withdrawWrites_sys _, hmarked.sys]
        rfl
      hold := List.eq_nil_iff_forall_not_mem.mpr fun e he => by
        simpa [withdrawn, hhold, hdropped] using hsince.hold e he
      offers := fun o ho => hoffers o (hsince.offers o ho)
      queues := fun b hb e he => by
        obtain ⟨b', hb', he'⟩ := hsince.queues b hb e he
        exact hqueues b' hb' e he'
      drain := (hsettled.trans haccepted).drain hdrain
      accept := hnowrite }
  exact hstopped.winds (winds_barrierParts _)

end Sys2Proof.Machine

namespace Sys2Proof

open Sys2Proof.Machine

/-- Settles O31, from what the entry into DEGRADED stops. -/
theorem degradedStopsEveryWrite : Obligations.DegradedStopsEveryWrite := by
  intro p q k o r code hreset hmode hruns hwork hfind hcode hfirst
  obtain ⟨hfinal, hbad⟩ := finalCode_of_error hcode
  obtain ⟨freed, hfreed⟩ : ∃ freed : Part,
    freed = ({ p with port.slots := p.port.slots.set k none } : Part).clearOut o.band := ⟨_, rfl⟩
  have hfrees : freed.sys = p.sys ∧ freed.log = p.log ∧ freed.port.offers = p.port.offers := by
    subst hfreed
    cases o.band <;> exact ⟨rfl, rfl, rfl⟩
  obtain ⟨hsys, hlog, hoffers⟩ := hfrees
  obtain ⟨marked, hmarked⟩ : ∃ marked : Part,
    marked = freed.onRec r.seq fun r => { r with barrier := some .r54 } := ⟨_, rfl⟩
  have hstopped : marked.enterDegraded.Stopped := by
    refine Part.enterDegraded_stops _ ?_ ?_
    · rw [hmarked, Part.onRec_sys, hsys, hmode]
    · rw [hmarked, Part.onRec_port, hoffers]
      exact hfirst
  have hend : ((marked.enterDegraded.raiseVoid r code).barrierParts).Stopped :=
    hstopped.winds ((Part.winds_barrierParts _).after <| Part.winds_raise ..)
  refine ⟨(marked.enterDegraded.raiseVoid r code).barrierParts, ?_, hend.mode, hend.hold, hend.offers, hend.queues,
    hend.drain, fun t ht c hc => ?_⟩
  · rw [exec_voidRewriteComplete, State.act_awake _ hreset, Part.complete_runs _ hruns (by simp [hwork]), ← hfreed]
    simp only [hwork, Part.voidFinal, hlog, hfind, hfinal, if_neg hbad, ← hmarked]
  · have hends := hend.accept t ht c hc
    simp only [endsReadOnly, Bool.or_eq_false_iff, Bool.and_eq_false_iff, beq_eq_false_iff_ne] at hends
    obtain ⟨⟨hwrite, hdiscard⟩, hother⟩ := hends
    exact ⟨hwrite, hdiscard, fun h => hother.elim (· h.1) (· h.2)⟩

end Sys2Proof
end

section
/-! Directives: the tests of R174, the immediate directives and the answers to referred commands (chapters 9 and 10). -/

namespace Sys2Proof.Machine

/-! ### The tests of R174 -/

section
variable {p : Part} {q : List Instr} {tag : Nat} {num : BitVec 32} {d : Directive}

/-- A directive's block has been taken: its echo stands on page 2, and its answer on the response list (R168, R175). -/
def Part.answered (p : Part) (num : BitVec 32) (d : Directive) (r : Result) (data : List Byte) : Part :=
  { p with win := ({ p.win with echo := encodeDirective num d } : Window).respond num d.code r data }

theorem State.act_directive_unknown (hreset : p.sys.inReset = false) (hpage : p.ini.windowPage tag = some 2)
    (hknown : d.known = false) : (⟨p, q⟩ : State).act (·.directiveRow tag num d) =
      .next ⟨(p.answered num d .invalid []).windowTaken tag, q⟩ := by
  rw [State.act_directiveRow p q tag num d hreset hpage, Part.takeDirective, hknown]
  rfl

theorem State.act_directive_notReady (hreset : p.sys.inReset = false) (hpage : p.ini.windowPage tag = some 2)
    (hknown : d.known = true) (hmode : d.allowedIn p.sys.mode = false) :
    (⟨p, q⟩ : State).act (·.directiveRow tag num d) = .next ⟨(p.answered num d .notReady []).windowTaken tag, q⟩ := by
  rw [State.act_directiveRow p q tag num d hreset hpage, Part.takeDirective, hknown, hmode]
  rfl

theorem State.act_directive_busy (hreset : p.sys.inReset = false) (hpage : p.ini.windowPage tag = some 2)
    (hknown : d.known = true) (hmode : d.allowedIn p.sys.mode = true) (htime : d.takesTime = true)
    (hpending : p.win.dirPending ≠ none) :
    (⟨p, q⟩ : State).act (·.directiveRow tag num d) = .next ⟨(p.answered num d .busy []).windowTaken tag, q⟩ := by
  rw [State.act_directiveRow p q tag num d hreset hpage, Part.takeDirective, hknown, hmode, htime,
    Option.isSome_iff_ne_none.mpr hpending]
  rfl

theorem State.act_directive_applied (hreset : p.sys.inReset = false) (hpage : p.ini.windowPage tag = some 2)
    (hknown : d.known = true) (hmode : d.allowedIn p.sys.mode = true)
    (htime : d.takesTime = false ∨ p.win.dirPending = none) : (⟨p, q⟩ : State).act (·.directiveRow tag num d) =
      .next ⟨(({ p with win.echo := encodeDirective num d } : Part).applyDirective num d).windowTaken tag, q⟩ := by
  rw [State.act_directiveRow p q tag num d hreset hpage]
  exact congrArg (fun x : Part => Host.Outcome.next (State.mk (x.windowTaken tag) q)) <|
    Part.takeDirective_applied _ _ _ hknown hmode htime

end

/-! ### ANSWER -/

theorem Referral.find_id {r : Referral} {id : Nat} {e : ReferralEntry} (h : r.find id = some e) : e.id = id := by
  simpa using List.find?_some h

theorem ReferralEntry.dataIn_iff (e : ReferralEntry) :
    e.dataIn = true ↔ e.cls = .identify ∨ e.cls = .other ∧ e.dir = .dataIn := by
  simp [ReferralEntry.dataIn]

theorem answerOk_iff (e : ReferralEntry) (code : Code) (len : Nat) :
    answerOk e code len = true ↔ code ≠ .tagConflict ∧ if e.dataIn then len ≤ 3840 else len = 0 := by
  cases h : e.dataIn
  · simp [answerOk, h]
  · simp [answerOk, h]
    exact fun _ => Iff.rfl

end Sys2Proof.Machine

namespace Sys2Proof

open Sys2Proof.Machine

/-- Settles O16, by the tests of R174. -/
theorem directiveTestsInOrder : Obligations.DirectiveTestsInOrder := by
  intro p q tag num hreset hpage answered
  have notReady : ∀ d : Directive, d.known = true → d.allowedIn p.sys.mode = false →
      (⟨p, q⟩ : State).act (·.directiveRow tag num d) = answered d .notReady :=
    fun d => State.act_directive_notReady hreset hpage
  have busy : ∀ d : Directive, d.known = true → d.allowedIn p.sys.mode = true → d.takesTime = true →
      p.win.dirPending ≠ none → (⟨p, q⟩ : State).act (·.directiveRow tag num d) = answered d .busy :=
    fun d => State.act_directive_busy hreset hpage
  refine ⟨fun code _ => State.act_directive_unknown (d := .unknown code) hreset hpage rfl,
    fun hmode id action hcomplete hrelease => ?_, fun a b c d e f g h l n x y reply => ?_⟩
  · refine (State.act_directive_applied (d := .answer id action 0 0 []) hreset hpage rfl
      (by simpa [Directive.allowedIn] using hmode) (.inl rfl)).trans ?_
    rw [Part.applyDirective, Part.dirAnswer, if_neg hcomplete, if_neg hrelease]
    rfl
  intro m pending
  refine ⟨fun hm => ?_, fun hm => ?_, fun hm => ?_, fun hm => ?_, fun hm => ?_, fun hp hm => ?_, fun hp hm => ?_,
    fun hp hm => ?_⟩
  · have hm' : (p.sys.mode == .active || p.sys.mode == .halted) = false := by simpa [m] using hm
    exact ⟨notReady (.setPolicy ..) rfl hm', notReady (.setDisposition ..) rfl hm', notReady (.setRange ..) rfl hm',
      notReady (.setAlerts _) rfl hm', notReady (.format ..) rfl hm'⟩
  · have hm' : (p.sys.mode != .mounting) = false := by simpa [m] using hm
    exact ⟨notReady (.ackAlerts _) rfl hm', notReady .clearFlags rfl hm', notReady (.answer ..) rfl hm',
      notReady (.answer ..) rfl hm', notReady (.answer ..) rfl hm'⟩
  · have hm' : (p.sys.mode == .active || p.sys.mode == .degraded) = false := by simpa [m] using hm
    exact ⟨notReady (.query _) rfl hm', notReady .stop rfl hm'⟩
  · have hm' : (p.sys.mode == .active) = false := by simpa [m] using hm
    exact ⟨notReady (.clean _) rfl hm', notReady .drain rfl hm'⟩
  · have hm' : (p.sys.mode == .active || p.sys.mode == .degraded || p.sys.mode == .halted) = false := by
      simpa [m, not_or, and_assoc] using hm
    exact notReady .restart rfl hm'
  · have hm' : (p.sys.mode == .active || p.sys.mode == .halted) = true := by simpa [m] using hm
    exact ⟨busy (.setPolicy ..) rfl hm' rfl hp, busy (.setDisposition ..) rfl hm' rfl hp,
      busy (.setRange ..) rfl hm' rfl hp, busy (.setAlerts _) rfl hm' rfl hp, busy (.format ..) rfl hm' rfl hp⟩
  · have hm' : (p.sys.mode == .active) = true := by simpa [m] using hm
    exact ⟨busy (.clean _) rfl hm' rfl hp, busy .drain rfl hm' rfl hp⟩
  · have hm' : (p.sys.mode == .active || p.sys.mode == .degraded || p.sys.mode == .halted) = true := by
      simpa [m, or_assoc] using hm
    exact busy .restart rfl hm' rfl hp

/-- Settles O18: both directives act at once, and QUERY reads the map and the index as they stand. -/
theorem alertsAreAcknowledgedAndBlocksQueried : Obligations.AlertsAreAcknowledgedAndBlocksQueried := by
  intro p q tag num hreset hpage
  refine ⟨fun mask hmode => ?_, ?_⟩
  · exact State.act_directive_applied (d := .ackAlerts mask) hreset hpage rfl
      (by simpa [Directive.allowedIn] using hmode) (.inl rfl)
  · intro lba hmode d l answered entry band
    have hmounted : p.mounted = true := p.mounted_iff.mpr hmode
    have hw : ({ p with win.echo := encodeDirective num (.query lba) } : Part).logBlocks =
        (p.sys.layout.bands - p.sys.layout.spares) * d := Part.logBlocks_mounted _ hmounted
    have happlied := State.act_directive_applied (q := q) (num := num) (d := .query lba) hreset hpage rfl
      (by simpa [Directive.allowedIn] using hmode) (.inl rfl)
    have hband : le 4 l ++ [BitVec.ofNat 8 (lstateNum entry.st)] ++ leOpt 4 entry.phys ++ le 4 entry.f ++
        le 4 entry.pf = band := by
      cases hphys : entry.phys <;> simp [band, hphys, leOpt, absent]
    have hquery : lba.toNat < (p.sys.layout.bands - p.sys.layout.spares) * d →
        exec (.query tag num lba) ⟨p, q⟩ = answered .done (p.queryData lba.toNat) := fun hlt => by
      refine happlied.trans ?_
      rw [Part.applyDirective, Part.dirQuery, hw, if_neg (Nat.not_le.mpr hlt)]
      rfl
    have hdata : ∀ x, p.idx.lookup lba.toNat = x → p.queryData lba.toNat =
        band ++ [BitVec.ofNat 8 (extKindNum (x.map (·.kind)))] ++ leOpt 6 (x.map (·.seq)) ++
          leOpt 4 (x.bind fun e => if e.kind = .data then some (e.lp + (lba.toNat - e.start)) else none) := by
      rintro x rfl
      rw [← hband]
      rfl
    refine ⟨fun hpast => ?_, fun hlt => ⟨fun hnone => ?_, fun e he hkind => ?_, fun e he hkind => ?_⟩⟩
    · refine happlied.trans ?_
      rw [Part.applyDirective, Part.dirQuery, hw, if_pos hpast]
      rfl
    · rw [hquery hlt, hdata _ hnone]
      simp [extKindNum, leOpt, absent]
    · rw [hquery hlt, hdata _ he]
      simp [extKindNum, leOpt, absent, hkind]
    · rw [hquery hlt, hdata _ he]
      simp [extKindNum, leOpt, hkind]

/-- Settles O20, by the checks of R164 and the look-up of R163. -/
theorem answerCompletesTheReferredCommand : Obligations.AnswerCompletesTheReferredCommand := by
  intro p q tag num id len code reply k hreset hpage hmode hcode win refused
  have happlied := State.act_directive_applied (q := q) (num := num) (d := .answer id 1 code len reply) hreset hpage rfl
      (by simpa [Directive.allowedIn] using hmode) (.inl rfl)
  refine ⟨?_, fun hnone => ?_⟩
  · intro e he dataIn
    have hid : e.id = id.toNat := Referral.find_id he
    have hanswer : exec (.answerComplete tag num id code len reply) ⟨p, q⟩ =
        .next ⟨(({ p with win.echo := encodeDirective num (.answer id 1 code len reply) } : Part).answerComplete num e k
          len.toNat reply).windowTaken tag, q⟩ := by
      refine happlied.trans ?_
      have he' : ({ p with win.echo := encodeDirective num (.answer id 1 code len reply) } : Part).ref.find id.toNat =
        some e := he
      simp only [Part.applyDirective, Part.dirAnswer, if_true, hcode, he']
    rw [hanswer]
    refine ⟨fun hbad => ?_, fun hk hno hlen => ?_, fun hgood hk hin hlen => ?_, fun hgood hin hlen => ?_⟩
    · have hok : answerOk e k len.toNat = false := by
        rw [← Bool.not_eq_true, answerOk_iff]
        rintro ⟨hk, hlen⟩
        rcases hbad with rfl | ⟨hin, hlong⟩ | ⟨hno, hlong⟩
        · exact hk rfl
        · rw [if_pos (e.dataIn_iff.mpr hin)] at hlen
          omega
        · rw [if_neg (mt e.dataIn_iff.mp hno)] at hlen
          exact hlong (BitVec.eq_of_toNat_eq hlen)
      rw [Part.answerComplete, hok]
      rfl
    · have hno' : e.dataIn = false := by rwa [← Bool.not_eq_true, e.dataIn_iff]
      have hok : answerOk e k len.toNat = true := (answerOk_iff ..).mpr ⟨hk, by simp [hno', hlen]⟩
      rw [Part.answerComplete, hok, hno', hid]
      rfl
    · have hok : answerOk e k len.toNat = true := (answerOk_iff ..).mpr ⟨hk, by rwa [if_pos (e.dataIn_iff.mpr hin)]⟩
      rw [Part.answerComplete, hok]
      simp only [hgood, and_false, if_false, if_true, hid]
      rfl
    · subst hgood
      have hin' : e.dataIn = true := e.dataIn_iff.mpr hin
      have hok : answerOk e .good len.toNat = true := (answerOk_iff ..).mpr ⟨by decide, by rwa [if_pos hin']⟩
      rw [Part.answerComplete, hok, hin', hid]
      rfl
  · refine happlied.trans ?_
    have hnone' : ({ p with win.echo := encodeDirective num (.answer id 1 code len reply) } : Part).ref.find id.toNat =
      none := hnone
    simp only [Part.applyDirective, Part.dirAnswer, if_true, hcode, hnone', Part.answerGone]
    by_cases hexp : id.toNat ∈ p.ref.expired
    · simp only [if_pos hexp, if_pos (List.contains_iff_mem.mpr hexp)]
      rfl
    · simp only [if_neg hexp, if_neg (mt List.contains_iff_mem.mp hexp)]
      rfl

end Sys2Proof
end

section
/-! The settings directives (R15, R18, R59, R154, R176). -/

namespace Sys2Proof.Machine

/-! ### A setting is stored -/

/-- A settings directive has changed the working copy to that of `s` (R59, R176): in HALTED it is DONE; in ACTIVE it is
pending, and either an anchor write carries it or the dirty flag asks for one. -/
def Part.stored (s : Part) (num : BitVec 32) (d : Directive) : Part :=
  let pending := { s with
    win := { ({ s.win with echo := encodeDirective num d } : Window).respond num d.code .pending [] with
      dirPending := some { num := num, code := d.code } } }
  if s.sys.mode = .halted then
    { s with
      win := ({ s.win with echo := encodeDirective num d } : Window).respond num d.code .done []
      log.anchor := { s.log.anchor with dirty := true } }
  else if s.log.anchor.flight = none then
    { pending with
      log.anchor := { s.log.anchor with
        flight := some
          { tail := s.log.reclaim, tailSeq := s.log.reclaimSeq, block := encodeAnchor s.anchorData, dir := some num }
        dirty := false }
      port.offers := s.port.offers ++ [{ cls := .a, work := .anchor, cmd := .write 0 1 }] }
  else { pending with log.anchor := { s.log.anchor with dirty := true } }

theorem Part.acceptSettings_stored {s : Part} {num : BitVec 32} {d : Directive}
    (hmode : s.sys.mode = .active ∨ s.sys.mode = .halted) (hcode : settingsCodes.contains d.code = true) :
    ({ s with win.echo := encodeDirective num d } : Part).acceptSettings num d.code = s.stored num d := by
  rcases hmode with hmode | hmode
  · have hpending : ∀ w : Part, w.win.dirPending = some { num := num, code := d.code } →
        w.pendingSettings = some num := fun w hw => by
      simp only [Part.pendingSettings, hw, hcode, if_true]
    cases hflight : s.log.anchor.flight with
    | none =>
      simp only [Part.acceptSettings, hmode, Part.triggerAnchor, Part.stored, Part.setPending, Part.respond, hflight,
        Option.isNone_none, and_self, if_true, Part.offerAnchor, Part.buildAnchor, hpending]
      rfl
    | some x =>
      simp only [Part.acceptSettings, hmode, Part.triggerAnchor, Part.stored, Part.setPending, Part.respond, hflight]
      simp
  · simp only [Part.acceptSettings, hmode, Part.triggerAnchor, Part.stored, Part.respond]
    simp

/-! ### SET_POLICY -/

theorem clampPolicy_eq (lowQ highQ hardQ : Byte) (gap : BitVec 16) (paceQ : Byte) (burst : BitVec 16)
    (contexts timeout : Byte) : clampPolicy lowQ highQ hardQ gap paceQ burst contexts timeout =
      { lowQ := max 16 (min 248 lowQ.toNat), highQ := max 16 (min 248 highQ.toNat)
        hardQ := max 16 (min 248 hardQ.toNat), gap := min 4096 gap.toNat
        paceQ := max 1 (min 8 paceQ.toNat), burst := burst.toNat
        contexts := max 1 (min 2 contexts.toNat), timeout := max 1 timeout.toNat } := by
  have hburst : burst.toNat ≤ 65535 := Nat.le_of_lt_succ burst.isLt
  have htimeout : timeout.toNat ≤ 255 := Nat.le_of_lt_succ timeout.isLt
  simp only [clampPolicy, clamp, Nat.zero_max, Nat.min_eq_right hburst, Nat.min_eq_right htimeout]

theorem Window.raise_echo (w : Window) (e : Block) (k a b p n c) :
    ({ w with echo := e } : Window).raise k a b p n c = { w.raise k a b p n c with echo := e } := by
  unfold Window.raise
  split <;> rfl

/-- The quanta in order put the thresholds in order (R14). -/
theorem thresholds_mono (len : Nat) {a b : Nat} (h : a < b) : len * a / 256 ≤ len * b / 256 :=
  Nat.div_le_div_right (Nat.mul_le_mul_left len h.le)

/-! The table of R15, for thresholds in order. -/

section
variable {tLow tHigh tHard hyst occ : Nat} {b : Level}

theorem nextLevel_normal (hl : tLow ≤ tHigh) (hh : tHigh ≤ tHard) (hb : b = .normal ∨ b = .reclaim) (h : occ < tLow) :
    nextLevel tLow tHigh tHard hyst b occ = .normal := by
  have h₁ : ¬ tHard ≤ occ := by omega
  have h₂ : ¬ tHigh ≤ occ := by omega
  rcases hb with rfl | rfl <;> simp [nextLevel, h₁, h₂, h]

theorem nextLevel_stays_pressure (h : tHigh - hyst ≤ occ) (h' : occ < tHard) :
    nextLevel tLow tHigh tHard hyst .pressure occ = .pressure := by
  simp [nextLevel, Nat.not_le.mpr h', Nat.not_lt.mpr h]

theorem nextLevel_pressure (hb : b ≠ .pressure) (h : tHigh ≤ occ ∨ b = .full) (h' : occ < tHard) :
    nextLevel tLow tHigh tHard hyst b occ = .pressure := by
  cases b with
  | pressure => exact absurd rfl hb
  | full => simp [nextLevel, h']
  | normal | reclaim => simp [nextLevel, Nat.not_le.mpr h', h.resolve_right (by decide)]

theorem nextLevel_leaves_pressure (hh : tHigh ≤ tHard) (h : occ < tHigh - hyst) :
    nextLevel tLow tHigh tHard hyst .pressure occ = .reclaim := by
  have h₁ : ¬ tHard ≤ occ := by omega
  simp [nextLevel, h₁, h]

theorem nextLevel_reclaim (hh : tHigh ≤ tHard) (hb : b = .normal ∨ b = .reclaim) (h : tLow ≤ occ) (h' : occ < tHigh) :
    nextLevel tLow tHigh tHard hyst b occ = .reclaim := by
  have h₁ : ¬ tHard ≤ occ := by omega
  have h₂ : ¬ tHigh ≤ occ := by omega
  rcases hb with rfl | rfl <;> simp [nextLevel, h₁, h₂, h, Nat.not_lt.mpr h]

theorem nextLevel_full (h : tHard ≤ occ) : nextLevel tLow tHigh tHard hyst b occ = .full := by
  cases b with
  | full => simp [nextLevel, Nat.not_lt.mpr h]
  | normal | reclaim | pressure => simp [nextLevel, h]

end

section
variable (s : Part) (e : Block) (pol : Policy)

/-- The level SET_POLICY's evaluation gives (R15, R176). -/
def Part.policyLevel : Level :=
  Sys2Proof.Machine.nextLevel (s.sys.layout.logLen * pol.lowQ / 256) (s.sys.layout.logLen * pol.highQ / 256)
    (s.sys.layout.logLen * pol.hardQ / 256) (s.sys.layout.logLen / 32) s.pace.level s.log.occ

theorem Part.installPolicy_halted (hmode : s.sys.mode = .halted) (hlevel : s.pace.level ≠ .pressure) :
    ({ s with win.echo := e } : Part).installPolicy pol =
      { ({ s with cfg.policy := pol } : Part) with win.echo := e } := by
  simp only [Part.installPolicy, Part.evalLevel, Part.holdsLog, Part.mounted, hmode]
  exact if_neg hlevel

/-- What SET_POLICY does in ACTIVE, by the level its evaluation gives (R15, R18). -/
theorem Part.installPolicy_active (hmode : s.sys.mode = .active) {n : Level} (hn : s.policyLevel pol = n) :
    ({ s with win.echo := e } : Part).installPolicy pol =
      { ({ s with
          cfg.policy := pol
          pace :=
            if n = .pressure then { level := .pressure, credit := pol.burst, rem := 0 } else s.pace.move pol.burst n
          win :=
            if n ≠ s.pace.level ∧ (n = .pressure ∨ n = .full) then
              s.win.raise .levelChange (some .log) none none (some s.log.occ) (some (levelNum n))
            else s.win } : Part) with win.echo := e } := by
  subst hn
  have hlog : ({ s with cfg.policy := pol, win.echo := e } : Part).holdsLog = true := by
    simp [Part.holdsLog, Part.mounted, hmode]
  have hnext : ({ s with cfg.policy := pol, win.echo := e } : Part).nextLevel = s.policyLevel pol := rfl
  have hmove : (s.pace.move pol.burst (s.policyLevel pol)).level = s.policyLevel pol := by
    unfold Pace.move
    split
    · exact Eq.symm ‹_›
    · split
      · rfl
      · split <;> rfl
  simp only [Part.installPolicy, Part.evalLevel, hlog, if_true, hnext, hmove, Window.raise_echo]
  by_cases hp : s.policyLevel pol = .pressure
  · simp only [hp, if_true]
    split <;> rfl
  · simp only [hp, if_false]
    split <;> rfl

end

theorem Pace.move_self (c : Pace) (burst : Nat) : c.move burst c.level = c := if_pos rfl

theorem Pace.move_normal (c : Pace) (burst : Nat) (h : c.level = .normal ∨ c.level = .reclaim) :
    c.move burst .normal = { c with level := .normal } := by
  obtain ⟨level, credit, rem⟩ := c
  rcases h with h | h <;> simp only at h <;> subst h <;> rfl

theorem Pace.move_reclaim (c : Pace) (burst : Nat) (h : c.level = .normal ∨ c.level = .reclaim) :
    c.move burst .reclaim = { c with level := .reclaim } := by
  obtain ⟨level, credit, rem⟩ := c
  rcases h with h | h <;> simp only at h <;> subst h <;> rfl

theorem Pace.move_full (c : Pace) (burst : Nat) (h : c.level ≠ .full) :
    c.move burst .full = { c with level := .full } := by
  obtain ⟨level, credit, rem⟩ := c
  cases level with
  | full => exact absurd rfl h
  | normal | reclaim | pressure => rfl

end Sys2Proof.Machine

namespace Sys2Proof

open Sys2Proof.Machine

/-- Settles O17: each settings directive, once its own tests are passed, is stored in one way. -/
theorem settingsAreStoredThroughTheAnchor : Obligations.SettingsAreStoredThroughTheAnchor := by
  intro p q tag num hreset hpage hmode hpending w stored refused
  have hallowed : (p.sys.mode == .active || p.sys.mode == .halted) = true := by simpa using hmode
  have applied : ∀ d : Directive, d.known = true → d.allowedIn p.sys.mode = true →
      (⟨p, q⟩ : State).act (·.directiveRow tag num d) =
        .next ⟨(({ p with win.echo := encodeDirective num d } : Part).applyDirective num d).windowTaken tag, q⟩ :=
    fun d hk ha => State.act_directive_applied hreset hpage hk ha (.inr hpending)
  have accepted : ∀ (d : Directive) (s : Part), s.sys = p.sys → settingsCodes.contains d.code = true →
      ({ s with win.echo := encodeDirective num d } : Part).acceptSettings num d.code = s.stored num d :=
    fun d s hsys => Part.acceptSettings_stored (by rwa [hsys])
  have store : ∀ (d : Directive) (s : Part), s.sys = p.sys → s.log = p.log → s.port = p.port → d.known = true →
      d.allowedIn p.sys.mode = true → settingsCodes.contains d.code = true →
      ({ p with win.echo := encodeDirective num d } : Part).applyDirective num d =
        ({ s with win.echo := encodeDirective num d } : Part).acceptSettings num d.code →
      (⟨p, q⟩ : State).act (·.directiveRow tag num d) = stored d s := fun d s hsys hlog hport hk ha hc he => by
    rw [applied d hk ha, he, accepted d s hsys hc]
    simp only [stored, Part.stored, hsys, hlog, hport]
  have hw : p.logBlocks = w := by
    rw [p.logBlocks_eq]
    rcases hmode with h | h <;> simp [w, h]
  refine ⟨fun mask => ?_, fun cls disp c d hc hd => ?_, fun cls disp hnone => ?_, ?_, ?_, ?_⟩
  · exact store (.setAlerts mask) { p with cfg.enables := mask } rfl rfl rfl rfl hallowed rfl rfl
  · by_cases hok : dispAllowed c d = true
    · rw [if_pos hok]
      refine store (.setDisposition cls disp) { p with cfg.disp := p.cfg.disp.put c d } rfl rfl rfl rfl hallowed rfl ?_
      simp only [Part.applyDirective, Part.dirSetDisposition, hc, hd, if_pos hok]
      rfl
    · rw [if_neg hok]
      refine (applied (.setDisposition cls disp) rfl hallowed).trans ?_
      simp only [Part.applyDirective, Part.dirSetDisposition, hc, hd, if_neg hok]
      rfl
  · refine (applied (.setDisposition cls disp) rfl hallowed).trans ?_
    have hinvalid : ∀ s : Part, s.dirSetDisposition num cls disp = s.respond num 2 .invalid [] := fun s => by
      unfold Part.dirSetDisposition
      rcases hnone with h | h
      · rw [h]
      · rw [h]
        cases clsOf cls <;> rfl
    rw [Part.applyDirective, hinvalid]
    rfl
  · intro index mode fixed start length d
    have hrange := applied d rfl hallowed
    refine ⟨fun hlen hindex => ?_, fun e hrangeOf he => ⟨fun hfixed => ?_, fun hfixed => ?_⟩⟩
    · refine hrange.trans ?_
      have hnone : p.ret.entries[index.toNat]? = none := List.getElem?_eq_none (by omega)
      simp only [d, Part.applyDirective, Part.dirSetRange, hnone]
      rfl
    · refine hrange.trans ?_
      simp only [d, Part.applyDirective, Part.dirSetRange, he, hrangeOf, hfixed]
      rfl
    · have hans := hrange
      simp only [d, Part.applyDirective, Part.dirSetRange, he, hrangeOf, hfixed, Bool.true_and] at hans
      cases hfree : Config.fixedBeforeMode with
      | true =>
        rw [hfree] at hans
        exact .inl hans
      | false =>
        rw [hfree] at hans
        exact .inr hans
  · intro index mode fixed start length m e hm he
    have hw' : ({ p with win.echo := encodeDirective num (.setRange index mode fixed start length) } : Part).logBlocks =
      w := hw
    have hrange := applied (.setRange index mode fixed start length) rfl hallowed
    by_cases hfixed : e.fixed = true
    · rw [if_pos hfixed]
      refine hrange.trans ?_
      simp only [Part.applyDirective, Part.dirSetRange, he, hm, if_pos hfixed]
      rfl
    have hzero : (length.toNat = 0 ∧ m ≠ .off) ↔ (length = 0 ∧ m ≠ .off) := by
      simp [BitVec.toNat_eq]
    rw [if_neg hfixed]
    by_cases hbad : w ≤ start.toNat ∨ length = 0 ∧ m ≠ .off
    · rw [if_pos hbad]
      refine hrange.trans ?_
      by_cases hstart : w ≤ start.toNat
      · simp only [Part.applyDirective, Part.dirSetRange, he, hm, hw', if_neg hfixed, if_pos hstart]
        rfl
      · simp only [Part.applyDirective, Part.dirSetRange, he, hm, hw', if_neg hfixed, if_neg hstart,
          if_pos (hzero.mpr (hbad.resolve_left hstart))]
        rfl
    · rw [if_neg hbad]
      obtain ⟨hstart, hlen⟩ := not_or.mp hbad
      refine store (.setRange index mode fixed start length)
        { p with ret.entries := p.ret.entries.set index.toNat (newRange w m (fixed != 0) start.toNat length.toNat) }
        rfl rfl rfl rfl hallowed rfl ?_
      simp only [Part.applyDirective, Part.dirSetRange, he, hm, hw', if_neg hfixed, if_neg hstart,
        if_neg (mt hzero.mp hlen)]
      rfl
  · intro lowQ highQ hardQ paceQ contexts timeout gap burst pol d
    have hpolicy : ({ p with win.echo := encodeDirective num d } : Part).applyDirective num d =
        ({ p with win.echo := encodeDirective num d } : Part).dirSetPolicy num pol := by
      rw [show pol = _ from (clampPolicy_eq ..).symm]
      rfl
    rw [Part.dirSetPolicy] at hpolicy
    refine ⟨fun hbad => ?_, fun hlow hhigh => ?_⟩
    · refine (applied d rfl hallowed).trans ?_
      rw [hpolicy, if_neg (by simpa [quantaOk] using hbad)]
      rfl
    intro done s full t
    rw [if_pos (by simpa [quantaOk] using ⟨hlow, hhigh⟩)] at hpolicy
    have finish : ∀ u : Part, u.sys = p.sys → u.log = p.log → u.port = p.port →
        ({ p with win.echo := encodeDirective num d } : Part).installPolicy pol =
          { u with win.echo := encodeDirective num d } → done u := fun u hsys hlog hport hu =>
      store d u hsys hlog hport rfl hallowed rfl (by rw [hpolicy, hu]; rfl)
    refine ⟨fun hm hl => finish _ rfl rfl rfl (p.installPolicy_halted _ _ hm hl), fun hm => ?_⟩
    have hlowT : t pol.lowQ ≤ t pol.highQ := thresholds_mono _ hlow
    have hhighT : t pol.highQ ≤ t pol.hardQ := thresholds_mono _ hhigh
    have active : ∀ (n : Level) (u : Part), u.sys = p.sys → u.log = p.log → u.port = p.port →
        p.policyLevel pol = n → { p with
          cfg.policy := pol
          pace :=
            if n = .pressure then { level := .pressure, credit := pol.burst, rem := 0 } else p.pace.move pol.burst n
          win :=
            if n ≠ p.pace.level ∧ (n = .pressure ∨ n = .full) then
              p.win.raise .levelChange (some .log) none none (some p.log.occ) (some (levelNum n))
            else p.win } = u → done u := fun n u hsys hlog hport hn hu =>
      finish u hsys hlog hport (hu ▸ p.installPolicy_active _ _ hm hn)
    refine ⟨fun hl ho => ?_, fun hl ho ho' => ?_, fun hl ho ho' => ?_, fun hl ho => ?_, fun hl ho ho' => ?_,
      fun hl ho => ?_, fun hl ho => ?_⟩
    · exact active .normal _ rfl rfl rfl (nextLevel_normal hlowT hhighT hl ho) (by simp [Pace.move_normal _ _ hl, s])
    · refine active .pressure _ rfl rfl rfl ?_ (by simp [hl, full, s])
      rw [Part.policyLevel, hl]
      exact nextLevel_stays_pressure ho ho'
    · exact active .pressure _ rfl rfl rfl (nextLevel_pressure hl ho ho') (by simp [Ne.symm hl, full, s, levelNum])
    · refine active .reclaim _ rfl rfl rfl ?_ (by simp [Pace.move, hl, s])
      rw [Part.policyLevel, hl]
      exact nextLevel_leaves_pressure hhighT ho
    · exact active .reclaim _ rfl rfl rfl (nextLevel_reclaim hhighT hl ho ho') (by simp [Pace.move_reclaim _ _ hl, s])
    · exact active .full _ rfl rfl rfl (nextLevel_full ho) (by simp [Pace.move, hl, s])
    · exact active .full _ rfl rfl rfl (nextLevel_full ho) (by simp [Pace.move_full _ _ hl, Ne.symm hl, s, levelNum])

end Sys2Proof
end

section
/-! The directives of the merge engine, FORMAT and RESTART (R109 to R111, R175, R178, R179, R193, R194). -/

namespace Sys2Proof.Machine

/-! ### STOP and the end of a drain -/

theorem Part.pendingIs_of {p : Part} {x : PendingDir} {codes : List Byte} (hx : p.win.dirPending = some x)
    (hcode : x.code ∈ codes) : p.pendingIs codes = true := by
  simp [Part.pendingIs, hx, hcode]

theorem Part.drainCheck_none {s : Part} (h : s.mrg.drain = none) : s.drainCheck = s := by
  simp [Part.drainCheck, h]

/-- While a merge of the drain runs, the drain goes on (R110). -/
theorem Part.drainCheck_serving {s : Part} (h : ∃ c ∈ s.mrg.ctxs, c.origin = some .drain) : s.drainCheck = s := by
  obtain ⟨c, hc, horigin⟩ := h
  have hall : s.mrg.ctxs.all (fun c => c.origin != some .drain) = false := List.all_eq_false.mpr ⟨c, hc, by simp [horigin]⟩
  unfold Part.drainCheck
  split
  · rfl
  · exact if_neg (by simp [hall])

/-- A stopped drain that no merge serves finishes CANCELLED (R111). -/
theorem Part.drainCheck_stopped {s : Part} {d : Drain} {x : PendingDir} (hd : s.mrg.drain = some d)
    (hstop : d.stopped = true) (hcursor : d.cursor = s.sys.layout.logBands)
    (hctxs : ∀ c ∈ s.mrg.ctxs, c.origin ≠ some .drain) (hx : s.win.dirPending = some x) (hcode : x.code = 8) :
    s.drainCheck = { s with
      win := s.win.finish .cancelled (le 4 d.merged ++ le 4 d.failed)
      mrg.drain := none } := by
  have hall : s.mrg.ctxs.all (fun c => c.origin != some .drain) = true :=
    List.all_eq_true.mpr fun c hc => by simp [hctxs c hc]
  have hpending : ({ s with mrg.drain := none } : Part).pendingIs [drainCode] = true :=
    Part.pendingIs_of (x := x) hx (by simp [hcode, drainCode])
  simp only [Part.drainCheck, hd, hall, hcursor, le_refl, and_self, if_true, hstop, hpending]
  rfl

theorem mem_set_pair {α : Type} {l : List α} (hlen : l.length = 2) {d x a : α} (i : Fin 2)
    (h : a ∈ l.set i x) : a = x ∨ a = l.getD (1 - i).val d := by
  obtain ⟨y, z, rfl⟩ := List.length_eq_two.mp hlen
  fin_cases i <;> simpa [or_comm] using h

/-! ### CLEAN -/

theorem Merge.req_isSome (m : Merge) (l : Nat) : (m.req l).isSome = true ↔ ∃ e ∈ m.reqs, e.band = l := by
  simp [Merge.req]

/-! ### FORMAT -/

theorem Part.formatLayout_eq {s : Part} {g : DriveGeo} (hg : s.sys.drive = some g) (b r n : Nat) :
    s.formatLayout b r n =
      if b = g.bandBlocks ∧ (b = 16384 ∨ b = 32768 ∨ b = 65536) ∧ 64 ≤ g.bands ∧ g.bands ≤ 131072 ∧ 4 ≤ r ∧ r ≤ 64 ∧
          16384 ≤ n ∧ n ≤ 1048576 ∧ n % 1024 = 0 ∧ 8 + n ≤ g.conv ∧ 1 ≤ g.bands - r then
        some { bandBlocks := b, bands := g.bands, spares := r, conv := g.conv, logLen := n }
      else none := by
  simp only [Part.formatLayout, hg]
  refine if_congr ?_ rfl rfl
  simp [bandBlocksOk, bandsOk, sparesOk, logLenOk, Config.logBase, and_assoc, or_assoc]

theorem Initiator.busy_iff (i : Initiator) : i.busy = true ↔ i.plainTags ≠ [] := by
  simp [Initiator.busy]

theorem any_range_getD {α : Type} (f : α → Bool) (l : List α) (d : α) :
    ((List.range l.length).any fun i => f (l.getD i d)) = l.any f := by
  rw [Bool.eq_iff_iff]
  simp only [List.any_eq_true, List.mem_range]
  constructor
  · rintro ⟨i, hi, hf⟩
    exact ⟨l[i], List.getElem_mem hi, by rwa [List.getD_eq_getElem _ _ hi] at hf⟩
  · rintro ⟨x, hx, hf⟩
    obtain ⟨i, hi, rfl⟩ := List.mem_iff_getElem.mp hx
    exact ⟨i, hi, by rwa [List.getD_eq_getElem _ _ hi]⟩

/-! ### RESTART -/

/-- The activity test of RESTART on the merge contexts (R179). -/
theorem Part.ctxBusy_iff (s : Part) : (List.range s.mrg.ctxs.length).any s.ctxBusy = true ↔
    if s.sys.mode = .degraded then
      ∃ c ∈ s.mrg.ctxs, c.reads ≠ [] ∨ c.unitOut = true ∨ ∃ x, c.carry = some x ∧ x.flight ≠ []
    else ∃ c ∈ s.mrg.ctxs, c.st ≠ .idle := by
  by_cases hmode : s.sys.mode = .degraded
  · rw [if_pos hmode]
    have hbusy : s.ctxBusy = fun i => (fun c : MergeCtx =>
        !c.reads.isEmpty || c.unitOut || c.carry.any fun p => !p.flight.isEmpty) (s.mrg.ctxs.getD i {}) := by
      funext i
      simp only [Part.ctxBusy, if_pos hmode]
      rfl
    rw [hbusy, show (List.range s.mrg.ctxs.length).any _ = _ from any_range_getD (fun c : MergeCtx =>
        !c.reads.isEmpty || c.unitOut || c.carry.any fun p => !p.flight.isEmpty) s.mrg.ctxs {}, List.any_eq_true]
    simp [Option.any_eq_true, or_assoc]
  · rw [if_neg hmode]
    have hbusy : s.ctxBusy = fun i => (fun c : MergeCtx => c.st != .idle) (s.mrg.ctxs.getD i {}) := by
      funext i
      simp only [Part.ctxBusy, if_neg hmode]
      rfl
    rw [hbusy, show (List.range s.mrg.ctxs.length).any _ = _ from
      any_range_getD (fun c : MergeCtx => c.st != .idle) s.mrg.ctxs {}, List.any_eq_true]
    simp

end Sys2Proof.Machine

namespace Sys2Proof

open Sys2Proof.Machine

/-- Settles O22, by the end of a drain that no merge serves. -/
theorem stopEndsTheDrain : Obligations.StopEndsTheDrain := by
  intro p q tag num hreset hpage hmode win
  have happlied := State.act_directive_applied (q := q) (num := num) (d := .stop) hreset hpage rfl
    (by simpa [Directive.allowedIn] using hmode) (.inl rfl)
  have hstop : ∀ m : Option Drain, p.mrg.drain.map (fun d : Drain =>
      { d with cursor := p.sys.layout.logBands, stopped := true }) = m →
      exec (.stop tag num) ⟨p, q⟩ =
        .next ⟨(({ p with win := win, mrg.drain := m } : Part).drainCheck).windowTaken tag, q⟩ := by
    rintro m rfl
    exact happlied
  refine ⟨fun hnone => ?_, fun d hd hserving => ?_, fun d x hd hnone hx hcode => ?_,
    fun d i x hd hstopped hcursor hlen hst hreads hunit hcarry hother hx hcode => ?_⟩
  · rw [hstop none (by rw [hnone]; rfl), Part.drainCheck_none rfl]
    exact congrArg (fun m : Merge => Host.Outcome.next
      (State.mk (({ p with win := win, mrg := m } : Part).windowTaken tag) q)) (by rw [← hnone])
  · rw [hstop (some { d with cursor := p.sys.layout.logBands, stopped := true }) (by simp [hd]),
      Part.drainCheck_serving (by exact hserving)]
  · rw [hstop (some { d with cursor := p.sys.layout.logBands, stopped := true }) (by simp [hd]),
      Part.drainCheck_stopped (x := x) rfl rfl rfl (by exact hnone) (by exact hx) hcode]
  · rw [exec_contextIdle, State.act_awake _ hreset]
    have hi : (i : Nat) < p.mrg.ctxs.length := i.isLt.trans_eq hlen.symm
    have hidle : p.idleCtx i = { p with mrg.ctxs := p.mrg.ctxs.set i {} } := by
      rw [Part.idleCtx, Part.onCtx, List.modify_eq_set_get _ hi]
    have hctxs : ∀ c ∈ p.mrg.ctxs.set i {}, c.origin ≠ some .drain := fun c hc => by
      rcases mem_set_pair hlen (d := {}) i hc with rfl | rfl
      · exact fun h => by cases h
      · exact hother
    simp only [Part.releaseCtx, hst, hreads, hunit, hcarry, Option.all_none, and_self, if_true, hidle]
    rw [Part.drainCheck_stopped (s := { p with mrg.ctxs := p.mrg.ctxs.set i {} }) (x := x) hd hstopped hcursor hctxs hx
      hcode]

/-- Settles O23: both follow the tests of the directive in their order. -/
theorem cleanAndDrainAskForMerges : Obligations.CleanAndDrainAskForMerges := by
  intro p q tag num hreset hpage hmode hnone
  refine ⟨fun band => ?_, State.act_directive_applied (d := .drain) hreset hpage rfl
    (by simp [Directive.allowedIn, hmode]) (.inr hnone)⟩
  intro l win pend
  refine (State.act_directive_applied (d := .clean band) hreset hpage rfl (by simp [Directive.allowedIn, hmode])
    (.inr hnone)).trans (congrArg (fun x : Part => Host.Outcome.next (State.mk (x.windowTaken tag) q)) ?_)
  rw [Part.applyDirective, Part.dirClean]
  have hreq : (({ p with win.echo := encodeDirective num (.clean band) } : Part).mrg.req band.toNat).isSome = true ↔
      ∃ e ∈ p.mrg.reqs, e.band = l := Merge.req_isSome ..
  refine if_congr Iff.rfl rfl (if_congr Iff.rfl rfl (if_congr Iff.rfl rfl (if_congr hreq rfl (if_congr Iff.rfl rfl rfl))))

/-- Settles O24: FORMAT and RESTART by their tests in order, and the settings in force by whether they are loaded. -/
theorem formatAndRestartAreTaken : Obligations.FormatAndRestartAreTaken := by
  refine ⟨fun p q tag num hreset hpage hmode hnone => ?_, fun p q tag num hreset hpage hnone hlen => ?_, fun c => ?_⟩
  · intro s n r win busy held
    let e : Part := { p with win.echo := encodeDirective num (.format s r n) }
    have hformat : ∀ t : Part, e.dirFormat num s.toNat r.toNat n.toNat = t →
        exec (.format tag num s r n) ⟨p, q⟩ = .next ⟨t.windowTaken tag, q⟩ := by
      rintro t rfl
      exact State.act_directive_applied (d := .format s r n) hreset hpage rfl
        (by simpa [Directive.allowedIn] using hmode) (.inr hnone)
    have hbusy : (e.sys.mode = .active ∧ (e.ini.busy = true ∨ e.mrg.ctxs.any (·.st != .idle) = true)) ↔ busy := by
      simp [busy, e, Initiator.busy_iff]
    have hheld : (e.ret.entries.any fun e => e.fixed && e.mode == .hold) = true ↔ held := by
      simp [held, e]
    refine ⟨fun hb => hformat _ ?_, fun hb hh => hformat _ ?_, fun hb hh hdrive => hformat _ ?_, fun g hb hh hdrive => ?_⟩
    · rw [Part.dirFormat, if_pos (hbusy.mpr hb)]
      rfl
    · rw [Part.dirFormat, if_neg (mt hbusy.mp hb), if_pos (hheld.mpr hh)]
      rfl
    · have hlayout : e.formatLayout s.toNat r.toNat n.toNat = none := by simp [Part.formatLayout, e, hdrive]
      rw [Part.dirFormat, if_neg (mt hbusy.mp hb), if_neg (mt hheld.mp hh), hlayout]
      rfl
    · intro ok
      have hlayout := Part.formatLayout_eq (s := e) (g := g) hdrive s.toNat r.toNat n.toNat
      refine ⟨fun hok => hformat _ ?_, fun hok => hformat _ ?_⟩
      · rw [if_neg hok] at hlayout
        rw [Part.dirFormat, if_neg (mt hbusy.mp hb), if_neg (mt hheld.mp hh), hlayout]
        rfl
      · rw [if_pos hok] at hlayout
        rw [Part.dirFormat, if_neg (mt hbusy.mp hb), if_neg (mt hheld.mp hh), hlayout]
        rfl
  · intro mounted win
    let e : Part := { p with win := win }
    have hrestart : (p.sys.mode == .active || p.sys.mode == .degraded || p.sys.mode == .halted) = true → ∀ t : Part,
        e.dirRestart num = t → exec (.restart tag num) ⟨p, q⟩ = .next ⟨t.windowTaken tag, q⟩ := by
      rintro hmode t rfl
      exact State.act_directive_applied (d := .restart) hreset hpage rfl hmode (.inr hnone)
    have hctx := e.ctxBusy_iff
    refine ⟨fun hm hbusy => hrestart ?_ _ ?_, fun hidle => hrestart ?_ _ ?_⟩
    · rcases hm with h | h <;> simp [h]
    · have htest : e.mounted = true ∧
          (e.ini.busy = true ∨ (List.range e.mrg.ctxs.length).any e.ctxBusy = true) := by
        refine ⟨p.mounted_iff.mpr hm, ?_⟩
        rw [hctx, Initiator.busy_iff]
        rcases hbusy with h | ⟨h, hc⟩ | ⟨h, hc⟩
        · exact .inl h
        · exact .inr (by rw [if_neg (by simp [e, h])]; exact hc)
        · exact .inr (by rw [if_pos (by exact h)]; exact hc)
      rw [Part.dirRestart, if_pos htest]
      rfl
    · rcases hidle with h | ⟨h, -⟩ | ⟨h, -⟩ <;> simp [h]
    · have htest : ¬ (e.mounted = true ∧
          (e.ini.busy = true ∨ (List.range e.mrg.ctxs.length).any e.ctxBusy = true)) := by
        rintro ⟨hm, hbusy⟩
        have hm' : p.sys.mode = .active ∨ p.sys.mode = .degraded := p.mounted_iff.mp hm
        rw [hctx, Initiator.busy_iff] at hbusy
        rcases hidle with h | ⟨h, htags, hc⟩ | ⟨h, htags, hc⟩
        · simp [h] at hm'
        · rw [if_neg (by simp [e, h])] at hbusy
          obtain ⟨c, hmem, hne⟩ := hbusy.resolve_left (by simpa using htags)
          exact hne (hc c hmem)
        · rw [if_pos (by exact h)] at hbusy
          obtain ⟨c, hmem, hne⟩ := hbusy.resolve_left (by simpa using htags)
          obtain ⟨hreads, hunit, hcarry⟩ := hc c hmem
          rcases hne with hne | hne | ⟨x, hx, hne⟩
          · exact hne hreads
          · simp [hunit] at hne
          · exact hne (hcarry x hx)
      rw [Part.dirRestart, if_neg htest]
      rfl
  · refine ⟨fun h => ⟨by simp [Settings.timeoutInForce, h], by simp [Settings.dispInForce, h]⟩,
      fun h => ⟨by simp [Settings.timeoutInForce, h], by simp [Settings.dispInForce, h]⟩⟩

end Sys2Proof
end

section
/-! The accept queue (R133, R134), and referrals from their beginning to their release (R157 to R159, R165). -/

namespace Sys2Proof.Machine

/-! ### The id counter (R158) -/

theorem idAfter_ne_zero (x : Nat) : idAfter x ≠ 0 := by
  unfold idAfter
  split <;> omega

/-- Four steps of the counter do not bring it back. -/
theorem iterate_idAfter_ne (x : Nat) {j : Nat} (hone : 1 ≤ j) (hmax : j ≤ 4) : idAfter^[j] x ≠ x := by
  interval_cases j <;> simp only [Function.iterate_succ, Function.iterate_zero, Function.comp, id, idAfter] <;> grind

theorem iterate_idAfter_injOn (x : Nat) : Set.InjOn (fun j => idAfter^[j] x) (Set.Icc 0 4) := by
  have hlt : ∀ i j, i < j → j ≤ 4 → idAfter^[i] x ≠ idAfter^[j] x := fun i j hij hj he => by
    have hsplit : idAfter^[j] x = idAfter^[j - i] (idAfter^[i] x) := by
      rw [← Function.iterate_add_apply, Nat.sub_add_cancel hij.le]
    exact iterate_idAfter_ne (idAfter^[i] x) (j := j - i) (by omega) (by omega) (by rw [← hsplit, he])
  intro i hi j hj he
  obtain ⟨-, hi⟩ := hi
  obtain ⟨-, hj⟩ := hj
  rcases Nat.lt_trichotomy i j with h | h | h
  · exact absurd he (hlt i j h hj)
  · exact h
  · exact absurd he.symm (hlt j i h hi)

/-- The search passes held values and stops at one that is not, or at the end of its fuel. -/
theorem Referral.skipHeld_spec (r : Referral) (fuel x : Nat) : ∃ k ≤ fuel, r.skipHeld fuel x = idAfter^[k] x ∧
    (∀ j < k, ∃ e ∈ r.queue, e.id = idAfter^[j] x) ∧ (k < fuel → ∀ e ∈ r.queue, e.id ≠ idAfter^[k] x) := by
  induction fuel generalizing x with
  | zero => exact ⟨0, le_rfl, rfl, by simp, by simp⟩
  | succ fuel ih =>
    by_cases hheld : r.queue.any (·.id == x) = true
    · obtain ⟨k, hk, heq, hbefore, hfree⟩ := ih (idAfter x)
      refine ⟨k + 1, by omega, ?_, fun j hj => ?_, fun hlt => ?_⟩
      · rw [skipHeld, if_pos hheld, heq, Function.iterate_succ_apply]
      · cases j with
        | zero => simpa using hheld
        | succ j =>
          rw [Function.iterate_succ_apply]
          exact hbefore j (by omega)
      · rw [Function.iterate_succ_apply]
        exact hfree (by omega)
    · refine ⟨0, by omega, ?_, by simp, fun _ e he hid => hheld (List.any_eq_true.mpr ⟨e, he, by simpa using hid⟩)⟩
      rw [skipHeld, if_neg hheld]
      rfl

/-- The counter after a referral: the next value that no entry holds, at most 4 steps on (R157, R158). -/
theorem Referral.nextId_spec {r : Referral} {q : List ReferralEntry} {e : ReferralEntry}
    (hq : r.queue = q ++ [e]) (hroom : q.length < 4) :
    let n := r.skipHeld (Config.referralCapacity + 1) (idAfter e.id)
    n ≠ 0 ∧ n ≠ e.id ∧ (∀ x ∈ q, x.id ≠ n) ∧
      ∃ k, 1 ≤ k ∧ k ≤ 4 ∧ n = idAfter^[k] e.id ∧ ∀ j, 1 ≤ j → j < k → ∃ x ∈ q, x.id = idAfter^[j] e.id := by
  intro n
  obtain ⟨k, hk, heq, hbefore, hfree⟩ := r.skipHeld_spec (Config.referralCapacity + 1) (idAfter e.id)
  have hheld : ∀ j < k, j ≤ 3 → ∃ x ∈ q, x.id = idAfter^[j + 1] e.id := fun j hj hmax => by
    obtain ⟨x, hx, hid⟩ := hbefore j hj
    rw [← Function.iterate_succ_apply] at hid
    rcases List.mem_append.mp (hq ▸ hx) with hx | hx
    · exact ⟨x, hx, hid⟩
    · obtain rfl := List.mem_singleton.mp hx
      exact absurd hid.symm (iterate_idAfter_ne x.id (by omega) (by omega))
  have hfew : k ≤ 3 := by
    by_contra hmany
    have hnodup : ([1, 2, 3, 4].map fun j => idAfter^[j] e.id).Nodup :=
      List.Nodup.map_on (fun i hi j hj he => iterate_idAfter_injOn e.id
        (by simp at hi ⊢; omega) (by simp at hj ⊢; omega) he) (by decide)
    have hsub : ([1, 2, 3, 4].map fun j => idAfter^[j] e.id) ⊆ q.map (·.id) := by
      intro y hy
      obtain ⟨j, hj, rfl⟩ := List.mem_map.mp hy
      have hj' : 1 ≤ j ∧ j ≤ 4 := by simp at hj; omega
      obtain ⟨x, hx, hid⟩ := hheld (j - 1) (by omega) (by omega)
      rw [Nat.sub_add_cancel hj'.1] at hid
      exact List.mem_map.mpr ⟨x, hx, hid⟩
    have hlen := (hnodup.subperm hsub).length_le
    simp at hlen
    omega
  have hn : n = idAfter^[k + 1] e.id := by rw [Function.iterate_succ_apply, ← heq]
  have hnone := hfree (by simp [Config.referralCapacity]; omega)
  rw [← Function.iterate_succ_apply, ← hn] at hnone
  refine ⟨?_, fun he => hnone e (by simp [hq]) he.symm, fun x hx => hnone x (by simp [hq, hx]), k + 1, by omega,
    by omega, hn, fun j hj hlt => ?_⟩
  · rw [hn, Function.iterate_succ_apply']
    exact idAfter_ne_zero _
  · obtain ⟨x, hx, hid⟩ := hheld (j - 1) (by omega) (by omega)
    rw [Nat.sub_add_cancel hj] at hid
    exact ⟨x, hx, hid⟩

/-- The entry a referral makes of a tag's command (R157, R160). -/
def Part.referralOf (s : Part) (tag : Nat) (c : Cmd) : ReferralEntry :=
  { id := s.ref.nextId, tag := tag, cls := c.cls, lba := c.lba, count := c.count, opcode := c.opcode
    params := c.params, dir := c.dir, stage := .first, ticks := s.cfg.timeoutInForce }

/-- The search reads nothing of the entries but their ids. -/
theorem Referral.skipHeld_congr {r r' : Referral} (h : r.queue.map (·.id) = r'.queue.map (·.id)) (fuel x : Nat) :
    r.skipHeld fuel x = r'.skipHeld fuel x := by
  have hany : ∀ y, r.queue.any (·.id == y) = r'.queue.any (·.id == y) := fun y => by
    have := congrArg (List.any · (· == y)) h
    simpa [List.any_map, Function.comp_def] using this
  induction fuel generalizing x with
  | zero => rfl
  | succ fuel ih => simp only [skipHeld, hany, ih]

/-- The value of the id counter once its present value has been given to a command (R158). -/
def Referral.following (r : Referral) : Nat :=
  ({ r with queue := r.queue ++
      [{ id := r.nextId, tag := 0, cls := .flush, lba := 0, count := 0, opcode := 0, params := [], dir := .noData
         stage := .first, ticks := 0 }] } : Referral).skipHeld (Config.referralCapacity + 1) (idAfter r.nextId)

/-- A referral begins (R157 to R159). -/
theorem Part.refer_of {s : Part} {tag : Nat} {c : Cmd} (hc : s.ini.at tag = some c) :
    s.refer tag = { s with
      ini.tags := s.ini.tags.set tag (some { c with st := .referred, refer := false })
      ref :=
        { queue := s.ref.queue ++ [s.referralOf tag c]
          nextId := s.ref.following
          expired := s.ref.expired.filter (· != s.ref.nextId) }
      win := s.win.raise .referralNew (some .referral)
        (if c.cls = .discard then some (c.lba / s.sys.layout.dataBlocks) else none) none
        (some s.ref.nextId) (some (clsNum c.cls)) } := by
  have hnext : ({ s.ref with
      queue := s.ref.queue ++ [s.referralOf tag c]
      expired := s.ref.expired.filter (· != s.ref.nextId) } : Referral).skipHeld (Config.referralCapacity + 1)
        (idAfter s.ref.nextId) = s.ref.following := Referral.skipHeld_congr (by simp [referralOf]) ..
  simp only [Part.refer, hc]
  rw [← hnext]
  rfl

/-! ### Reads of a READ taken from the queue (R19, R20) -/

theorem List.countP_pin {a : Pin} (segs : List Seg) :
    (segs.filterMap (·.pin)).count a = segs.countP (·.pin == some a) := by
  rw [List.count, List.countP_filterMap]
  refine List.countP_congr fun g _ => ?_
  cases g.pin <;> simp

/-- What a list of pins does: each record and each band gains as many readers as pins name it (R20). -/
theorem Part.foldl_pin (l : List Pin) (s : Part) : l.foldl Part.pin s = { s with
    bands.pool := s.bands.pool.mapIdx fun n x => { x with readers := x.readers + l.count (.band n) }
    log.table := s.log.table.map fun r => { r with readers := r.readers + l.count (.record r.seq) } } := by
  induction l generalizing s with
  | nil =>
    have hpool : s.bands.pool.mapIdx (fun _ x => x) = s.bands.pool := List.ext_getElem (by simp) (by simp)
    simp only [List.foldl_nil, List.count_nil, Nat.add_zero, List.map_id']
    rw [hpool]
  | cons a l ih =>
    rw [List.foldl_cons, ih]
    cases a with
    | record q =>
      have hbands : ∀ n : Nat, (Pin.record q :: l).count (.band n) = l.count (.band n) := fun n =>
        List.count_cons_of_ne (by simp)
      simp only [pin, onRec, List.map_map, hbands]
      congr 3
      funext r
      by_cases hr : r.seq = q
      · simp [Function.comp, hr, Nat.add_assoc, Nat.add_comm 1]
      · simp [Function.comp, hr, List.count_cons_of_ne (show Pin.record q ≠ Pin.record r.seq by simpa using Ne.symm hr)]
    | band n =>
      have hrecords : ∀ q : Nat, (Pin.band n :: l).count (.record q) = l.count (.record q) := fun q =>
        List.count_cons_of_ne (by simp)
      simp only [pin, onP, hrecords]
      congr 2
      refine List.ext_getElem (by simp) fun i hi hi' => ?_
      simp only [List.getElem_mapIdx, List.getElem_modify]
      by_cases hin : n = i
      · simp [hin, Nat.add_assoc, Nat.add_comm 1]
      · simp [hin, List.count_cons_of_ne (show Pin.band n ≠ Pin.band i by simpa using hin)]

/-- The drive reads of a READ, one for each segment that pins, under its number (R20, R138). -/
theorem segOffers_eq (cid k : Nat) (segs : List Seg) :
    segOffers cid k segs = ((segs.zipIdx k).filter (·.1.pin.isSome)).map fun g =>
      { cls := .b, work := .fgRead cid g.2, cmd := .read g.1.abs g.1.n, pin := g.1.pin } := by
  induction segs generalizing k with
  | nil => rfl
  | cons g segs ih =>
    rw [segOffers, ih, List.zipIdx_cons]
    cases hpin : g.pin <;> simp [hpin, readOffer]

/-! ### The accept queue (R134) -/

theorem Initiator.lt_length_of_at {i : Initiator} {t : Nat} {c : Cmd} (h : i.at t = some c) : t < i.tags.length := by
  by_contra hlt
  simp [Initiator.at, List.getD_eq_getElem?_getD, Nat.not_lt.mp hlt] at h

theorem Part.takeHead_waits {s : Part} {tag : Nat} {rest : List Nat} {c : Cmd} (ha : s.ini.accept = tag :: rest)
    (hc : s.ini.at tag = some c) (hk : s.canTake c = false) : s.serveAccept = s :=
  Part.repeatStep_none _ _ _ (by simp [Part.takeHead, ha, hc, hk])

/-- The head that can be taken is, and the rest of the queue is served on what that leaves (R134). -/
theorem Part.serveAccept_taken {s t : Part} {tag : Nat} {rest : List Nat} {c : Cmd} (ha : s.ini.accept = tag :: rest)
    (hc : s.ini.at tag = some c) (hk : s.canTake c = true) (ht : ({ s with ini.accept := rest } : Part).take tag = t)
    (hrest : t.ini.accept = rest) : s.serveAccept = t.serveAccept := by
  have hhead : s.takeHead = some t := ht ▸ s.takeHead_of tag rest c ha hc hk
  have hlen : s.ini.accept.length = rest.length + 1 := by rw [ha, List.length_cons]
  rw [Part.serveAccept, Part.serveAccept, hlen, Part.repeatStep_some _ _ _ _ hhead, hrest]

theorem Part.serveAccept_empty {s : Part} (h : s.ini.accept = []) : s.serveAccept = s := by
  rw [Part.serveAccept, h]
  rfl

theorem Part.takeOther_dataIn {s : Part} {t : Nat} {c : Cmd} (hc : s.ini.at t = some c) (hd : c.dir = .dataIn) :
    s.takeOther t = { s with
      ini.tags := s.ini.tags.set t (some { c with st := .working, parts := [.pending], frames := c.count })
      port.offers := s.port.offers ++
        [{ cls := .b, work := .forwarded c.cid, cmd := .forwarded c.opcode c.params c.dir c.count }] } := by
  have ht := Initiator.lt_length_of_at hc
  have hat : (s.putTag t (some { c with frames := c.count })).ini.at t = some { c with frames := c.count } :=
    Initiator.at_set_self _ _ _ ht
  have hother : s.takeOther t = (s.putTag t (some { c with frames := c.count })).forward t := by
    simp only [takeOther, hc, hd]
  rw [hother, Part.forward_of hat]
  simp [putTag, offer]

theorem Part.takeOther_dataOut {s : Part} {t : Nat} {c : Cmd} (hc : s.ini.at t = some c) (hd : c.dir = .dataOut) :
    s.takeOther t = s.startReceiving t := by
  simp only [takeOther, hc, hd]

/-- A READ whose segments are not all final: what stands ahead of its first read is sent (R138, R139). -/
theorem Part.takeRead_reads {s : Part} {t : Nat} {c : Cmd} {segs : List Seg} (hc : s.ini.at t = some c)
    (hsegs : (pieces s.sys.layout.dataBlocks c.lba c.count).flatMap s.resolve = segs)
    (hread : ∃ g ∈ segs, g.outcome = none) :
    let ahead := segs.takeWhile (·.outcome == some true)
    s.takeRead t = { s with
      ini.tags := s.ini.tags.set t
        (some { c with st := .working, frames := c.count, segs := segs, cursor := ahead.length })
      ini.sent := s.ini.sent ++ if ahead = [] then [] else [.data t (ahead.flatMap (·.data))]
      bands.pool := s.bands.pool.mapIdx fun n x =>
        { x with readers := x.readers + segs.countP (·.pin == some (.band n)) }
      log.table := s.log.table.map fun r =>
        { r with readers := r.readers + segs.countP (·.pin == some (.record r.seq)) }
      port.offers := s.port.offers ++ (segs.zipIdx.filter (·.1.pin.isSome)).map fun g =>
        { cls := .b, work := .fgRead c.cid g.2, cmd := .read g.1.abs g.1.n, pin := g.1.pin } } := by
  intro ahead
  have ht := Initiator.lt_length_of_at hc
  have hopen : ¬ segs.all (·.outcome.isSome) = true := by
    obtain ⟨g, hg, hnone⟩ := hread
    exact fun h => by simpa [hnone] using List.all_eq_true.mp h g hg
  have hsend : Cmd.sendable { c with st := .working, frames := c.count, segs := segs, cursor := 0 } = ahead := rfl
  have hresolved : s.resolved t c segs = { s with
      ini.tags := s.ini.tags.set t (some { c with st := .working, frames := c.count, segs := segs, cursor := 0 })
      bands.pool := s.bands.pool.mapIdx fun n x =>
        { x with readers := x.readers + segs.countP (·.pin == some (.band n)) }
      log.table := s.log.table.map fun r =>
        { r with readers := r.readers + segs.countP (·.pin == some (.record r.seq)) }
      port.offers := s.port.offers ++ (segs.zipIdx.filter (·.1.pin.isSome)).map fun g =>
        { cls := .b, work := .fgRead c.cid g.2, cmd := .read g.1.abs g.1.n, pin := g.1.pin } } := by
    simp only [resolved, Part.foldl_pin, List.countP_pin, segOffers_eq]
    rfl
  rw [takeRead_resolved hc hsegs, if_neg hopen]
  by_cases hahead : ahead = []
  · rw [advance_read (resolved_at c segs ht) (by rw [hsend, hahead]), hresolved]
    simp [hahead]
  · rw [advance_sends (resolved_at c segs ht) (by rwa [hsend]), hsend, hresolved]
    simp [hahead, putTag, send]

/-- A READ of no segment at all ends at once, with nothing sent ahead of its status. -/
theorem Part.takeRead_nothing {s : Part} {t : Nat} {c : Cmd} (hc : s.ini.at t = some c)
    (hsegs : (pieces s.sys.layout.dataBlocks c.lba c.count).flatMap s.resolve = []) :
    let u := s.takeRead t
    u = { s with ini := u.ini } ∧ u.ini.sent = s.ini.sent ++ [.status t .good] ∧ u.ini.at t = none ∧
      u.ini.accept = s.ini.accept ∧ u.ini.hold = s.ini.hold := by
  intro u
  have ht := Initiator.lt_length_of_at hc
  have hu : u = (s.resolved t c []).finish t .good := by
    simp only [u]
    rw [takeRead_resolved hc hsegs, advance_read (resolved_at c [] ht) rfl]
    rfl
  have hini : u.ini = (s.resolved t c []).ini.finish t .good := congrArg Part.ini hu
  rw [resolved_ini] at hini
  refine ⟨?_, by rw [hini, Initiator.finish_sent], by rw [hini, Initiator.finish_at_self],
    by rw [hini, Initiator.finish_accept], by rw [hini, Initiator.finish_hold]⟩
  rw [hu]
  simp [resolved, finish, putTag, offerAll, segOffers]

end Sys2Proof.Machine

namespace Sys2Proof

open Sys2Proof.Machine

/-- Settles O15, by the class of the command at the head. -/
theorem acceptQueueServesItsHead : Obligations.AcceptQueueServesItsHead := by
  intro p q hreset
  refine ⟨fun hempty => ?_, ?_⟩
  · rw [exec_acceptQueueTake, State.act_awake _ hreset, Part.serveAccept_empty hempty]
  intro tag c rest haccept hc waits takenAs holding
  have ht := Initiator.lt_length_of_at hc
  have hwaits : p.canTake c = false → waits := fun hk => by
    simp only [waits]
    rw [exec_acceptQueueTake, State.act_awake _ hreset, Part.takeHead_waits haccept hc hk]
  have htaken : ∀ t : Part, p.canTake c = true → ({ p with ini.accept := rest } : Part).take tag = t →
      t.ini.accept = rest → t.sys = p.sys → takenAs t := fun t hk htake hrest hsys => by
    have hserve := Part.serveAccept_taken haccept hc hk htake hrest
    have hreset' : t.sys.inReset = false := by rw [hsys, hreset]
    simp only [takenAs, exec_acceptQueueTake]
    rw [State.act_awake _ hreset, State.act_awake _ hreset', hserve]
    exact ⟨rfl, fun hnil => by rw [Part.serveAccept_empty (hrest.trans hnil)]⟩
  have hat : ({ p with ini.accept := rest } : Part).ini.at tag = some c := hc
  refine ⟨fun hrefer hcls => ?_, fun hrefer => ?_⟩
  · have hneed : c.need = c.count := by
      rcases hcls with h | h | ⟨h, hdir⟩ <;> simp [Cmd.need, h]
      exact fun h => absurd h hdir
    have hcan : p.canTake c = decide (c.count ≤ p.ini.freeFrames) := by
      simp [Part.canTake, hrefer, hneed]
    refine ⟨fun hshort => hwaits (by rw [hcan]; simpa using hshort), fun hroom => ?_⟩
    have hk : p.canTake c = true := by rw [hcan]; simpa using hroom
    refine ⟨fun hreceives => htaken _ hk ?_ rfl rfl, fun hother hdir => htaken _ hk ?_ rfl rfl, ?_⟩
    · have hreceive : ({ p with ini.accept := rest } : Part).take tag =
          ({ p with ini.accept := rest } : Part).startReceiving tag := by
        rcases hreceives with hwrite | ⟨hother, hdir⟩
        · exact Part.take_write hat hrefer hwrite
        · rw [Part.take_other hat hrefer hother, Part.takeOther_dataOut hat hdir]
      rw [hreceive, Part.startReceiving_of hat]
      rfl
    · rw [Part.take_other hat hrefer hother, Part.takeOther_dataIn hat hdir]
    · intro hread segs ahead sent
      have htake : ({ p with ini.accept := rest } : Part).take tag = ({ p with ini.accept := rest } : Part).takeRead tag :=
        Part.take_read hat hrefer hread
      refine ⟨fun hopen => htaken _ hk ?_ rfl rfl, fun hzero => ?_⟩
      · rw [htake, Part.takeRead_reads (segs := segs) hat rfl hopen]
      · by_cases hnil : segs = []
        · obtain ⟨hframe, hsent, hfree, hrest, hhold⟩ := Part.takeRead_nothing hat hnil
          refine ⟨_, htaken _ hk htake hrest (by rw [hframe]), ?_, hfree, hrest, hhold, hframe⟩
          rw [hsent]
          simp [sent, ahead, hnil]
        · obtain ⟨hframe, hsent, hfree, hrest, hhold⟩ := Part.takeRead_zeros (segs := segs) hat ht hnil rfl
            fun g hg => ⟨(hzero g hg).2, (hzero g hg).1⟩
          have hahead : ahead = segs := List.takeWhile_eq_self_iff.mpr fun g hg => by simp [(hzero g hg).1]
          refine ⟨_, htaken _ hk htake hrest (by rw [hframe]), ?_, hfree, hrest, hhold, hframe⟩
          rw [hsent]
          simp [sent, hahead, hnil]
  · have hcan : p.canTake c = decide (p.ref.queue.length < 4) := by
      rw [Part.canTake, if_pos hrefer]
      rfl
    refine ⟨fun hfull => hwaits (by rw [hcan]; simpa using hfull), fun hroom => ?_⟩
    obtain ⟨hzero, hself, hfree, -⟩ := Referral.nextId_spec (r := { p.ref with queue := p.ref.queue ++
      [{ id := p.ref.nextId, tag := 0, cls := .flush, lba := 0, count := 0, opcode := 0, params := [], dir := .noData
         stage := .first, ticks := 0 }] }) rfl hroom
    refine ⟨p.ref.following, hzero, hself, hfree, htaken _ (by rw [hcan]; simpa using hroom) ?_ rfl rfl⟩
    rw [Part.take_referred hat hrefer, Part.refer_of hat]
    rfl

end Sys2Proof
end

section
/-! Referrals: commands are referred at their arrival, and ANSWER RELEASE takes them (R158, R159, R165). -/

namespace Sys2Proof.Machine

/-! ### Arrival -/

/-- A command to be referred finds room (R134, R157). -/
theorem Part.acceptFrame_referred {s : Part} {c : Cmd} (hr : c.refer = true) (haccept : s.ini.accept = [])
    (hroom : s.ref.queue.length < 4) (htag : c.tag < s.ini.tags.length) :
    s.acceptFrame c = (s.accepted c).refer c.tag := by
  have hcan : ({ s with ini.nextCid := s.ini.nextCid + 1 } : Part).canTake { c with cid := s.ini.nextCid } = true := by
    rw [Part.canTake, if_pos hr]
    exact decide_eq_true hroom
  have hempty : ({ s with ini.nextCid := s.ini.nextCid + 1 } : Part).ini.accept.isEmpty = true := by simp [haccept]
  rw [acceptFrame, enqueue, hcan, hempty]
  simp only [Bool.not_true, Bool.or_self, Bool.and_false, Bool.false_eq_true, if_false]
  exact Part.take_referred (Part.accepted_at htag) hr

/-- What the arrival of a command to be referred leaves (R158, R159). -/
theorem Part.accepted_refer {s : Part} {c : Cmd} (htag : c.tag < s.ini.tags.length) :
    (s.accepted c).refer c.tag = { s with
      ini.nextCid := s.ini.nextCid + 1
      ini.tags := s.ini.tags.set c.tag (some { c with cid := s.ini.nextCid, st := .referred, refer := false })
      ref :=
        { queue := s.ref.queue ++ [s.referralOf c.tag c]
          nextId := s.ref.following
          expired := s.ref.expired.filter (· != s.ref.nextId) }
      win := s.win.raise .referralNew (some .referral)
        (if c.cls = .discard then some (c.lba / s.sys.layout.dataBlocks) else none) none
        (some s.ref.nextId) (some (clsNum c.cls)) } := by
  rw [Part.refer_of (Part.accepted_at htag)]
  simp [accepted, putTag, referralOf]

/-! ### Release -/

theorem Initiator.finish_of {i : Initiator} {t : Nat} {c : Cmd} (hc : i.at t = some c) (code : Code) :
    i.finish t code = { i with
      sent := i.sent ++ [.status t code]
      tags := (i.tags.set t none).map (Option.map fun d => { d with waits := d.waits.filter (· != c.cid) }) } := by
  have hat : ({ i with sent := i.sent ++ [InitOut.status t code] } : Initiator).at t = some c := hc
  simp only [Initiator.finish, hat]

/-- The status of a command does not depend on what its context has become. -/
theorem Initiator.finish_set {i : Initiator} {t : Nat} {c d : Cmd} (hc : i.at t = some c) (hcid : d.cid = c.cid)
    (code : Code) : ({ i with tags := i.tags.set t (some d) } : Initiator).finish t code = i.finish t code := by
  have hd := Initiator.at_set_self i t (some d) (Initiator.lt_length_of_at hc)
  rw [Initiator.finish_of hc, Initiator.finish_of hd, hcid]
  simp

/-- A command of no data changes nothing in the set a FLUSH would record (R140). -/
theorem Initiator.flushSet_replace {i : Initiator} {t : Nat} {c d : Cmd} (hc : i.at t = some c)
    (hcls : c.cls = .flush) (hcls' : d.cls = .flush) :
    ({ i with tags := i.tags.set t (some d) } : Initiator).flushSet = i.flushSet := by
  have hset : ∀ (l : List (Option Cmd)) (t : Nat), l.getD t none = some c →
      ((l.set t (some d)).filterMap id).filter (fun c : Cmd => c.cls == .write || c.cls == .discard) =
        (l.filterMap id).filter fun c : Cmd => c.cls == .write || c.cls == .discard := by
    intro l
    induction l with
    | nil => intro t h; rfl
    | cons a l ih =>
      intro t h
      cases t with
      | zero =>
        obtain rfl : a = some c := h
        simp [hcls, hcls']
      | succ t =>
        have := ih t h
        cases a <;> simp_all [List.filter_cons]
  exact congrArg (List.map Cmd.cid) (hset _ _ hc)

/-- A window WRITE counts among the commands a FLUSH waits for (R140; section 7.2). -/
theorem Part.flushSet_ne_nil {p : Part} {tag k : Nat} (hsound : p.commandsSound) (hpage : p.ini.windowPage tag = some k) :
    p.ini.flushSet ≠ [] := by
  cases hc : p.ini.at tag with
  | none => simp [Initiator.windowPage, hc] at hpage
  | some c =>
    have hwin : c.window = true := by
      by_contra hwin
      simp [Initiator.windowPage, hc, hwin] at hpage
    obtain ⟨-, -, hwrite, -⟩ := hsound.1 tag c hc
    have hmem : c ∈ p.ini.active := by
      have ht := Initiator.lt_length_of_at hc
      refine List.mem_filterMap.mpr ⟨some c, ?_, rfl⟩
      rw [← hc, Initiator.at, List.getD_eq_getElem _ _ ht]
      exact List.getElem_mem ht
    simp only [Initiator.flushSet, ne_eq, List.map_eq_nil_iff, List.filter_eq_nil_iff, not_forall]
    exact ⟨c, hmem, by simp [hwrite hwin]⟩

/-- A released command that needs no frame is taken at once (R134, R165). -/
theorem Part.release_needless {s : Part} {t : Nat} {c : Cmd} (hc : s.ini.at t = some c) (htag : c.tag = t)
    (hneed : c.need = 0) (hdiscard : ¬ (c.cls = .discard ∧ s.sys.mode ≠ .active)) :
    s.release t = (s.putTag t (some { c with refer := false, st := .working })).take t := by
  simp only [Part.release, hc, if_neg hdiscard]
  refine (Part.enqueue_taken s { c with refer := false } rfl (.inl hneed)).trans ?_
  rw [show ({ c with refer := false } : Cmd).tag = t from htag]

/-- A command that is not to be referred joins the queue where it needs frames that it cannot have at once (R134). -/
theorem Part.enqueue_eq (s : Part) {c : Cmd} (hr : c.refer = false) : s.enqueue c =
    if 0 < c.need ∧ (s.ini.accept ≠ [] ∨ s.ini.freeFrames < c.need) then
      { s.putTag c.tag (some { c with st := .waiting }) with ini.accept := s.ini.accept ++ [c.tag] }
    else (s.putTag c.tag (some { c with st := .working })).take c.tag := by
  refine if_congr ?_ rfl rfl
  simp [Part.canTake, hr]

/-- A released command that is no DISCARD (R134, R165). -/
theorem Part.release_queued {s : Part} {t : Nat} {c : Cmd} (hc : s.ini.at t = some c) (htag : c.tag = t)
    (hcls : c.cls ≠ .discard) : s.release t =
      if 0 < c.need ∧ (s.ini.accept ≠ [] ∨ s.ini.freeFrames < c.need) then
        { s.putTag t (some { c with refer := false, st := .waiting }) with ini.accept := s.ini.accept ++ [t] }
      else (s.putTag t (some { c with refer := false, st := .working })).take t := by
  subst htag
  simp only [Part.release, hc, hcls, false_and, if_false]
  exact s.enqueue_eq (c := { c with refer := false }) rfl

theorem Part.anyFaulted_one (s : Part) (l o n : Nat) :
    s.anyFaulted [(l, o, n)] = true ↔ (s.bands.lband l).st = .faulted := by
  simp [Part.anyFaulted]

/-- What a released DISCARD within one band comes to (R141). -/
theorem Part.settledOut_iff (s : Part) (l o n : Nat) : s.settledOut (l, o, n) = true ↔
    (if o = 0 ∧ n = s.sys.layout.dataBlocks then (s.bands.lband l).st = .empty else (s.bands.lband l).pf ≤ o) ∧
      s.idx.overlaps s.sys.layout.dataBlocks l o n = false ∧ (s.bands.lband l).unsettled = 0 ∧
      s.ini.hold.all (·.band != l) = true := by
  rw [settledOut_eq]
  by_cases hwhole : o = 0 ∧ n = s.sys.layout.dataBlocks
  · simp only [if_pos hwhole, Bool.and_eq_true, beq_iff_eq, Bool.not_eq_true']
    tauto
  · simp only [if_neg hwhole, Bool.and_eq_true, beq_iff_eq, Bool.not_eq_true', decide_eq_true_eq]
    tauto

/-- ANSWER RELEASE of a live id (R165). -/
theorem Part.dirAnswer_release {s : Part} {id : Nat} {e : ReferralEntry} (he : s.ref.find id = some e) (num : BitVec 32) :
    s.dirAnswer num id 2 0 0 [] =
      (({ s with ref.queue := s.ref.queue.filter (fun x => x.id != id) } : Part).release e.tag).respond num 10 .done [] := by
  have hid : e.id = id := Referral.find_id he
  have hne : ¬ (2 : Byte) = 1 := by decide
  rw [Part.dirAnswer, if_neg hne, if_pos rfl, he]
  simp only [Part.answerRelease, hid]
  rfl

end Sys2Proof.Machine

namespace Sys2Proof

open Sys2Proof.Machine

/-- The first half of O21: each class of command is referred in one way. -/
theorem commandsAreReferred (p : Part) (q : List Instr) (tag : Fin 32) (hreset : p.sys.inReset = false)
    (htags : p.ini.tags.length = 32) (hfree : p.ini.at tag = none) (haccept : p.ini.accept = [])
    (hroom : p.ref.queue.length < 4) :
    let created := fun (c : Cmd) (band : Option Nat) (cls : Nat) =>
      (.next ⟨{ p with
        ini.nextCid := p.ini.nextCid + 1
        ini.tags := p.ini.tags.set tag (some { c with cid := p.ini.nextCid, tag := tag, st := .referred })
        ref :=
          { queue := p.ref.queue ++
              [{ id := p.ref.nextId, tag := tag, cls := c.cls, lba := c.lba, count := c.count,
                 opcode := c.opcode, params := c.params, dir := c.dir, stage := .first,
                 ticks := p.cfg.timeoutInForce }]
            nextId := p.ref.following
            expired := p.ref.expired.filter (· != p.ref.nextId) }
        win := p.win.raise .referralNew (some .referral) band none (some p.ref.nextId) (some cls) }, q⟩ :
        Host.Outcome State Fault Refusal)
    ((p.sys.mode = .active ∨ p.sys.mode = .degraded) →
      (p.cfg.dispInForce.flush = .refer →
        exec (.flush tag) ⟨p, q⟩ = created { cid := 0, tag := 0, cls := .flush } none 4) ∧
      (p.cfg.dispInForce.identify = .refer →
        exec (.identify tag) ⟨p, q⟩ = created { cid := 0, tag := 0, cls := .identify } none 5) ∧
      ∀ (opcode dir : Byte) (params : List Byte) (count : BitVec 32) (x : Dir),
        p.cfg.dispInForce.other = .refer → params.length = 16 →
        (dir = 0 ∧ count = 0 ∧ x = .noData ∨ dir = 1 ∧ 1 ≤ count.toNat ∧ count.toNat ≤ 1024 ∧ x = .dataIn) →
        exec (.other tag opcode params dir count) ⟨p, q⟩ = created
          { cid := 0, tag := 0, cls := .other, opcode := opcode, params := params, dir := x,
            count := count.toNat } none 6) ∧
    (∀ (lba : BitVec 64) (count : BitVec 32), p.sys.mode = .active → p.cfg.dispInForce.discard = .refer →
      p.ret.entries.all (·.mode == .off) = true → 1 ≤ count.toNat →
      lba.toNat + count.toNat ≤
        (p.sys.layout.bands - p.sys.layout.spares) * (p.sys.layout.bandBlocks - 1) →
      exec (.discard tag lba count) ⟨p, q⟩ = created
        { cid := 0, tag := 0, cls := .discard, lba := lba.toNat, count := count.toNat }
        (some (lba.toNat / (p.sys.layout.bandBlocks - 1))) 3) := by
  intro created
  have htag : (tag : Nat) < p.ini.tags.length := htags.symm ▸ tag.isLt
  have hrefer : ∀ c : Cmd, c.tag = tag → c.refer = true → (Host.Outcome.next ⟨p.acceptFrame c, q⟩ :
      Host.Outcome State Fault Refusal) = created { c with cid := 0, tag := 0, st := .working, refer := false }
        (if c.cls = .discard then some (c.lba / p.sys.layout.dataBlocks) else none) (clsNum c.cls) := fun c hct hr => by
    rw [Part.acceptFrame_referred hr haccept hroom (hct ▸ htag), Part.accepted_refer (hct ▸ htag)]
    simp only [created, hct, Part.referralOf]
  refine ⟨fun hmode => ⟨fun hdisp => ?_, fun hdisp => ?_, fun opcode dir params count x hdisp hparams hdir => ?_⟩,
    fun lba count hmode hdisp hoff hone hend => ?_⟩
  · rw [exec_flush, State.act_awake _ hreset, Part.flushFrame, Part.tagged_free hfree, p.mounted_iff.mpr hmode, hdisp]
    exact hrefer { cid := 0, tag := tag, cls := .flush, refer := true } rfl rfl
  · rw [exec_identify, State.act_awake _ hreset, Part.identifyFrame, Part.tagged_free hfree, p.mounted_iff.mpr hmode, hdisp]
    exact hrefer { cid := 0, tag := tag, cls := .identify, refer := true } rfl rfl
  · have hother : otherDir dir count.toNat = some x ∧ x ≠ .dataOut := by
      rcases hdir with ⟨rfl, rfl, rfl⟩ | ⟨rfl, hone, hmax, rfl⟩
      · exact ⟨rfl, by decide⟩
      · exact ⟨otherDir_data (.inl rfl) hone hmax, by decide⟩
    rw [exec_other, State.act_awake _ hreset, Part.otherFrame, Part.tagged_free hfree, hother.1,
      p.mounted_iff.mpr hmode, hdisp, fit_of_length _ _ _ hparams]
    simp only [if_neg hother.2]
    exact hrefer { cid := 0, tag := tag, cls := .other, count := count.toNat, opcode := opcode, params := params, dir := x
                   refer := true } rfl rfl
  · have hpass := Part.rangeCheck_discard_active (a := lba.toNat) (n := count.toNat) hmode hone hend
    have hframe : p.discardFrame tag lba.toNat count.toNat =
        p.acceptFrame { cid := 0, tag := tag, cls := .discard, lba := lba.toNat, count := count.toNat, refer := true } := by
      rw [Part.discardFrame, Part.tagged_free hfree, hpass]
      simp only [hmode, hdisp]
      rw [if_neg (by decide), if_neg (by decide), Part.retention_off .discard _ hoff, hdisp]
      rfl
    rw [exec_discard, State.act_awake _ hreset]
    change Host.Outcome.next (State.mk (p.discardFrame tag lba.toNat count.toNat) q) = _
    rw [hframe]
    exact hrefer { cid := 0, tag := tag, cls := .discard, lba := lba.toNat, count := count.toNat, refer := true } rfl rfl

/-- Settles O21: a referral begins in one way, and its release takes the command as an arrival would. -/
theorem referralsBeginAndAreReleased : Obligations.ReferralsBeginAndAreReleased := by
  refine ⟨fun p q tag hreset htags hfree haccept hroom => ?_, ?_⟩
  · obtain ⟨hzero, hself, hnone, hsteps⟩ := Referral.nextId_spec (r := { p.ref with queue := p.ref.queue ++
      [{ id := p.ref.nextId, tag := 0, cls := .flush, lba := 0, count := 0, opcode := 0, params := [], dir := .noData
         stage := .first, ticks := 0 }] }) rfl hroom
    exact ⟨p.ref.following, hself, hnone, hzero, hsteps,
      commandsAreReferred p q tag hreset htags hfree haccept hroom⟩
  · intro p q tag num id e c hreset hpage hmode htags hsound hfind hc answered context ends runs
    obtain ⟨hctag, -⟩ := hsound.1 e.tag c hc
    let freed : Part := { p with
      win.echo := encodeDirective num (.answer id 2 0 0 [])
      ref.queue := p.ref.queue.filter (fun x => x.id != id.toNat) }
    have hfreed : freed.ini.at e.tag = some c := hc
    have hruns : runs = .next ⟨((freed.release e.tag).respond num 10 .done []).windowTaken tag, q⟩ := by
      refine (State.act_directive_applied (d := .answer id 2 0 0 []) hreset hpage rfl
        (by simpa [Directive.allowedIn] using hmode) (.inl rfl)).trans ?_
      rw [Part.applyDirective]
      exact congrArg (fun x : Part => Host.Outcome.next (State.mk (x.windowTaken tag) q)) <| Part.dirAnswer_release
        (s := { p with win.echo := encodeDirective num (.answer id 2 0 0 []) }) hfind num
    have hanswered : ∀ s : Part, freed.release e.tag =
        { s with
          win.echo := encodeDirective num (.answer id 2 0 0 [])
          ref.queue := p.ref.queue.filter (fun x => x.id != id.toNat) } → s.win = p.win → s.ref = p.ref →
        runs = answered s := fun s hs hwin href => by
      rw [hruns, hs]
      simp only [answered, Part.respond, hwin]
    let d : Cmd := { c with refer := false, st := .working }
    let placed : Part := freed.putTag e.tag (some d)
    have hat : placed.ini.at e.tag = some d := Initiator.at_set_self _ _ _ (Initiator.lt_length_of_at hc)
    have htaken : c.need = 0 → ¬ (c.cls = .discard ∧ p.sys.mode ≠ .active) →
        freed.release e.tag = placed.take e.tag := Part.release_needless hfreed hctag
    have hfinish : ∀ x : Code, placed.finish e.tag x = { freed with ini := p.ini.finish e.tag x } := fun x =>
      congrArg (fun i : Initiator => ({ freed with ini := i } : Part)) (Initiator.finish_set (d := d) hc rfl x)
    refine ⟨fun hcls hm => ?_, ?_, ?_, fun hcls => ?_, ?_⟩
    · refine hanswered { p with ini := p.ini.finish e.tag .readOnly } ?_ rfl rfl
      simp only [Part.release, hfreed]
      rw [if_pos ⟨hcls, hm⟩]
      rfl
    · intro hcls hm width l o b whole clear hone hend
      have hpieces : pieces placed.sys.layout.dataBlocks d.lba d.count = [(l, o, c.count)] := pieces_one _ _ _ hone hend
      have hdiscard : freed.release e.tag = _ :=
        ((htaken (by simp [Cmd.need, hcls]) fun h => h.2 hm).trans (Part.take_discard hat rfl hcls)).trans
          (Part.takeDiscard_of hat)
      rw [hpieces] at hdiscard
      have hfaulted : placed.anyFaulted [(l, o, c.count)] = true ↔ b.st = .faulted := placed.anyFaulted_one ..
      have hclear : placed.settledOut (l, o, c.count) = true ↔ clear := by
        rw [Part.settledOut_iff]
        simp only [clear, whole, decide_eq_true_eq]
        exact Iff.rfl
      refine ⟨fun hf => ?_, fun hf hout => ?_, fun hf hout => ?_⟩
      · refine hanswered { p with ini := p.ini.finish e.tag .mediumError } ?_ rfl rfl
        rw [hdiscard]
        simp only [if_pos (hfaulted.mpr hf), hfinish]
        rfl
      · refine hanswered { p with ini := p.ini.finish e.tag .good } ?_ rfl rfl
        rw [hdiscard]
        simp only [if_neg (mt hfaulted.mp hf), List.filter_cons, hclear.mpr hout, hfinish]
        rfl
      · refine hanswered _ ?_ rfl rfl
        have hrecord : placed.settledOut (l, o, c.count) = false := by
          rwa [← Bool.not_eq_true, hclear]
        rw [hdiscard]
        simp only [if_neg (mt hfaulted.mp hf), List.filter_cons, hrecord, List.filter_nil]
        simp [placed, freed, Part.putTag, context, d, Part.discardRecord, whole, width]
    · intro hcls set
      refine ⟨Part.flushSet_ne_nil hsound hpage, hanswered _ ?_ rfl rfl⟩
      have hset : placed.ini.flushSet = set := Initiator.flushSet_replace hc hcls hcls
      have hne : placed.ini.flushSet.isEmpty = false := by
        rw [List.isEmpty_eq_false_iff, hset]
        exact Part.flushSet_ne_nil hsound hpage
      rw [htaken (by simp [Cmd.need, hcls]) (by simp [hcls]), Part.take_flush hat rfl hcls]
      simp only [Part.takeFlush, hat, hne]
      rw [if_neg Bool.false_ne_true, hset]
      simp [placed, freed, Part.putTag, context, d]
    · refine hanswered { p with ini := ({ p.ini with sent := p.ini.sent ++
        [.data e.tag [toBlock p.capabilityBytes]] } : Initiator).finish e.tag .good } ?_ rfl rfl
      rw [htaken (by simp [Cmd.need, hcls]) (by simp [hcls]), Part.take_identify hat rfl hcls]
      exact congrArg (fun i : Initiator => ({ freed with ini := i } : Part)) <| Initiator.finish_set
        (i := { p.ini with sent := p.ini.sent ++ [.data e.tag [toBlock p.capabilityBytes]] }) (d := d) hc rfl .good
    · intro hcls hdir n waits
      have hneed : c.need = n := by simp [Cmd.need, hcls, n]
      have hrelease := Part.release_queued hfreed hctag (by simp [hcls])
      rw [hneed] at hrelease
      refine ⟨fun hw => hanswered _ ?_ rfl rfl, fun hw => hanswered _ ?_ rfl rfl⟩
      · rw [hrelease, if_pos (by exact hw)]
        rfl
      · rw [hrelease, if_neg (by exact hw)]
        refine (Part.take_other (s := placed) hat rfl hcls).trans ?_
        cases hd : c.dir with
        | noData =>
          rw [Part.takeOther_noData hat hd, Part.forward_of hat]
          simp [placed, freed, Part.putTag, Part.offer, context, d, hd]
        | dataIn =>
          rw [Part.takeOther_dataIn hat hd]
          simp [placed, freed, Part.putTag, context, d, hd]
        | dataOut => exact absurd hd hdir

end Sys2Proof
end

section
/-! Settlement (R24, R50 to R52, R63, R71, R72, R99, R102): what each of its operations writes, and that of one
record behind which nothing settles. -/

namespace Sys2Proof.Machine

/-! ### Tables read back -/

theorem Part.onL_lband_self {s : Part} {l : Nat} {f : LBand → LBand} (h : l < s.bands.lbt.length) :
    (s.onL l f).bands.lband l = f (s.bands.lband l) := by
  simp [Part.onL, Bands.lband, h]

theorem Part.onP_pband_self {s : Part} {n : Nat} {f : PBand → PBand} (h : n < s.bands.pool.length) :
    (s.onP n f).bands.pband n = f (s.bands.pband n) := by
  simp [Part.onP, Bands.pband, h]

theorem Part.onP_pband_ne {s : Part} {n m : Nat} {f : PBand → PBand} (h : n ≠ m) :
    (s.onP n f).bands.pband m = s.bands.pband m := by
  simp [Part.onP, Bands.pband, List.getD_eq_getElem?_getD, h]

theorem Part.onCtx_ctx_self {s : Part} {i : Nat} {f : MergeCtx → MergeCtx} (h : i < s.mrg.ctxs.length) :
    (s.onCtx i f).mrg.ctx i = f (s.mrg.ctx i) := by
  simp [Part.onCtx, Merge.ctx, h]

/-- Changes of records that leave their seqs are seen by the look-up. -/
theorem Log.find_map {l k : Log} {f : Rec → Rec} (h : k.table = l.table.map f) (hf : ∀ r, (f r).seq = r.seq)
    (q : Nat) : k.find q = (l.find q).map f := by
  simp only [Log.find, h, List.find?_map, Function.comp_def, hf]

theorem Log.find_seq {l : Log} {q : Nat} {r : Rec} (h : l.find q = some r) : r.seq = q := by
  simpa using List.find?_some h

/-! ### Live counts -/

/-- The blocks that a list of losses names for a record (R72). -/
def blocksLost (ls : List (Nat × Nat)) (q : Nat) : Nat := ((ls.filter (·.1 == q)).map (·.2)).sum

theorem blocksLost_cons (a : Nat × Nat) (ls : List (Nat × Nat)) (q : Nat) :
    blocksLost (a :: ls) q = (if a.1 = q then a.2 else 0) + blocksLost ls q := by
  by_cases h : a.1 = q <;> simp [blocksLost, h]

/-- The live count of a record falls. -/
def Rec.lose (r : Rec) (n : Nat) : Rec := { r with live := r.live - n }

theorem Rec.lose_cons (r : Rec) (a : Nat × Nat) (ls : List (Nat × Nat)) :
    (if r.seq = a.1 then { r with live := r.live - a.2 } else r).lose
      (blocksLost ls (if r.seq = a.1 then { r with live := r.live - a.2 } else r).seq) =
    r.lose (blocksLost (a :: ls) r.seq) := by
  rw [blocksLost_cons]
  by_cases h : r.seq = a.1
  · rw [if_pos h, if_pos h.symm]
    simp [Rec.lose, Nat.sub_sub]
  · rw [if_neg h, if_neg (Ne.symm h), Nat.zero_add]

/-- A record loses all the blocks that a list of losses names for it (R72). -/
theorem Part.loseBlocks_eq (s : Part) (ls : List (Nat × Nat)) :
    s.loseBlocks ls = { s with log.table := s.log.table.map fun r => r.lose (blocksLost ls r.seq) } := by
  induction ls generalizing s with
  | nil => simp [Part.loseBlocks, blocksLost, Rec.lose]
  | cons a ls ih =>
    refine (ih _).trans ?_
    simp only [Part.onRec, List.map_map, Function.comp_def, Rec.lose_cons]

/-- An extent that an insertion does not meet loses nothing to it (R71). -/
theorem Extent.lost_of_not_meets {e : Extent} {a b : Nat} (h : e.meets a b = false) : e.lost a b = 0 := by
  simp only [Extent.meets, decide_eq_false_iff_not] at h
  unfold Extent.lost
  omega

/-- The blocks that the extents of a record lose to an insertion (R72). -/
def lostTo (es : List Extent) (a b q : Nat) : Nat := ((es.filter (·.seq == q)).map (·.lost a b)).sum

/-- The blocks of the extents of a record that are removed (R74, R75). -/
def lengthsOf (es : List Extent) (gone : Extent → Bool) (q : Nat) : Nat :=
  ((es.filter fun e => decide (e.seq = q ∧ gone e = true)).map (·.len)).sum

theorem sum_losses (es : List Extent) (a b q : Nat) :
    blocksLost ((es.filter (·.meets a b)).map fun e => (e.seq, e.lost a b)) q = lostTo es a b q := by
  induction es with
  | nil => rfl
  | cons e es ih =>
    unfold lostTo blocksLost at *
    by_cases hm : e.meets a b = true <;> by_cases hq : e.seq = q <;>
      simp_all [Extent.lost_of_not_meets]

theorem sum_removed (es : List Extent) (gone : Extent → Bool) (q : Nat) :
    blocksLost ((es.filter gone).map fun e => (e.seq, e.len)) q = lengthsOf es gone q := by
  induction es with
  | nil => rfl
  | cons e es ih =>
    unfold lengthsOf blocksLost at *
    by_cases hg : gone e = true <;> by_cases hq : e.seq = q <;> simp_all

/-- The live count of a record after the insertion of `x` into `es` (R72). -/
def Rec.inserted (r : Rec) (es : List Extent) (x : Extent) : Rec :=
  if r.seq = x.seq then { r with live := x.len } else r.lose (lostTo es x.start x.stop r.seq)

/-- What an insertion writes (R71, R72). -/
theorem Part.insertExtent_eq (s : Part) (x : Extent) :
    s.insertExtent x = { s with
      idx.extents := insertExtents s.idx.extents x
      log.table := s.log.table.map (·.inserted s.idx.extents x) } := by
  have hrec : ∀ (r : Rec) n, (if (r.lose n).seq = x.seq then { r.lose n with live := x.len } else r.lose n) =
      if r.seq = x.seq then { r with live := x.len } else r.lose n := fun _ _ => rfl
  simp only [Part.insertExtent, Part.loseBlocks_eq, sum_losses, Part.onRec, List.map_map, Function.comp_def, hrec]
  rfl

/-- What a removal writes (R72, R74, R75). -/
theorem Part.removeExtents_eq (s : Part) (gone : Extent → Bool) :
    s.removeExtents gone = { s with
      idx.extents := s.idx.extents.filter fun e => !gone e
      log.table := s.log.table.map fun r => r.lose (lengthsOf s.idx.extents gone r.seq) } := by
  simp only [Part.removeExtents, Part.loseBlocks_eq, sum_removed]

/-! ### The merge request list -/

/-- The second part differs from the first in the request list and the window alone. -/
def Part.Asks (s t : Part) : Prop :=
  ∃ rs again w, t = { s with mrg := { s.mrg with reqs := rs, rescan := again }, win := w }

theorem Part.Asks.refl (s : Part) : s.Asks s := ⟨_, _, _, rfl⟩

theorem Part.Asks.trans {s t u : Part} (h : s.Asks t) (h' : t.Asks u) : s.Asks u := by
  obtain ⟨rs, b, w, rfl⟩ := h
  obtain ⟨rs', b', w', rfl⟩ := h'
  exact ⟨rs', b', w', rfl⟩

theorem Part.asks_finishClean (s : Part) (l r) : s.Asks (s.finishClean l r) := by
  unfold Part.finishClean
  split
  · exact ⟨_, _, _, rfl⟩
  · exact .refl s

/-- An urgent offer changes the list and the answers alone (R87). -/
theorem Part.asks_offerUrgent (s : Part) (l : Nat) : s.Asks (s.offerUrgent l) := by
  unfold Part.offerUrgent
  split
  · split
    · exact .refl s
    · exact ⟨_, _, _, rfl⟩
  · dsimp only
    split
    · exact ⟨_, _, _, rfl⟩
    · split
      · split
        · exact ⟨_, _, _, rfl⟩
        · split
          · exact Part.Asks.trans ⟨_, _, _, rfl⟩ (Part.asks_finishClean _ _ _)
          · exact ⟨_, _, _, rfl⟩
      · exact .refl s

theorem Part.asks_offerLimit (s : Part) (l : Nat) : s.Asks (s.offerLimit l) := by
  unfold Part.offerLimit
  split
  · exact s.asks_offerUrgent l
  · exact .refl s

/-- What the settlement of a record with an extent writes (R71, R73). -/
theorem Part.asks_settleExtent (s : Part) (r : Rec) (l : Nat) :
    (s.insertExtent (r.extent s.sys.layout.dataBlocks l)).Asks (s.settleExtent r l) := by
  unfold Part.settleExtent
  dsimp only
  split
  · exact Part.asks_offerLimit _ l
  · exact .refl _

/-! ### One record settles -/

/-- The seqs of the records with their states. -/
def Log.states (l : Log) : List (Nat × RecState) := l.table.map fun x => (x.seq, x.st)

/-- The states with that of one record changed. -/
def Log.settledStates (l : Log) (q : Nat) : List (Nat × RecState) :=
  l.table.map fun x => (x.seq, if x.seq = q then .settled else x.st)

theorem Log.find_st (l : Log) (q : Nat) : (l.find q).map (·.st) = (l.states.find? (·.1 == q)).map (·.2) := by
  simp [Log.find, Log.states, List.find?_map, Function.comp_def]

theorem Log.settledStates_other (l : Log) {q p : Nat} (h : q ≠ p) :
    ((l.settledStates q).find? (·.1 == p)).map (·.2) = (l.find p).map (·.st) := by
  rw [Log.settledStates, Log.find, List.find?_map, Option.map_map]
  refine Option.map_congr fun x hx => ?_
  have hp : x.seq = p := by simpa using List.find?_some hx
  simp [hp, Ne.symm h]

/-- A record's mark, and the settled seq that follows it (R50). -/
def Part.marked (s : Part) (q : Nat) : Part :=
  { s.onRec q (fun r => { r with st := .settled }) with log.settled := s.log.settled + 1 }

/-- What the settlement of a record does, void or not (R51). -/
def Part.settleRec (s : Part) (r : Rec) : Part :=
  if r.void then (s.marked r.seq).settleVoid r else (s.marked r.seq).settleEffect r

/-- SETTLEMENT of one record, where the record behind it is not COMPLETED (R50). -/
theorem Part.settle_one {s : Part} {r : Rec} (hfind : s.log.find (s.log.settled + 1) = some r)
    (hseq : r.seq = s.log.settled + 1) (hst : r.st = .completed)
    (hnext : ∀ x, s.log.find (s.log.settled + 2) = some x → x.st ≠ .completed)
    (hset : (s.settleRec r).log.settled = s.log.settled + 1)
    (hstates : (s.settleRec r).log.states = s.log.settledStates r.seq) : s.settle = s.settleRec r := by
  have hone : Part.settleOne s = some (s.settleRec r) := by
    simp only [Part.settleOne, hfind, if_pos hst]
    rfl
  have hstop : Part.settleOne (s.settleRec r) = none := by
    have hst2 : ((s.settleRec r).log.find (s.log.settled + 1 + 1)).map (·.st) =
        (s.log.find (s.log.settled + 2)).map (·.st) := by
      rw [Log.find_st, hstates]
      exact s.log.settledStates_other (by omega)
    unfold Part.settleOne
    rw [hset]
    split
    · rfl
    next x hx =>
      refine if_neg fun hx' => ?_
      rw [hx, Option.map_some, hx'] at hst2
      obtain ⟨y, hy, hy'⟩ := Option.map_eq_some_iff.mp hst2.symm
      exact hnext y hy hy'
  obtain ⟨n, hn⟩ : ∃ n, s.log.table.length = n + 1 :=
    ⟨s.log.table.length - 1, (Nat.succ_pred_eq_of_pos (List.length_pos_of_mem (List.mem_of_find?_eq_some hfind))).symm⟩
  rw [Part.settle, hn, Part.repeatStep_some _ _ _ _ hone]
  cases n with
  | zero => rfl
  | succ n => exact Part.repeatStep_none _ _ _ hstop

/-- The states follow where the records are changed one by one, their seqs and, but for that of the settled one,
their states kept. -/
theorem Log.states_of_map {l k : Log} {q : Nat} {g : Rec → Rec} (h : k.table = l.table.map g)
    (hseq : ∀ x, (g x).seq = x.seq) (hst : ∀ x, (g x).st = if x.seq = q then .settled else x.st) :
    k.states = l.settledStates q := by
  simp [Log.states, Log.settledStates, h, Function.comp_def, hseq, hst]

/-- The counts that a settling record of a command lowers (R24, R51, R70). -/
theorem Part.settleCounts_cmd {s : Part} {r : Rec} {l cid part : Nat} (ho : r.origin = .cmd cid part)
    (hb : r.band = some l) :
    s.settleCounts r = { s with
      idx.reserved := s.idx.reserved - (if r.reserve then 2 else 0)
      bands.lbt := s.bands.lbt.modify l fun b =>
        { b with unsettled := b.unsettled - 1, reserved := b.reserved - (if r.reserve then 2 else 0) } } := by
  simp only [Part.settleCounts, ho, hb]
  cases r.reserve
  · rfl
  · simp [Part.releaseIndex, Part.onL, List.modify_modify_eq, Function.comp_def]

theorem Part.settleCounts_other {s : Part} {r : Rec} (ho : ∀ cid part, r.origin ≠ .cmd cid part) :
    s.settleCounts r = s := by
  unfold Part.settleCounts
  split
  next cid part l hc _ => exact absurd hc (ho cid part)
  · rfl

/-- A record settles with an extent, of its own blocks (R51, R71). -/
def Rec.hasExtent (r : Rec) : Prop := r.kind = .data ∨ r.kind = .discard ∧ r.full = false

/-- A record of the table as the settlement of `q` leaves its state (R50). -/
def Rec.settledAs (x : Rec) (q : Nat) : Rec := if x.seq = q then { x with st := .settled } else x

/-- What the settlement of a command's record with an extent writes (R24, R51, R71, R72). -/
theorem Part.settleRec_extent {s : Part} {r : Rec} {l cid part : Nat} (hv : r.void = false) (hk : r.hasExtent)
    (hb : r.band = some l) (ho : r.origin = .cmd cid part) :
    ∃ m w pressure, s.settleRec r = { s with
      log := { s.log with
        settled := s.log.settled + 1
        table := s.log.table.map fun x =>
          (x.settledAs r.seq).inserted s.idx.extents (r.extent s.sys.layout.dataBlocks l) }
      idx :=
        { extents := insertExtents s.idx.extents (r.extent s.sys.layout.dataBlocks l)
          reserved := s.idx.reserved - (if r.reserve then 2 else 0), pressure := pressure }
      bands.lbt := s.bands.lbt.modify l fun b =>
        { b with unsettled := b.unsettled - 1, reserved := b.reserved - (if r.reserve then 2 else 0) }
      ini := (s.partFinal cid part .done).ini, mrg := m, win := w } := by
  have heffect : ∀ t : Part, t.settleEffect r =
      (((t.settleCounts r).settleExtent r l).evalPressure).partFinal cid part .done := by
    intro t
    rcases hk with hk | ⟨hk, hf⟩
    · simp only [Part.settleEffect, hk, ho, hb]
    · simp only [Part.settleEffect, hk, ho, hb, hf]
      rfl
  obtain ⟨rs, again, w, hset⟩ := ((s.marked r.seq).settleCounts r).asks_settleExtent r l
  refine ⟨{ s.mrg with reqs := rs, rescan := again }, (s.settleRec r).win, (s.settleRec r).idx.pressure, ?_⟩
  rw [Part.settleRec, hv, if_neg Bool.false_ne_true, heffect, hset, Part.insertExtent_eq, Part.settleCounts_cmd ho hb]
  simp only [Part.marked, Part.onRec, List.map_map, Function.comp_def]
  rfl

theorem Rec.settledAs_seq (x : Rec) (q : Nat) : (x.settledAs q).seq = x.seq := by
  unfold Rec.settledAs
  split <;> rfl

theorem Rec.inserted_seq (x : Rec) (es : List Extent) (e : Extent) : (x.inserted es e).seq = x.seq := by
  unfold Rec.inserted
  split <;> rfl

theorem Rec.inserted_st (x : Rec) (es : List Extent) (e : Extent) : (x.inserted es e).st = x.st := by
  unfold Rec.inserted
  split <;> rfl

theorem Rec.settledAs_st (x : Rec) (q : Nat) : (x.settledAs q).st = if x.seq = q then .settled else x.st := by
  unfold Rec.settledAs
  split <;> rfl

/-- The records other than the settled one, of a table changed record by record. -/
theorem filter_others_map (t : List Rec) (q : Nat) {g h : Rec → Rec} (hseq : ∀ x, (g x).seq = x.seq)
    (hgh : ∀ x, x.seq ≠ q → g x = h x) :
    (t.map g).filter (·.seq != q) = (t.filter (·.seq != q)).map h := by
  rw [List.filter_map]
  simp only [Function.comp_def, hseq]
  refine List.map_congr_left fun x hx => hgh x ?_
  simpa using (List.mem_filter.mp hx).2

/-- The record that settled with an extent (R50, R72). -/
theorem Log.find_extent {l k : Log} {r : Rec} {es : List Extent} {d b : Nat}
    (h : k.table = l.table.map fun x => (x.settledAs r.seq).inserted es (r.extent d b))
    (hfind : l.find r.seq = some r) : k.find r.seq = some { r with st := .settled, live := r.n } := by
  rw [Log.find_map h fun x => by rw [Rec.inserted_seq, Rec.settledAs_seq], hfind]
  simp [Rec.settledAs, Rec.inserted, Rec.extent]

/-- The records other than the one that settled with an extent (R72). -/
theorem Log.others_extent {l k : Log} {r : Rec} {es : List Extent} {d b : Nat}
    (h : k.table = l.table.map fun x => (x.settledAs r.seq).inserted es (r.extent d b)) :
    k.table.filter (·.seq != r.seq) = (l.table.filter (·.seq != r.seq)).map fun x =>
      x.lose (lostTo es (b * d + r.off) (b * d + r.off + r.n) x.seq) := by
  rw [h]
  refine filter_others_map _ _ (fun x => by rw [Rec.inserted_seq, Rec.settledAs_seq]) fun x hx => ?_
  simp [Rec.settledAs, hx, Rec.inserted, Rec.extent, Extent.stop]

end Sys2Proof.Machine
end


namespace Sys2Proof
open Sys2Proof.Machine

/-- Settles O32, by what the settlement of a record with an extent writes, nothing settling behind it. -/
theorem settlementPutsTheExtentInTheIndex : Obligations.SettlementPutsTheExtentInTheIndex := by
  intro p q r l cid part tag c hreset hfind hseq hst hvoid hkind hband horigin hreserve hl hnext hat hcid
  obtain ⟨m, w, pressure, hrec⟩ := Part.settleRec_extent (s := p) hvoid (.inl hkind) hband horigin
  have hlog := congrArg (fun x : Part => x.log.table) hrec
  have hset : (p.settleRec r).log.settled = p.log.settled + 1 := by rw [hrec]
  have htable : (p.settleRec r).log.states = p.log.settledStates r.seq :=
    Log.states_of_map (l := p.log) (by rw [hrec]) (by simp [Rec.inserted_seq, Rec.settledAs_seq])
      (by simp [Rec.inserted_st, Rec.settledAs_st])
  have hx : r.extent p.sys.layout.dataBlocks l =
      { start := l * (p.sys.layout.bandBlocks - 1) + r.off, len := r.n, kind := .data, seq := r.seq,
        lp := r.pos + 1 } := by
    simp [Rec.extent, hkind]
  refine ⟨p.settleRec r, ?_, ?_⟩
  · rw [exec_settlement, State.act_awake _ hreset]
    exact congrArg (fun x : Part => Host.Outcome.next (State.mk x q))
      (Part.settle_one hfind hseq hst hnext hset htable)
  · rw [hrec] at hlog ⊢
    rw [← hx]
    refine ⟨rfl, rfl, rfl, rfl, by simp [hreserve], ?_, ?_, ?_, rfl, ?_, ?_, ?_, rfl, rfl, rfl, rfl, rfl, rfl, rfl, rfl⟩
    · simp [Bands.lband, hl]
    · simp [Bands.lband, hl, hreserve]
    · simp [Bands.lband, hl]
    · exact Log.find_extent (l := p.log) hlog (hseq ▸ hfind)
    · exact Log.others_extent (l := p.log) hlog
    · have h := Initiator.at_map p.ini (fun c => if c.cid = cid then c.setPart part .done else c) tag
      refine h.trans ?_
      simp [hat, hcid]
end Sys2Proof

section
/-! The endings of a merge (R93, R99, R100, R102, R104, R113): what each of their operations writes. -/

namespace Sys2Proof.Machine

/-! ### Readers -/

/-- What the release of a list of pins does: each record and each band loses as many readers as pins name it (R20). -/
theorem Part.foldl_unpin (l : List Pin) (s : Part) : l.foldl Part.unpin s = { s with
    bands.pool := s.bands.pool.mapIdx fun n x => { x with readers := x.readers - l.count (.band n) }
    log.table := s.log.table.map fun r => { r with readers := r.readers - l.count (.record r.seq) } } := by
  induction l generalizing s with
  | nil =>
    have hpool : s.bands.pool.mapIdx (fun _ x => x) = s.bands.pool := List.ext_getElem (by simp) (by simp)
    simp only [List.foldl_nil, List.count_nil, Nat.sub_zero, List.map_id']
    rw [hpool]
  | cons a l ih =>
    rw [List.foldl_cons, ih]
    cases a with
    | record q =>
      have hbands : ∀ n : Nat, (Pin.record q :: l).count (.band n) = l.count (.band n) := fun n =>
        List.count_cons_of_ne (by simp)
      simp only [unpin, onRec, List.map_map, hbands]
      congr 3
      funext r
      by_cases hr : r.seq = q
      · simp [Function.comp, hr, Nat.sub_sub, Nat.add_comm]
      · simp [Function.comp, hr, List.count_cons_of_ne (show Pin.record q ≠ Pin.record r.seq by simpa using Ne.symm hr)]
    | band n =>
      have hrecords : ∀ q : Nat, (Pin.band n :: l).count (.record q) = l.count (.record q) := fun q =>
        List.count_cons_of_ne (by simp)
      simp only [unpin, onP, hrecords]
      congr 2
      refine List.ext_getElem (by simp) fun j hj _ => ?_
      by_cases hn : n = j
      · simp [hn, Nat.sub_sub, Nat.add_comm]
      · simp [hn]

theorem Part.foldl_unpinOffers (os : List Offer) (s : Part) :
    os.foldl (fun s o => s.unpinOpt o.pin) s = (os.filterMap (·.pin)).foldl Part.unpin s := by
  induction os generalizing s with
  | nil => rfl
  | cons o os ih =>
    rw [List.foldl_cons, ih]
    cases h : o.pin with
    | none => rw [List.filterMap_cons_none h]; rfl
    | some a => rw [List.filterMap_cons_some h]; rfl

/-- The offers of a merge's work that were never granted (R113). -/
def Part.mergeOffers (s : Part) (i : Nat) : List Offer := s.port.ungranted (Work.ofMerge i)

/-- The readers that the withdrawal of a merge's offers leaves a band. -/
def PBand.released (x : PBand) (os : List Offer) (n : Nat) : PBand :=
  { x with readers := x.readers - os.countP (·.pin == some (.band n)) }

/-- The readers that the withdrawal of a merge's offers and the release of its snapshot leave a record. -/
def Rec.released (r : Rec) (os : List Offer) (pins : List Nat) : Rec :=
  { r with readers := r.readers - os.countP (·.pin == some (.record r.seq)) - pins.count r.seq }

theorem countP_offerPin {a : Pin} (os : List Offer) :
    (os.filterMap (·.pin)).count a = os.countP (·.pin == some a) := by
  rw [List.count, List.countP_filterMap]
  refine List.countP_congr fun o _ => ?_
  cases o.pin <;> simp

/-- The release of a snapshot (R93). -/
theorem Part.releaseSnapshot_eq (s : Part) (i : Nat) : s.releaseSnapshot i = { s with
    log.table := s.log.table.map fun r => { r with readers := r.readers - (s.mrg.ctx i).pins.count r.seq }
    mrg.ctxs := s.mrg.ctxs.modify i fun c => { c with pins := [] } } := by
  have hcount : ∀ q, ((s.mrg.ctx i).pins.map Pin.record).count (.record q) = (s.mrg.ctx i).pins.count q := fun q =>
    List.count_map_of_injective _ _ (fun a b h => by simpa using h) q
  have hbands : ∀ n, ((s.mrg.ctx i).pins.map Pin.record).count (.band n) = 0 := fun n =>
    List.count_eq_zero.mpr (by simp)
  have hpool : s.bands.pool.mapIdx (fun _ x => x) = s.bands.pool := List.ext_getElem (by simp) (by simp)
  have hfold : (s.mrg.ctx i).pins.foldl (fun s q => s.unpin (.record q)) s =
      ((s.mrg.ctx i).pins.map Pin.record).foldl Part.unpin s := List.foldl_map.symm
  simp only [Part.releaseSnapshot, hfold, Part.foldl_unpin, Part.onCtx, hcount, hbands, Nat.sub_zero, hpool]

/-- A merge context at its end (R102, R104 to R107). -/
def MergeCtx.ended (c : MergeCtx) (i : Nat) (os : List Offer) : MergeCtx :=
  { c with
    reads := c.reads.filter fun r => !os.any (fun o => o.work == .mergeRead i r.1 r.2)
    unitOut := c.unitOut && !os.any (fun o =>
      match o.work with
      | .targetUnit _ _ => true
      | _ => false)
    pins := [], st := .release }

/-- What the end of a merge writes (R93, R102, R104, R113). -/
theorem Part.endMerge_eq (s : Part) (i : Nat) : s.endMerge i = { s with
    port.offers := s.port.offers.filter fun o => !(o.work.ofMerge i && o.attempt == 1)
    bands.pool := s.bands.pool.mapIdx fun n x => x.released (s.mergeOffers i) n
    log.table := s.log.table.map (·.released (s.mergeOffers i) (s.mrg.ctx i).pins)
    log.waiting := s.log.waiting.filter (· != Waiting.commit i)
    mrg.waitBand := s.mrg.waitBand.filter (· != i)
    mrg.ctxs := s.mrg.ctxs.modify i (·.ended i (s.mergeOffers i)) } := by
  have hpins : (s.withdrawMerge i |>.mrg.ctx i).pins = (s.mrg.ctx i).pins := by
    simp only [Part.withdrawMerge, Part.foldl_unpinOffers, Part.foldl_unpin, Part.withdraw, Part.onCtx, Merge.ctx]
    by_cases h : i < s.mrg.ctxs.length <;> simp [h]
  simp only [Part.endMerge, Part.releaseSnapshot_eq, hpins]
  simp only [Part.withdrawMerge, Part.foldl_unpinOffers, Part.foldl_unpin, Part.withdraw, Part.onCtx,
    countP_offerPin, List.map_map, List.modify_modify_eq]
  rfl

/-! ### Answers of a merge -/

theorem Part.asks_rescanFrom (s : Part) (ls : List Nat) : s.Asks (s.rescanFrom ls) := by
  induction ls generalizing s with
  | nil => exact ⟨_, _, _, rfl⟩
  | cons l ls ih =>
    unfold Part.rescanFrom
    split
    · exact .refl s
    · refine Part.Asks.trans ?_ (ih _)
      split
      · exact s.asks_offerUrgent l
      · exact .refl s

theorem Part.asks_rescan (s : Part) : s.Asks s.rescan := by
  unfold Part.rescan
  split
  · exact s.asks_rescanFrom _
  · exact .refl s

/-- A band becomes FAULTED (R89, R104, R105): beside its state, the list and the answers alone change. -/
theorem Part.asks_faultBand (s : Part) (l : Nat) :
    (s.onL l fun b => { b with st := .faulted, resume := none }).Asks (s.faultBand l) := by
  unfold Part.faultBand
  dsimp only
  split
  · exact ⟨_, _, _, rfl⟩
  · refine Part.Asks.trans ?_ (Part.asks_rescan _)
    split
    · exact Part.Asks.trans ⟨_, _, _, rfl⟩ (Part.asks_finishClean _ _ _)
    · exact ⟨_, _, _, rfl⟩

/-- What a drain counts of a merge that ended (R110). -/
def Drain.counts (d : Drain) (r : Result) : Drain :=
  match r with
  | .done => { d with merged := d.merged + 1 }
  | .failed => { d with failed := d.failed + 1 }
  | _ => d

/-- What telling a merge's end writes: the context's mark of a CLEAN is gone, and a drain's merge is counted. -/
theorem Part.tellMerge_eq (s : Part) (i : Nat) (r : Result) : ∃ w, s.tellMerge i r = { s with
      mrg := { s.mrg with
        ctxs := s.mrg.ctxs.modify i fun c => { c with clean := false }
        drain := if (s.mrg.ctx i).origin = some .drain then s.mrg.drain.map (·.counts r) else s.mrg.drain }
      win := w } ∧ ((s.mrg.ctx i).clean = false → w = s.win) := by
  obtain ⟨w, hw, hkept⟩ : ∃ w, (if (s.mrg.ctx i).clean then s.finishClean ((s.mrg.ctx i).band.getD 0) r else s) =
      { s with win := w } ∧ ((s.mrg.ctx i).clean = false → w = s.win) := by
    cases hc : (s.mrg.ctx i).clean with
    | false => exact ⟨s.win, rfl, fun _ => rfl⟩
    | true =>
      unfold Part.finishClean
      rw [if_pos rfl]
      split
      · exact ⟨_, rfl, nofun⟩
      · exact ⟨s.win, rfl, nofun⟩
  refine ⟨w, ?_, hkept⟩
  unfold Part.tellMerge
  dsimp only
  rw [hw]
  by_cases ho : (s.mrg.ctx i).origin = some .drain
  · rw [if_pos ho, if_pos ho]
    cases r <;> rfl
  · rw [if_neg ho, if_neg ho]
    rfl

/-! ### Bands to be reset -/

theorem Part.toResetPending_eq (s : Part) (n : Nat) : ∃ rs, n ∈ rs ∧ (∀ x ∈ s.bands.resetPend, x ∈ rs) ∧
    s.toResetPending n = { s with bands := { s.bands with
      pool := s.bands.pool.modify n fun b => { b with st := .resetPending, owner := none }
      resetPend := rs } } := by
  unfold Part.toResetPending
  dsimp only
  split
  next h => exact ⟨s.bands.resetPend, by simpa [Part.onP] using h, fun _ => id, rfl⟩
  next h => exact ⟨_, List.mem_append_right _ (List.mem_singleton.mpr rfl), fun _ => List.mem_append_left _, rfl⟩

/-- What sending a band to be reset writes, where there is one (R27, R39). -/
theorem Part.toResetPendingOpt_eq (s : Part) (o : Option Nat) : ∃ rs, (∀ n ∈ o, n ∈ rs) ∧
    (∀ x ∈ s.bands.resetPend, x ∈ rs) ∧
    s.toResetPendingOpt o = { s with bands := { s.bands with
      pool := s.bands.pool.mapIdx fun n b => if o = some n then { b with st := .resetPending, owner := none } else b
      resetPend := rs } } := by
  cases o with
  | none =>
    refine ⟨s.bands.resetPend, by simp, fun _ => id, ?_⟩
    have hpool : s.bands.pool.mapIdx (fun _ x => x) = s.bands.pool := List.ext_getElem (by simp) (by simp)
    simp [Part.toResetPendingOpt, hpool]
  | some n =>
    obtain ⟨rs, hn, hold, heq⟩ := s.toResetPending_eq n
    refine ⟨rs, by simpa using hn, hold, ?_⟩
    rw [show s.toResetPendingOpt (some n) = s.toResetPending n from rfl, heq]
    refine congrArg (fun pl => ({ s with bands := { s.bands with pool := pl, resetPend := rs } } : Part)) ?_
    refine List.ext_getElem (by simp) fun j hj _ => ?_
    by_cases h : n = j <;> simp [h]

/-- Where the index is not under pressure, its evaluation writes the flag alone (R77). -/
theorem Part.evalPressure_relaxed {s : Part} (h : s.idx.underPressure = false) :
    s.evalPressure = { s with idx.pressure := false } := by
  simp [Part.evalPressure, h]

end Sys2Proof.Machine
end

section
/-! Settlement of COMMIT and DISCARD records (R51, R58, R74, R75, R99, R102, R103). -/

namespace Sys2Proof.Machine

/-! ### The commit of a merge -/

/-- A change that leaves an absent context as it is reads back at every index. -/
theorem Merge.ctx_modify {m k : Merge} {i : Nat} {f : MergeCtx → MergeCtx} (h : k.ctxs = m.ctxs.modify i f)
    (hf : f {} = {}) : k.ctx i = f (m.ctx i) := by
  by_cases hi : i < m.ctxs.length <;> simp [Merge.ctx, h, hi, hf]

theorem Part.releaseHoldOpt_eq (s : Part) (o : Option Nat) :
    s.releaseHoldOpt o = { s with log.holds := s.log.holds.filter fun h => decide (o ≠ some h.1) } := by
  cases o with
  | none =>
    have hholds : s.log.holds.filter (fun _ => true) = s.log.holds := List.filter_eq_self.mpr fun _ _ => rfl
    simp [Part.releaseHoldOpt, hholds]
  | some n =>
    have hholds : (fun h : Nat × Nat => h.1 != n) = fun h => decide (some n ≠ some h.1) := by
      funext h
      by_cases hn : h.1 = n
      · simp [hn]
      · simp [hn, Ne.symm hn]
    simp only [Part.releaseHoldOpt, Part.releaseHold, hholds]

/-- A commit maps the target and releases its hold (R58, R99). -/
theorem Part.mapTarget_eq (s : Part) (o : Option Nat) (l : Nat) :
    (match o with
      | some p => (s.onP p fun b => { b with st := .mapped, owner := some l }).releaseHold p
      | none => s) =
    { s with
      bands.pool := s.bands.pool.mapIdx fun n b => if o = some n then { b with st := .mapped, owner := some l } else b
      log.holds := s.log.holds.filter fun h => decide (o ≠ some h.1) } := by
  cases o with
  | none =>
    have hpool : s.bands.pool.mapIdx (fun _ x => x) = s.bands.pool := List.ext_getElem (by simp) (by simp)
    have hholds : s.log.holds.filter (fun _ => true) = s.log.holds := List.filter_eq_self.mpr fun _ _ => rfl
    simp [hpool, hholds]
  | some n =>
    have hpool : s.bands.pool.modify n (fun b => { b with st := .mapped, owner := some l }) =
        s.bands.pool.mapIdx fun j b => if some n = some j then { b with st := .mapped, owner := some l } else b :=
      List.ext_getElem (by simp) fun j hj _ => by by_cases h : n = j <;> simp [h]
    refine (Part.releaseHoldOpt_eq _ (some n)).trans ?_
    simp only [Part.onP, hpool]

/-- The band of a merge as its commit leaves it (R99). -/
def LBand.committed (b : LBand) (c : MergeCtx) (d : Nat) : LBand :=
  { b with
    phys := c.target, f := c.newFill, pf := c.newFill
    st := if c.newFill = 0 then .empty else if c.newFill = d then .full else .filling
    floor := c.snapSeq.getD 0, failures := 0, resume := none }

/-- A record as the commit of a merge by record `q` leaves it (R72, R74, R93, R99). -/
def Rec.committed (x : Rec) (c : MergeCtx) (q lost : Nat) : Rec :=
  if x.seq = q then
    { x with awaited := c.old.toList, live := c.old.toList.length, readers := x.readers - c.pins.count x.seq }
  else { x with live := x.live - lost, readers := x.readers - c.pins.count x.seq }

theorem map_committed (t : List Rec) (c : MergeCtx) (q : Nat) (lost : Nat → Nat) :
    ((t.map fun r => r.lose (lost r.seq)).map fun r =>
        if r.seq = q then { r with awaited := c.old.toList, live := c.old.toList.length } else r).map
      (fun r => { r with readers := r.readers - c.pins.count r.seq }) =
    t.map fun x => x.committed c q (lost x.seq) := by
  rw [List.map_map, List.map_map]
  refine List.map_congr_left fun r _ => ?_
  by_cases hq : r.seq = q <;> simp [Rec.committed, Rec.lose, hq]

/-- The part as the commit of context `i`'s merge by record `q` leaves it, before the offer of R73 and the evaluation
of R77. -/
def Part.committed (s : Part) (i q : Nat) (rp : List Nat) (w : Window) : Part :=
  let c := s.mrg.ctx i
  let l := c.band.getD 0
  let d := s.sys.layout.dataBlocks
  let gone := upTo d l (c.snapSeq.getD 0)
  { s with
    idx.extents := s.idx.extents.filter fun e => !gone e
    bands.lbt := s.bands.lbt.modify l (·.committed c d)
    bands.pool := (s.bands.pool.mapIdx fun n b =>
      if c.target = some n then { b with st := .mapped, owner := some l } else b).mapIdx fun n b =>
      if c.old = some n then { b with st := .resetPending, owner := none } else b
    bands.resetPend := rp
    log.holds := s.log.holds.filter fun h => decide (c.target ≠ some h.1)
    log.table := s.log.table.map fun x => x.committed c q (lengthsOf s.idx.extents gone x.seq)
    mrg.ctxs := s.mrg.ctxs.modify i fun c => { c with pins := [], clean := false, st := .release }
    mrg.drain := if c.origin = some .drain then s.mrg.drain.map (·.counts .done) else s.mrg.drain
    win := w }

/-- MERGE_DONE of a context (R99, R172). -/
def Part.mergeDone (s : Part) (c : MergeCtx) : Window :=
  let l := c.band.getD 0
  s.win.raise .mergeDone
    (if c.origin = some .directive ∨ c.origin = some .drain then some .directive else none) (some l) c.target
    (some c.copied) (some (s.idx.extents.filter (upTo s.sys.layout.dataBlocks l (c.snapSeq.getD 0))).length)

theorem Part.commitMerge_eq (s : Part) (i q : Nat) : ∃ rp w, (∀ n ∈ (s.mrg.ctx i).old, n ∈ rp) ∧
    ((s.mrg.ctx i).clean = false → w = s.mergeDone (s.mrg.ctx i)) ∧
    s.commitMerge i q = ((s.committed i q rp w).offerLimit ((s.mrg.ctx i).band.getD 0)).evalPressure := by
  unfold Part.commitMerge
  extract_lets c l d snap consumed s1 s2 s3 s4 s5 s6 s7 s8 s9
  have h1 : s1 = _ := s.removeExtents_eq (upTo d l snap)
  have h3 : s3 = _ := s2.mapTarget_eq c.target l
  obtain ⟨rp, hrp, _, (h4 : s4 = _)⟩ := s3.toResetPendingOpt_eq c.old
  have h6 : s6 = _ := s5.releaseSnapshot_eq i
  obtain ⟨w, (h8 : s8 = _), hw⟩ := s7.tellMerge_eq i .done
  have hctx : s7.mrg.ctx i = { c with pins := [] } := by
    have hs : s5.mrg = s.mrg := by
      simp only [s5, h4, h3, s2, h1, Part.onRec, Part.onL]
    refine (Merge.ctx_modify (m := s5.mrg) (congrArg (fun t : Part => t.mrg.ctxs) h6) rfl).trans ?_
    rw [hs]
  refine ⟨rp, w, hrp, fun hc => (hw (by rw [hctx]; exact hc)).trans ?_, ?_⟩
  · have hwin : s6.win = s.win := by
      simp only [h6, s5, h4, h3, s2, h1, Part.onRec, Part.onL]
    show s6.win.raise .mergeDone _ _ _ _ _ = _
    rw [hwin]
    rfl
  · refine congrArg (fun t : Part => (t.offerLimit l).evalPressure) ?_
    have h9 : s9 = s8.onCtx i fun c => { c with st := .release } := rfl
    rw [h9, h8, hctx]
    simp only [s7, Part.raise, Part.onCtx, List.modify_modify_eq]
    simp only [h6, s5, h4, h3, s2, h1, Part.onRec, Part.onL, List.modify_modify_eq]
    exact congrArg (fun t => ({ s.committed i q rp w with log.table := t } : Part))
      (map_committed s.log.table c q fun x => lengthsOf s.idx.extents (upTo d l snap) x)

/-! ### The discard of a band -/

/-- The band of a full DISCARD as its settlement by record `q` leaves it (R23). -/
def LBand.discarded (b : LBand) (q : Nat) : LBand :=
  { b with st := .empty, phys := none, f := 0, pf := 0, floor := q, resume := none }

/-- A physical band that `o` names, as it is sent to be reset (R27). -/
def PBand.sentToReset (b : PBand) (o : Option Nat) (n : Nat) : PBand :=
  if o = some n then { b with st := .resetPending, owner := none } else b

/-- A record whose awaited bands are set where it is record `q` (R57). -/
def Rec.awaits (x : Rec) (q : Nat) (aw : List Nat) : Rec :=
  if x.seq = q then { x with awaited := aw, live := aw.length } else x

/-- The blocks a record loses to the full DISCARD of band `l` (R75). -/
abbrev Part.lostBand (s : Part) (l q : Nat) : Nat :=
  lengthsOf s.idx.extents (fun e => e.start / s.sys.layout.dataBlocks == l) q

/-- The part as the full DISCARD of a band that no merge holds leaves it, before the evaluation of R77. -/
def Part.discarded (s : Part) (l q : Nat) (rp : List Nat) : Part :=
  let phys := (s.bands.lband l).phys
  { s with
    idx.extents := s.idx.extents.filter fun e => !(e.start / s.sys.layout.dataBlocks == l)
    bands.lbt := s.bands.lbt.modify l (·.discarded q)
    bands.pool := s.bands.pool.mapIdx fun n b => b.sentToReset phys n
    bands.resetPend := rp
    log.table := s.log.table.map fun x => (x.lose (s.lostBand l x.seq)).awaits q phys.toList }

theorem Part.discardBand_plain {s : Part} {l : Nat} (q : Nat)
    (h : (s.bands.lband l).st = .merging → s.mrg.ctxOf l = none) :
    ∃ rp, (∀ n ∈ (s.bands.lband l).phys, n ∈ rp) ∧ s.discardBand l q = (s.discarded l q rp).evalPressure := by
  unfold Part.discardBand
  extract_lets d b ctx target s1 s2 s3 s4 awaited s5
  have hctx : ctx = none := by
    simp only [ctx]
    split
    next hm => exact h hm
    · rfl
  have htarget : target = none := by simp only [target, hctx]
  have h1 : s1 = _ := s.removeExtents_eq fun e => e.start / d == l
  obtain ⟨rp, hrp, _, (h3 : s3 = _)⟩ := s2.toResetPendingOpt_eq b.phys
  have h4 : s4 = s3 := by simp only [s4, hctx]
  refine ⟨rp, hrp, congrArg Part.evalPressure ?_⟩
  simp only [s5, h4, h3, s2, h1, awaited, htarget, Part.onRec, Part.onL, List.map_map, Option.toList_none,
    List.append_nil]
  rfl

/-- A record as the cancelling of context `i`'s merge leaves it (R102, R113). -/
def Rec.cancelled (x : Rec) (i : Nat) (os : List Offer) (pins : List Nat) : Rec :=
  if x.origin = .merge i then { x.released os pins with origin := .none } else x.released os pins

/-- What cancelling a merge writes (R102, R113). -/
theorem Part.cancelMerge_eq {s : Part} {i : Nat} (hi : i < s.mrg.ctxs.length) : ∃ w,
    ((s.mrg.ctx i).clean = false → w = s.win.raise .mergeAbandoned none (s.mrg.ctx i).band (s.mrg.ctx i).target
      (some (s.mrg.ctx i).copied) (some cancelledNum)) ∧
    s.cancelMerge i = { s with
      port.offers := s.port.offers.filter fun o => !(o.work.ofMerge i && o.attempt == 1)
      bands.pool := s.bands.pool.mapIdx fun n x => x.released (s.mergeOffers i) n
      log.holds := s.log.holds.filter fun h => decide ((s.mrg.ctx i).target ≠ some h.1)
      log.table := s.log.table.map (·.cancelled i (s.mergeOffers i) (s.mrg.ctx i).pins)
      log.waiting := s.log.waiting.filter (· != Waiting.commit i)
      mrg.waitBand := s.mrg.waitBand.filter (· != i)
      mrg.ctxs := s.mrg.ctxs.modify i fun c => { c.ended i (s.mergeOffers i) with clean := false }
      mrg.drain := if (s.mrg.ctx i).origin = some .drain then s.mrg.drain.map (·.counts .cancelled) else s.mrg.drain
      win := w } := by
  unfold Part.cancelMerge
  extract_lets c s1 s2 g log s3
  have h1 : s1 = { s with log.holds := s.log.holds.filter fun h => decide (c.target ≠ some h.1) } :=
    s.releaseHoldOpt_eq c.target
  have h2 : s2 = _ := s1.endMerge_eq i
  have hmine : s1.mergeOffers i = s.mergeOffers i := by rw [h1]; rfl
  have hs1 : s1.mrg.ctxs = s.mrg.ctxs := by rw [h1]
  have hctx : s2.mrg.ctx i = c.ended i (s.mergeOffers i) := by
    simp [h2, Merge.ctx, hs1, hi, hmine, c]
  obtain ⟨w, h4, hw⟩ := (s3.raiseAbandoned c none).tellMerge_eq i .cancelled
  have hctx3 : (s3.raiseAbandoned c none).mrg.ctx i = c.ended i (s.mergeOffers i) := hctx
  refine ⟨w, fun hc => (hw (by rw [hctx3]; exact hc)).trans ?_, ?_⟩
  · have hwin : s2.win = s.win := by rw [h2, h1]
    show s2.win.raise .mergeAbandoned _ _ _ _ _ = _
    rw [hwin]
    rfl
  · rw [h4, hctx3]
    simp only [s3, log, h2, h1, Part.raiseAbandoned, Part.raise, List.map_map, List.modify_modify_eq]
    rfl

/-- The part as the full DISCARD of a band leaves it whose merge runs in context `i`, before the evaluation of R77. -/
def Part.discardedMerge (s : Part) (l q i : Nat) (rp : List Nat) (w : Window) : Part :=
  let phys := (s.bands.lband l).phys
  let c := s.mrg.ctx i
  let os := s.mergeOffers i
  { s with
    idx.extents := s.idx.extents.filter fun e => !(e.start / s.sys.layout.dataBlocks == l)
    bands.lbt := s.bands.lbt.modify l (·.discarded q)
    bands.pool := ((s.bands.pool.mapIdx fun n b => b.sentToReset phys n).mapIdx fun n b => b.released os n).mapIdx
      fun n b => b.sentToReset c.target n
    bands.resetPend := rp
    port.offers := s.port.offers.filter fun o => !(o.work.ofMerge i && o.attempt == 1)
    log.holds := s.log.holds.filter fun h => decide (c.target ≠ some h.1)
    log.table := s.log.table.map fun x =>
      ((x.lose (s.lostBand l x.seq)).cancelled i os c.pins).awaits q (phys.toList ++ c.target.toList)
    log.waiting := s.log.waiting.filter (· != Waiting.commit i)
    mrg.waitBand := s.mrg.waitBand.filter (· != i)
    mrg.ctxs := s.mrg.ctxs.modify i fun c => { c.ended i os with clean := false }
    mrg.drain := if c.origin = some .drain then s.mrg.drain.map (·.counts .cancelled) else s.mrg.drain
    win := w }

theorem Merge.ctxOf_lt {m : Merge} {l i : Nat} (h : m.ctxOf l = some i) : i < m.ctxs.length := by
  simpa using List.mem_of_find?_eq_some h

theorem Part.discardBand_merging {s : Part} {l i : Nat} (q : Nat) (hst : (s.bands.lband l).st = .merging)
    (hi : s.mrg.ctxOf l = some i) : ∃ rp w, (∀ n ∈ (s.bands.lband l).phys, n ∈ rp) ∧
      (∀ n ∈ (s.mrg.ctx i).target, n ∈ rp) ∧
      ((s.mrg.ctx i).clean = false → w = s.win.raise .mergeAbandoned none (s.mrg.ctx i).band (s.mrg.ctx i).target
        (some (s.mrg.ctx i).copied) (some cancelledNum)) ∧
      s.discardBand l q = (s.discardedMerge l q i rp w).evalPressure := by
  unfold Part.discardBand
  extract_lets d b ctx target s1 s2 s3 s4 awaited s5
  have hctx : ctx = some i := by simp only [ctx, b, hst, hi, if_pos]
  have htarget : target = (s.mrg.ctx i).target := by simp only [target, hctx]
  have h1 : s1 = _ := s.removeExtents_eq fun e => e.start / d == l
  obtain ⟨rp, hrp, _, (h3 : s3 = _)⟩ := s2.toResetPendingOpt_eq b.phys
  have hmrg : s3.mrg = s.mrg := by rw [h3]; simp only [s2, h1, Part.onL]
  have hport : s3.port = s.port := by rw [h3]; simp only [s2, h1, Part.onL]
  have hwin : s3.win = s.win := by rw [h3]; simp only [s2, h1, Part.onL]
  obtain ⟨w, hw, hcancel⟩ := Part.cancelMerge_eq (s := s3) (i := i) (by rw [hmrg]; exact Merge.ctxOf_lt hi)
  have hmine : s3.mergeOffers i = s.mergeOffers i := by rw [Part.mergeOffers, hport]; rfl
  rw [hmine, hmrg, hport] at hcancel
  rw [hmrg, hwin] at hw
  obtain ⟨rp', hrp', hsub, hreset⟩ := (s3.cancelMerge i).toResetPendingOpt_eq target
  have h4 : s4 = (s3.cancelMerge i).toResetPendingOpt target := by simp only [s4, hctx]
  rw [hreset, hcancel] at h4
  refine ⟨rp', w, fun n hn => hsub n ?_, fun n hn => hrp' n (htarget ▸ hn), hw, congrArg Part.evalPressure ?_⟩
  · rw [hcancel, h3]
    exact hrp n hn
  simp only [s5, h4, h3, s2, h1, awaited, htarget, Part.onRec, Part.onL, List.map_map]
  rfl

end Sys2Proof.Machine
end

section
/-! The settlement of COMMIT and DISCARD records, clause by clause (R51, R58, R74, R75, R99, R102, R103). -/

namespace Sys2Proof.Machine

/-! ### Records -/

theorem Rec.lose_seq (x : Rec) (n : Nat) : (x.lose n).seq = x.seq := rfl

theorem Rec.committed_seq (x : Rec) (c : MergeCtx) (q n : Nat) : (x.committed c q n).seq = x.seq := by
  unfold Rec.committed
  split <;> rfl

theorem Rec.committed_st (x : Rec) (c : MergeCtx) (q n : Nat) : (x.committed c q n).st = x.st := by
  unfold Rec.committed
  split <;> rfl

theorem Rec.cancelled_seq (x : Rec) (i : Nat) (os : List Offer) (pins : List Nat) :
    (x.cancelled i os pins).seq = x.seq := by
  unfold Rec.cancelled
  split <;> rfl

theorem Rec.cancelled_st (x : Rec) (i : Nat) (os : List Offer) (pins : List Nat) :
    (x.cancelled i os pins).st = x.st := by
  unfold Rec.cancelled
  split <;> rfl

theorem Rec.cancelled_live (x : Rec) (i : Nat) (os : List Offer) (pins : List Nat) :
    (x.cancelled i os pins).live = x.live := by
  unfold Rec.cancelled
  split <;> rfl

theorem Rec.cancelled_readers (x : Rec) (i : Nat) (os : List Offer) (pins : List Nat) :
    (x.cancelled i os pins).readers =
      x.readers - os.countP (·.pin == some (.record x.seq)) - pins.count x.seq := by
  unfold Rec.cancelled
  split <;> rfl

theorem Rec.cancelled_origin (x : Rec) (i : Nat) (os : List Offer) (pins : List Nat) :
    (x.cancelled i os pins).origin ≠ .merge i := by
  unfold Rec.cancelled
  split
  · simp
  · assumption

theorem Rec.awaits_seq (x : Rec) (q : Nat) (aw : List Nat) : (x.awaits q aw).seq = x.seq := by
  unfold Rec.awaits
  split <;> rfl

theorem Rec.awaits_st (x : Rec) (q : Nat) (aw : List Nat) : (x.awaits q aw).st = x.st := by
  unfold Rec.awaits
  split <;> rfl

theorem Rec.awaits_readers (x : Rec) (q : Nat) (aw : List Nat) : (x.awaits q aw).readers = x.readers := by
  unfold Rec.awaits
  split <;> rfl

theorem Rec.awaits_origin (x : Rec) (q : Nat) (aw : List Nat) : (x.awaits q aw).origin = x.origin := by
  unfold Rec.awaits
  split <;> rfl

/-- The settling record as it awaits the bands to be reset (R57). -/
theorem Rec.awaits_self {x : Rec} {q : Nat} {aw : List Nat} (h : x.seq = q) :
    (x.awaits q aw).awaited = aw ∧ (x.awaits q aw).live = aw.length := by
  simp [Rec.awaits, h]

/-- The blocks that records lose to a removal, in the statement's form. -/
theorem lengthsOf_eq (es : List Extent) {p : Extent → Bool} {gone : Extent → Prop} [DecidablePred gone]
    (h : ∀ e, p e = decide (gone e)) (q : Nat) :
    lengthsOf es p q = ((es.filter fun e => decide (e.seq = q ∧ gone e)).map (·.len)).sum := by
  simp [lengthsOf, h]

theorem upTo_eq (d l q : Nat) (e : Extent) : upTo d l q e = decide (e.start / d = l ∧ e.seq ≤ q) := by
  by_cases h : e.start / d = l <;> simp [upTo, h]

/-- A band of a pool changed band by band. -/
theorem Bands.pband_mapIdx {b k : Bands} {g : Nat → PBand → PBand} (h : k.pool = b.pool.mapIdx g) {n : Nat}
    (hn : n < b.pool.length) : k.pband n = g n (b.pband n) := by
  simp [Bands.pband, h, hn]

theorem Bands.lband_modify {b k : Bands} {l : Nat} {f : LBand → LBand} (h : k.lbt = b.lbt.modify l f)
    (hl : l < b.lbt.length) : k.lband l = f (b.lband l) := by
  simp [Bands.lband, h, hl]

/-! ### COMMIT -/

theorem Part.committed_target {s : Part} {i q l n : Nat} {rp : List Nat} {w : Window} (hn : n < s.bands.pool.length)
    (ht : (s.mrg.ctx i).target = some n) (ho : (s.mrg.ctx i).old ≠ some n) (hl : (s.mrg.ctx i).band.getD 0 = l) :
    (s.committed i q rp w).bands.pband n = { s.bands.pband n with st := .mapped, owner := some l } := by
  simp [Part.committed, Bands.pband, hn, ht, ho, hl]

theorem Part.committed_old {s : Part} {i q n : Nat} {rp : List Nat} {w : Window} (hn : n < s.bands.pool.length)
    (ho : (s.mrg.ctx i).old = some n) :
    (s.committed i q rp w).bands.pband n = { s.bands.pband n with st := .resetPending, owner := none } := by
  simp only [Part.committed, Bands.pband, ho, List.getD_eq_getElem?_getD, List.getElem?_mapIdx,
    List.getElem?_eq_getElem hn, Option.map_some, Option.getD_some, if_pos]
  split <;> rfl

theorem Part.committed_lband {s : Part} {i q l : Nat} {rp : List Nat} {w : Window}
    (hb : (s.mrg.ctx i).band.getD 0 = l) (hl : l < s.bands.lbt.length) :
    (s.committed i q rp w).bands.lband l = (s.bands.lband l).committed (s.mrg.ctx i) s.sys.layout.dataBlocks := by
  simp [Part.committed, Bands.lband, hb, hl]

/-- The look-up of the settling record, as it awaits the bands to be reset (R57, R99). -/
theorem Rec.committed_self {x : Rec} {c : MergeCtx} {q n : Nat} (h : x.seq = q) :
    (x.committed c q n).awaited = c.old.toList ∧ (x.committed c q n).live = c.old.toList.length := by
  simp [Rec.committed, h]

theorem Part.settleRec_commit {s : Part} {r : Rec} {i : Nat} (hv : r.void = false) (hk : r.kind = .commit)
    (ho : r.origin = .merge i) : s.settleRec r = (s.marked r.seq).commitMerge i r.seq := by
  have hcounts : (s.marked r.seq).settleCounts r = s.marked r.seq :=
    Part.settleCounts_other (by simp [ho])
  simp only [Part.settleRec, hv, if_neg Bool.false_ne_true, Part.settleEffect, hcounts, hk, ho]

/-- The extents that a commit leaves are no more than there were. -/
theorem Index.count_filter_le (i : Index) (p : Extent → Bool) (d l : Nat) :
    ({ i with extents := i.extents.filter p } : Index).count d l ≤ i.count d l := by
  exact (List.filter_sublist.filter _).length_le

/-- What the settlement of a COMMIT writes whose merge has not been cancelled (R99): the part that `Part.committed`
names, but for the request list, the pressure flag and what they raise. -/
theorem Part.settleRec_commit_eq {s : Part} {r : Rec} {i : Nat} (hv : r.void = false) (hk : r.kind = .commit)
    (ho : r.origin = .merge i) : ∃ rp w rs again pressure w', (∀ n ∈ (s.mrg.ctx i).old, n ∈ rp) ∧
      ((s.mrg.ctx i).clean = false → w = s.mergeDone (s.mrg.ctx i)) ∧
      s.settleRec r = { (s.marked r.seq).committed i r.seq rp w with
        mrg := { ((s.marked r.seq).committed i r.seq rp w).mrg with reqs := rs, rescan := again }
        idx := { ((s.marked r.seq).committed i r.seq rp w).idx with pressure := pressure }
        win := w' } ∧
      (s.idx.count s.sys.layout.dataBlocks ((s.mrg.ctx i).band.getD 0) < Config.extentLimit →
        s.idx.underPressure = false → w' = w) := by
  obtain ⟨rp, w, hrp, hw, hcommit⟩ := (s.marked r.seq).commitMerge_eq i r.seq
  have hrec := (Part.settleRec_commit hv hk ho).trans hcommit
  obtain ⟨rs, again, w1, hask⟩ :=
    Part.asks_offerLimit ((s.marked r.seq).committed i r.seq rp w) ((s.mrg.ctx i).band.getD 0)
  have hrelaxed : s.idx.count s.sys.layout.dataBlocks ((s.mrg.ctx i).band.getD 0) < Config.extentLimit →
      s.idx.underPressure = false → (s.settleRec r).win = w := by
    intro hcount hpressure
    have hlimit : ((s.marked r.seq).committed i r.seq rp w).offerLimit ((s.mrg.ctx i).band.getD 0) =
        (s.marked r.seq).committed i r.seq rp w :=
      if_neg fun h => absurd (of_decide_eq_true h) (Nat.not_le.mpr <|
        (Index.count_filter_le s.idx _ _ _).trans_lt hcount)
    have hunder : ((s.marked r.seq).committed i r.seq rp w).idx.underPressure = false := by
      refine decide_eq_false fun h => of_decide_eq_false hpressure (h.trans ?_)
      exact Nat.add_le_add_right (List.length_filter_le _ _) _
    rw [hrec]
    refine (congrArg (fun x : Part => x.evalPressure.win) hlimit).trans ?_
    rw [Part.evalPressure_relaxed hunder]
    rfl
  refine ⟨rp, w, rs, again, (s.settleRec r).idx.pressure, (s.settleRec r).win, hrp, hw, ?_, hrelaxed⟩
  rw [hrec, show (((s.marked r.seq).committed i r.seq rp w).offerLimit (((s.marked r.seq).mrg.ctx i).band.getD 0)) = _
    from hask]
  rfl

/-! ### Full DISCARD -/

theorem PBand.sentToReset_self {b : PBand} {o : Option Nat} {n : Nat} (h : o = some n) :
    (b.sentToReset o n).st = .resetPending ∧ (b.sentToReset o n).owner = none := by
  simp [PBand.sentToReset, h]

theorem PBand.sentToReset_readers (b : PBand) (o : Option Nat) (n : Nat) :
    (b.sentToReset o n).readers = b.readers := by
  unfold PBand.sentToReset
  split <;> rfl

/-- A band that has been sent to be reset stays so. -/
theorem PBand.sentToReset_of_sent {b : PBand} (o : Option Nat) (n : Nat)
    (h : b.st = .resetPending ∧ b.owner = none) :
    (b.sentToReset o n).st = .resetPending ∧ (b.sentToReset o n).owner = none := by
  unfold PBand.sentToReset
  split
  · exact ⟨rfl, rfl⟩
  · exact h

/-- What the full DISCARD of band `l` by record `q` does to a part, whether a merge holds the band or not; `g` changes
its records. -/
structure Part.Discards (s t : Part) (l q : Nat) (g : Rec → Rec) : Prop where
  rest : t = { s with
    idx.extents := s.idx.extents.filter fun e => !(e.start / s.sys.layout.dataBlocks == l)
    bands := { s.bands with
      lbt := s.bands.lbt.modify l (·.discarded q), pool := t.bands.pool, resetPend := t.bands.resetPend }
    log := { s.log with table := s.log.table.map g, holds := t.log.holds, waiting := t.log.waiting }
    mrg := t.mrg, port := t.port, win := t.win }
  seq : ∀ x, (g x).seq = x.seq
  st : ∀ x, (g x).st = x.st
  live : ∀ x, x.seq ≠ q → (g x).live = x.live - s.lostBand l x.seq
  pend : ∀ n ∈ (s.bands.lband l).phys, n ∈ t.bands.resetPend
  sent : ∀ n, (s.bands.lband l).phys = some n → n < s.bands.pool.length →
    (t.bands.pband n).st = .resetPending ∧ (t.bands.pband n).owner = none

theorem Part.discards_plain {s : Part} {l q : Nat} {rp : List Nat} (hrp : ∀ n ∈ (s.bands.lband l).phys, n ∈ rp) :
    s.Discards (s.discarded l q rp) l q
      fun x => (x.lose (s.lostBand l x.seq)).awaits q (s.bands.lband l).phys.toList where
  rest := rfl
  seq x := by rw [Rec.awaits_seq, Rec.lose_seq]
  st x := by rw [Rec.awaits_st]; rfl
  live x hx := by simp [Rec.awaits, Rec.lose, hx]
  pend := hrp
  sent n hn hlen := by
    rw [Bands.pband_mapIdx (b := s.bands) (k := (s.discarded l q rp).bands) rfl hlen]
    exact PBand.sentToReset_self hn

theorem Part.discardedMerge_pband {s : Part} {l q i n : Nat} {rp : List Nat} {w : Window}
    (hn : n < s.bands.pool.length) : (s.discardedMerge l q i rp w).bands.pband n =
      (((s.bands.pband n).sentToReset (s.bands.lband l).phys n).released (s.mergeOffers i) n).sentToReset
        (s.mrg.ctx i).target n := by
  simp [Part.discardedMerge, Bands.pband, hn]

theorem Part.discards_merging {s : Part} {l q i : Nat} {rp : List Nat} {w : Window}
    (hrp : ∀ n ∈ (s.bands.lband l).phys, n ∈ rp) :
    s.Discards (s.discardedMerge l q i rp w) l q
      fun x => ((x.lose (s.lostBand l x.seq)).cancelled i (s.mergeOffers i) (s.mrg.ctx i).pins).awaits q
        ((s.bands.lband l).phys.toList ++ (s.mrg.ctx i).target.toList) where
  rest := rfl
  seq x := by rw [Rec.awaits_seq, Rec.cancelled_seq, Rec.lose_seq]
  st x := by rw [Rec.awaits_st, Rec.cancelled_st]; rfl
  live x hx := by simp [Rec.awaits, Rec.cancelled_seq, Rec.cancelled_live, Rec.lose, hx]
  pend := hrp
  sent n hn hlen := by
    rw [Part.discardedMerge_pband hlen]
    exact PBand.sentToReset_of_sent _ _ (PBand.sentToReset_self (b := s.bands.pband n) hn)

/-- The part as a settling record of a command has lowered its counts (R24, R50). -/
def Part.counted (s : Part) (r : Rec) : Part := (s.marked r.seq).settleCounts r

theorem Part.settleRec_discard {s : Part} {r : Rec} {l cid part : Nat} (hv : r.void = false)
    (hk : r.kind = .discard) (hf : r.full = true) (hb : r.band = some l) (ho : r.origin = .cmd cid part) :
    s.settleRec r = ((s.counted r).discardBand l r.seq).partFinal cid part .done := by
  simp only [Part.settleRec, hv, if_neg Bool.false_ne_true, Part.settleEffect, hk, hf, ho, hb, if_pos, Part.counted]

/-- A full DISCARD reserved nothing in the index (R70). -/
theorem Part.counted_eq {s : Part} {r : Rec} {l cid part : Nat} (hb : r.band = some l)
    (ho : r.origin = .cmd cid part) (hr : r.reserve = false) : s.counted r = { s with
      log := { s.log with settled := s.log.settled + 1, table := s.log.table.map (·.settledAs r.seq) }
      bands.lbt := s.bands.lbt.modify l fun b => { b with unsettled := b.unsettled - 1 } } := by
  rw [Part.counted, Part.settleCounts_cmd ho hb, hr]
  rfl

/-- The settlement of a full DISCARD, whether a merge holds the band or not (R51, R75, R102). -/
theorem Part.discardBand_discards (s : Part) (l q : Nat) : ∃ t g, s.Discards t l q g ∧
    s.discardBand l q = t.evalPressure ∧
    ((s.bands.lband l).st ≠ .merging → t.mrg = s.mrg ∧ t.port = s.port ∧
      ∀ x : Rec, x.seq = q → (g x).awaited = (s.bands.lband l).phys.toList ∧
        (g x).live = (s.bands.lband l).phys.toList.length) ∧
    (∀ i, (s.bands.lband l).st = .merging → s.mrg.ctxOf l = some i → ∃ rp w, t = s.discardedMerge l q i rp w ∧
      (∀ x, g x = ((x.lose (s.lostBand l x.seq)).cancelled i (s.mergeOffers i) (s.mrg.ctx i).pins).awaits q
        ((s.bands.lband l).phys.toList ++ (s.mrg.ctx i).target.toList)) ∧
      (∀ n ∈ (s.mrg.ctx i).target, n ∈ rp) ∧
      ((s.mrg.ctx i).clean = false → w = s.win.raise .mergeAbandoned none (s.mrg.ctx i).band (s.mrg.ctx i).target
        (some (s.mrg.ctx i).copied) (some cancelledNum))) := by
  by_cases hplain : (s.bands.lband l).st = .merging → s.mrg.ctxOf l = none
  · obtain ⟨rp, hrp, hdiscard⟩ := Part.discardBand_plain q hplain
    refine ⟨_, _, Part.discards_plain hrp, hdiscard, fun _ => ⟨rfl, rfl, fun x hx => Rec.awaits_self hx⟩, ?_⟩
    intro i hst hi
    rw [hplain hst] at hi
    cases hi
  · obtain ⟨hst, hsome⟩ := Classical.not_imp.mp hplain
    obtain ⟨i, hi⟩ := Option.ne_none_iff_exists'.mp hsome
    obtain ⟨rp, w, hrp, htarget, hw, hdiscard⟩ := Part.discardBand_merging q hst hi
    refine ⟨_, _, Part.discards_merging hrp, hdiscard, fun h => absurd hst h, ?_⟩
    intro j _ hj
    obtain rfl : i = j := Option.some.inj (hi.symm.trans hj)
    exact ⟨rp, w, rfl, fun _ => rfl, htarget, hw⟩

end Sys2Proof.Machine

namespace Sys2Proof
open Sys2Proof.Machine

/-- SETTLEMENT of one record with no other behind it, from the part's own settlement. -/
theorem exec_settlement_one {p : Part} {q : List Instr} {r : Rec} {g : Rec → Rec} (hreset : p.sys.inReset = false)
    (hfind : p.log.find (p.log.settled + 1) = some r) (hseq : r.seq = p.log.settled + 1) (hst : r.st = .completed)
    (hnext : ∀ x, p.log.find (p.log.settled + 2) = some x → x.st ≠ .completed)
    (hset : (p.settleRec r).log.settled = p.log.settled + 1) (htable : (p.settleRec r).log.table = p.log.table.map g)
    (hgseq : ∀ x, (g x).seq = x.seq) (hgst : ∀ x, (g x).st = if x.seq = r.seq then .settled else x.st) :
    exec .settlement ⟨p, q⟩ = .next ⟨p.settleRec r, q⟩ := by
  rw [exec_settlement, State.act_awake _ hreset]
  exact congrArg (fun x : Part => Host.Outcome.next (State.mk x q))
    (Part.settle_one hfind hseq hst hnext hset (Log.states_of_map htable hgseq hgst))

/-- Settles O33, by what the settlement of each kind of record writes: of a COMMIT `Part.committed`, of a full DISCARD
`Part.discarded` or `Part.discardedMerge`, and of a partial one its extent. -/
theorem commitsAndDiscardsSettle : Obligations.CommitsAndDiscardsSettle := by
  intro p q r hreset hfind hseq hst hvoid hnext d others lengths
  have hfindr : p.log.find r.seq = some r := hseq ▸ hfind
  refine ⟨?_, ?_, ?_⟩
  case refine_1 =>
    intro i l hkind horigin hi hband hl hpins c snap gone
    obtain ⟨rp, w, rs, again, pressure, w', hrp, hw, hrec, hrelaxed⟩ := p.settleRec_commit_eq hvoid hkind horigin
    have hl0 : (p.mrg.ctx i).band.getD 0 = l := by rw [hband]; rfl
    have htable : (p.settleRec r).log.table = p.log.table.map fun x =>
        (x.settledAs r.seq).committed c r.seq (lengthsOf p.idx.extents (upTo d l snap) x.seq) := by
      rw [hrec]
      simp only [Part.committed, Part.marked, Part.onRec, List.map_map, Function.comp_def, hl0]
      refine List.map_congr_left fun x _ => ?_
      show (x.settledAs r.seq).committed c r.seq (lengthsOf p.idx.extents _ (x.settledAs r.seq).seq) = _
      rw [Rec.settledAs_seq]
    refine ⟨p.settleRec r, exec_settlement_one hreset hfind hseq hst hnext (by rw [hrec]; rfl) htable ?_ ?_, ?_⟩
    · intro x
      rw [Rec.committed_seq, Rec.settledAs_seq]
    · intro x
      rw [Rec.committed_st, Rec.settledAs_st]
    refine ⟨?_, ?_, ?_, ?_, ?_, ?_, ?_, ?_, ?_, ?_, ?_, ?_, ?_, ?_, ?_, ?_, ?_⟩
    · rw [hrec]; rfl
    · rw [hrec]; rfl
    · rw [hrec]
      refine List.filter_congr fun e _ => ?_
      rw [upTo_eq, ← decide_not, show (p.marked r.seq).mrg.ctx i = p.mrg.ctx i from rfl, hl0]
      rfl
    · rw [hrec]
      exact Part.committed_lband (s := p.marked r.seq) (q := r.seq) (rp := rp) (w := w) hl0 hl
    · intro t ht hold htlen
      refine ⟨?_, ?_⟩
      · rw [hrec]
        exact Part.committed_target (s := p.marked r.seq) (q := r.seq) (rp := rp) (w := w) htlen ht hold hl0
      · rw [hrec]
        refine List.filter_congr fun h _ => ?_
        rw [show (p.marked r.seq).mrg.ctx i = p.mrg.ctx i from rfl, show (p.mrg.ctx i).target = some t from ht]
        by_cases hn : h.1 = t
        · simp [hn]
        · simp [hn, Ne.symm hn]
    · intro n hn hlen
      refine ⟨?_, by rw [hrec]; exact hrp n hn⟩
      rw [hrec]
      exact Part.committed_old (s := p.marked r.seq) (q := r.seq) (rp := rp) (w := w) hlen hn
    · have hself : (r.settledAs r.seq).seq = r.seq := Rec.settledAs_seq ..
      obtain ⟨haw, hlive⟩ := Rec.committed_self (c := c) (n := lengthsOf p.idx.extents (upTo d l snap) r.seq) hself
      refine ⟨_, (Log.find_map htable ?_ _).trans (by rw [hfindr]; rfl), ?_, haw, hlive⟩
      · intro x
        rw [Rec.committed_seq, Rec.settledAs_seq]
      · rw [Rec.committed_st, Rec.settledAs_st, if_pos rfl]
    · simp only [others]
      rw [htable]
      refine filter_others_map _ _ (fun x => by rw [Rec.committed_seq, Rec.settledAs_seq]) fun x hx => ?_
      rw [lengthsOf_eq _ (gone := gone) (fun e => upTo_eq ..)]
      simp [Rec.settledAs, hx, Rec.committed, lengths]
    · rw [hrec]
      refine congrArg MergeCtx.st (Part.onCtx_ctx_self (s := p) hi)
    · rw [hrec]
      refine congrArg MergeCtx.pins (Part.onCtx_ctx_self (s := p) hi)
    · intro hclean hcount hroom
      have hw' : w' = w := hrelaxed (by rw [hl0]; exact hcount) (decide_eq_false (Nat.not_le.mpr hroom))
      refine ⟨?_, ?_⟩
      · rw [hrec]
        refine hw'.trans ((hw hclean).trans ?_)
        rw [Part.mergeDone, hl0]
        refine congrArg (fun n => p.win.raise .mergeDone _ (some l) c.target (some c.copied) (some n)) ?_
        exact congrArg List.length (List.filter_congr fun e _ => upTo_eq ..)
      · rw [hrec]
        rfl
    all_goals rw [hrec]; rfl
  case refine_2 =>
    intro hkind horigin
    have hcounts : (p.marked r.seq).settleCounts r = p.marked r.seq := Part.settleCounts_other (by simp [horigin])
    have hrec : p.settleRec r = p.marked r.seq := by
      simp only [Part.settleRec, hvoid, if_neg Bool.false_ne_true, Part.settleEffect, hcounts, hkind, horigin]
    have hexec := exec_settlement_one (q := q) (g := (·.settledAs r.seq)) hreset hfind hseq hst hnext
      (by rw [hrec]; rfl) (by rw [hrec]; rfl) (fun x => x.settledAs_seq _) (fun x => x.settledAs_st _)
    rw [hexec, hrec]
    rfl
  case refine_3 =>
    intro l cid part tag cmd hkind hband horigin hl hreserve hat hcid b
    have hpart : (p.partFinal cid part .done).ini.at tag = some (cmd.setPart part .done) := by
      refine (Initiator.at_map p.ini (fun c => if c.cid = cid then c.setPart part .done else c) tag).trans ?_
      simp [hat, hcid]
    rcases Bool.eq_false_or_eq_true r.full with hfull | hfull
    case inr =>
      obtain ⟨m, w, pressure, hrec⟩ := Part.settleRec_extent (s := p) hvoid (.inr ⟨hkind, hfull⟩) hband horigin
      have hlog := congrArg (fun x : Part => x.log.table) hrec
      have hx : r.extent p.sys.layout.dataBlocks l =
          { start := l * d + r.off, len := r.n, kind := .zero, seq := r.seq, lp := 0 } := by
        simp [Rec.extent, hkind, d]
      have hres : r.reserve = true := by rw [hreserve, hfull]; rfl
      have hexec := exec_settlement_one (q := q) hreset hfind hseq hst hnext (by rw [hrec]) hlog
        (fun x => by rw [Rec.inserted_seq, Rec.settledAs_seq]) (fun x => by rw [Rec.inserted_st, Rec.settledAs_st])
      refine ⟨p.settleRec r, hexec, ?_⟩
      rw [hrec] at hlog ⊢
      refine ⟨rfl, rfl, hpart, rfl, rfl, rfl, rfl, rfl, rfl, fun _ => rfl, fun _ => ?_,
        fun h => absurd (h.symm.trans hfull) (by decide)⟩
      refine ⟨?_, ?_, ?_, rfl, Log.find_extent (l := p.log) hlog hfindr, Log.others_extent (l := p.log) hlog⟩
      · rw [← hx]
      · simp [hres]
      · refine (Bands.lband_modify (b := p.bands) rfl hl).trans ?_
        simp [hres, b]
    case inl =>
      have hres : r.reserve = false := by rw [hreserve, hfull]; rfl
      have hcounted := Part.counted_eq (s := p) hband horigin hres
      have hcl : (p.counted r).bands.lband l = { b with unsettled := b.unsettled - 1 } := by
        rw [hcounted]
        exact (Bands.lband_modify (b := p.bands) rfl hl).trans rfl
      have hphys : ((p.counted r).bands.lband l).phys = b.phys := by rw [hcl]
      have hbst : ((p.counted r).bands.lband l).st = b.st := by rw [hcl]
      obtain ⟨t, g, hdis, hband', hplain, hmerging⟩ := (p.counted r).discardBand_discards l r.seq
      have hrec : p.settleRec r = (t.evalPressure).partFinal cid part .done := by
        rw [Part.settleRec_discard hvoid hkind hfull hband horigin, hband']
      have ht := hdis.rest
      rw [hphys, hbst] at hplain
      rw [hphys, hbst] at hmerging
      have hlen : (p.counted r).bands.lbt.length = p.bands.lbt.length := by
        rw [hcounted]
        exact List.length_modify ..
      have htable : t.log.table = p.log.table.map fun x => g (x.settledAs r.seq) := by
        rw [ht, hcounted]
        exact List.map_map
      have hexec := exec_settlement_one (q := q) hreset hfind hseq hst hnext (by rw [hrec, ht, hcounted]; rfl)
        (by rw [hrec]; exact htable) (fun x => by rw [hdis.seq, Rec.settledAs_seq])
        (fun x => by rw [hdis.st, Rec.settledAs_st])
      refine ⟨p.settleRec r, hexec, ?_⟩
      rw [hrec]
      refine ⟨?_, ?_, ?_, ?_, ?_, ?_, ?_, ?_, ?_, ?_, ?_, ?_⟩
      case refine_10 =>
        intro h
        obtain ⟨_, hport, _⟩ := hplain (h.resolve_left (by simp [hfull]))
        refine Eq.trans (b := t.port) rfl (hport.trans ?_)
        rw [hcounted]
      case refine_11 => exact fun h => absurd (hfull.symm.trans h) (by decide)
      case refine_12 =>
        intro _
        have hidx : (p.counted r).idx = p.idx := by rw [hcounted]
        have hsys : (p.counted r).sys = p.sys := by rw [hcounted]
        have hmrg : (p.counted r).mrg = p.mrg := by rw [hcounted]
        refine ⟨?_, ?_, ?_, ?_, ?_, ?_, ?_⟩
        · refine Eq.trans (b := t.idx.extents) rfl ?_
          rw [ht, hidx, hsys]
          rfl
        · refine Eq.trans (b := t.idx.reserved) rfl ?_
          rw [ht, hidx]
        · simp only [others]
          refine (congrArg (fun x => (List.filter (fun y : Rec => y.seq != r.seq) x).map fun y => (y.seq, y.live))
            (show _ = _ from htable)).trans ?_
          rw [filter_others_map _ _ (h := fun x => g x) (fun x => by rw [hdis.seq, Rec.settledAs_seq])
            (fun x hx => by simp [Rec.settledAs, hx]), List.map_map]
          refine List.map_congr_left fun x hx => ?_
          have hxq : x.seq ≠ r.seq := by simpa using (List.mem_filter.mp hx).2
          have hlost : (p.counted r).lostBand l x.seq = lengths (fun e => e.start / d = l) x := by
            rw [Part.lostBand, hidx, hsys]
            exact lengthsOf_eq _ (fun e => by by_cases h : e.start / p.sys.layout.dataBlocks = l <;> simp [h, d]) _
          simp only [Function.comp, hdis.seq, hdis.live x hxq, hlost]
        · refine Eq.trans (b := t.bands.lband l) rfl ?_
          rw [ht]
          refine (Bands.lband_modify (b := (p.counted r).bands) rfl (hlen ▸ hl)).trans ?_
          rw [hcl]
          rfl
        · intro n hn hnlen
          have hsent := hdis.sent n (hphys.trans hn) (by rw [hcounted]; exact hnlen)
          exact ⟨hdis.pend n (hphys.trans hn), hsent⟩
        · intro hst
          obtain ⟨hm, _, hself⟩ := hplain hst
          obtain ⟨haw, hlive⟩ := hself _ (Rec.settledAs_seq r r.seq)
          refine ⟨hm.trans hmrg, _, (Log.find_map (l := p.log) htable ?_ _).trans (by rw [hfindr]; rfl), ?_, haw, hlive⟩
          · exact fun x => by rw [hdis.seq, Rec.settledAs_seq]
          · rw [hdis.st, Rec.settledAs_st, if_pos rfl]
        · intro i hst hi m gone
          obtain ⟨rp, w, htm, hg, htarget, hw⟩ := hmerging i hst (hmrg ▸ hi)
          have hport : (p.counted r).port = p.port := by rw [hcounted]
          have hwin : (p.counted r).win = p.win := by rw [hcounted]
          have hpool : (p.counted r).bands.pool = p.bands.pool := by rw [hcounted]
          have hmine : (p.counted r).mergeOffers i = gone := by rw [Part.mergeOffers, hport]; rfl
          have hm : (p.counted r).mrg.ctx i = m := by rw [hmrg]
          have hilt : i < (p.counted r).mrg.ctxs.length := by rw [hmrg]; exact Merge.ctxOf_lt hi
          rw [hm] at hg htarget hw
          rw [hmine] at hg
          refine ⟨?_, ?_, ?_, ?_, ?_, ?_, ?_, ?_, ?_⟩
          · refine Eq.trans (b := t.port) rfl ?_
            rw [htm, Part.discardedMerge, hport]
          · refine Eq.trans (b := t.bands.pool.map (·.readers)) rfl ?_
            rw [htm]
            simp only [Part.discardedMerge, hpool, hmine]
            refine List.ext_getElem (by simp) fun n _ _ => ?_
            simp [PBand.sentToReset_readers, PBand.released]
          · refine (congrArg (List.map (·.readers)) (show _ = _ from htable)).trans ?_
            rw [List.map_map]
            refine List.map_congr_left fun x _ => ?_
            rw [Function.comp, hg, Rec.awaits_readers, Rec.cancelled_readers, Rec.lose_seq, Rec.settledAs_seq]
            unfold Rec.settledAs
            split <;> rfl
          · intro n hn hnlen
            have hn' : n < (p.counted r).bands.pool.length := by rw [hpool]; exact hnlen
            have hpb := Part.discardedMerge_pband (l := l) (q := r.seq) (i := i) (rp := rp) (w := w) hn'
            have hsent := PBand.sentToReset_self (b := (((p.counted r).bands.pband n).sentToReset
              ((p.counted r).bands.lband l).phys n).released ((p.counted r).mergeOffers i) n) (o := some n) rfl
            rw [← htm, hm, hn] at hpb
            refine ⟨?_, ?_, ?_, ?_⟩
            · have := htarget n hn
              rw [htm]
              exact this
            · exact (congrArg PBand.st hpb).trans hsent.1
            · exact (congrArg PBand.owner hpb).trans hsent.2
            · intro h hh
              have hh' : h ∈ t.log.holds := hh
              rw [htm, Part.discardedMerge, hm, hn] at hh'
              exact fun hhn => of_decide_eq_true (List.mem_filter.mp hh').2 (by rw [hhn])
          · have hself := Rec.awaits_self (x := ((r.settledAs r.seq).lose ((p.counted r).lostBand l
              (r.settledAs r.seq).seq)).cancelled i gone m.pins) (q := r.seq) (aw := b.phys.toList ++ m.target.toList)
              (by rw [Rec.cancelled_seq, Rec.lose_seq, Rec.settledAs_seq])
            rw [← hg] at hself
            refine ⟨_, (Log.find_map (l := p.log) htable ?_ _).trans (by rw [hfindr]; rfl), ?_, hself.1, hself.2⟩
            · exact fun x => by rw [hdis.seq, Rec.settledAs_seq]
            · rw [hdis.st, Rec.settledAs_st, if_pos rfl]
          · intro x hx
            have hx' : x ∈ t.log.table := hx
            rw [htable] at hx'
            obtain ⟨y, _, rfl⟩ := List.mem_map.mp hx'
            rw [hg, Rec.awaits_origin]
            exact Rec.cancelled_origin _ _ _ _
          · have hctx : (t.mrg.ctx i).st = .release := by
              rw [htm]
              exact congrArg MergeCtx.st (Part.onCtx_ctx_self hilt)
            exact hctx
          · have hctx : (t.mrg.ctx i).pins = [] := by
              rw [htm]
              exact congrArg MergeCtx.pins (Part.onCtx_ctx_self hilt)
            exact hctx
          · intro hclean hroom
            have hunder : t.idx.underPressure = false := by
              rw [ht, hidx]
              refine decide_eq_false (Nat.not_le.mpr (lt_of_le_of_lt ?_ hroom))
              exact Nat.add_le_add_right (List.length_filter_le _ _) _
            have hwt : t.win = w := by rw [htm]; rfl
            rw [Part.evalPressure_relaxed hunder]
            refine Eq.trans (b := t.win) rfl (hwt.trans ((hw hclean).trans ?_))
            rw [hwin]
            rfl
      case refine_3 =>
        have hini : t.ini = p.ini := by rw [ht, hcounted]
        refine Eq.trans (b := (({ p with ini := t.ini } : Machine.Part).partFinal cid part .done).ini.at tag) rfl ?_
        rw [hini]
        exact hpart
      all_goals
        rw [ht, hcounted]
        rfl
end Sys2Proof
end

section
/-! Settlement of void and of carry-forward records, and the merges that fail with them (R51, R52, R63, R64, R104 to
R106). -/

namespace Sys2Proof.Machine

/-! ### A merge is abandoned -/

/-- The part as the merge of context `i` has been dropped, its target sent to be reset (R102, R104 to R107). -/
def Part.mergeEnded (s : Part) (i : Nat) (rp : List Nat) : Part :=
  let c := s.mrg.ctx i
  let os := s.mergeOffers i
  { s with
    port.offers := s.port.offers.filter fun o => !(o.work.ofMerge i && o.attempt == 1)
    bands.pool := (s.bands.pool.mapIdx fun n b => b.sentToReset c.target n).mapIdx fun n b => b.released os n
    bands.resetPend := rp
    log.table := s.log.table.map (·.released os c.pins)
    log.waiting := s.log.waiting.filter (· != Waiting.commit i)
    mrg.waitBand := s.mrg.waitBand.filter (· != i)
    mrg.ctxs := s.mrg.ctxs.modify i (·.ended i os) }

theorem Part.mergeEnded_eq (s : Part) (i : Nat) : ∃ rp, (∀ n ∈ (s.mrg.ctx i).target, n ∈ rp) ∧
    (s.toResetPendingOpt (s.mrg.ctx i).target).endMerge i = s.mergeEnded i rp := by
  obtain ⟨rp, hrp, _, hreset⟩ := s.toResetPendingOpt_eq (s.mrg.ctx i).target
  refine ⟨rp, hrp, ?_⟩
  rw [hreset, Part.endMerge_eq]
  rfl

theorem Part.mergeEnded_ctx {s : Part} {i : Nat} (hi : i < s.mrg.ctxs.length) (rp : List Nat) :
    (s.mergeEnded i rp).mrg.ctx i = (s.mrg.ctx i).ended i (s.mergeOffers i) :=
  Part.onCtx_ctx_self (s := s) hi

/-- A band that is not on the list becomes FAULTED (R104, R105). -/
theorem Part.faultBand_unlisted {s : Part} {l : Nat} (h : s.mrg.req l = none) :
    s.faultBand l = (s.onL l fun b => { b with st := .faulted, resume := none }).raise .bandFaulted (some .drive)
      (some l) none none none := by
  have h' : ((s.onL l fun b => { b with st := .faulted, resume := none }).raise .bandFaulted (some .drive)
      (some l) none none none).mrg.req l = none := h
  simp only [Part.faultBand, h']

/-- A band is asked for urgently, with the list empty (R87). -/
theorem Part.offerUrgent_first {s : Part} (l : Nat) (h : s.mrg.reqs = []) :
    s.offerUrgent l = { s with mrg.reqs := [{ band := l, urgent := true }] } := by
  simp [Part.offerUrgent, Merge.req, h, joinUrgent, Config.requestCapacity]

/-- A band of a merge that failed (R104, R106). -/
def LBand.mergeFailed (b : LBand) : LBand :=
  { b with
    failures := min 3 (b.failures + 1)
    st := if min 3 (b.failures + 1) < 3 then b.resume.getD .empty else .faulted
    resume := none }

theorem List.modify_congr_at {α : Type} {l : List α} {i : Nat} {f g : α → α} (h : ∀ x, l[i]? = some x → f x = g x) :
    l.modify i f = l.modify i g := by
  refine List.ext_getElem? fun j => ?_
  by_cases hj : i = j
  · subst hj
    cases hx : l[i]? with
    | none => simp [hx]
    | some x => simp [hx, h x hx]
  · simp [hj]

/-- A band of a merge that failed, before it is asked for again or becomes FAULTED (R104). -/
def LBand.resumed (b : LBand) : LBand :=
  { b with failures := min Config.mergeFailures (b.failures + 1), st := b.resume.getD .empty, resume := none }

/-- The part as a failed merge has been dropped and its band resumed, MERGE_ABANDONED raised (R104, R106). -/
def Part.mergeDropped (s : Part) (i l : Nat) (code : DriveCode) (rp : List Nat) : Part :=
  ((s.mergeEnded i rp).onL l LBand.resumed).raiseAbandoned (s.mrg.ctx i) (some code)

theorem Part.failMerge_dropped {s : Part} {i l : Nat} (code : DriveCode) (hb : (s.mrg.ctx i).band = some l)
    (hl : l < s.bands.lbt.length) : ∃ rp, (∀ n ∈ (s.mrg.ctx i).target, n ∈ rp) ∧
      s.failMerge i code = (if min 3 ((s.bands.lband l).failures + 1) < 3 then
        (s.mergeDropped i l code rp).offerUrgent l else (s.mergeDropped i l code rp).faultBand l).tellMerge i .failed := by
  obtain ⟨rp, hrp, hended⟩ := s.mergeEnded_eq i
  refine ⟨rp, hrp, ?_⟩
  have htarget : (if (s.mrg.ctx i).target.isNone then s else s.toResetPendingOpt (s.mrg.ctx i).target) =
      s.toResetPendingOpt (s.mrg.ctx i).target := by
    cases (s.mrg.ctx i).target <;> rfl
  have hl0 : (s.mrg.ctx i).band.getD 0 = l := by rw [hb]; rfl
  have hfail : ((s.mergeDropped i l code rp).bands.lband l).failures = min 3 ((s.bands.lband l).failures + 1) :=
    congrArg LBand.failures (Part.onL_lband_self (s := s.mergeEnded i rp) hl)
  rw [← hfail]
  unfold Part.failMerge
  dsimp only
  rw [htarget, hended, hl0]
  rfl

/-- MERGE_ABANDONED of a merge that failed, and BAND_FAULTED behind it at the third failure (R104, R172). -/
def Part.mergeFailedEvents (s : Part) (i l : Nat) (code : DriveCode) : Window :=
  let w := s.win.raise .mergeAbandoned (some .drive) (some l) (s.mrg.ctx i).target (some (s.mrg.ctx i).copied)
    (some (driveNum code))
  if min 3 ((s.bands.lband l).failures + 1) < 3 then w
  else w.raise .bandFaulted (some .drive) (some l) none none none

/-- The band of a failed merge is asked for again, or at its third failure becomes FAULTED (R104). -/
theorem Part.mergeDropped_answered {s : Part} {i l : Nat} (code : DriveCode) (rp : List Nat)
    (hb : (s.mrg.ctx i).band = some l) (hl : l < s.bands.lbt.length) : ∃ rs again w,
      (if min 3 ((s.bands.lband l).failures + 1) < 3 then
        (s.mergeDropped i l code rp).offerUrgent l else (s.mergeDropped i l code rp).faultBand l) =
      { s.mergeEnded i rp with
        bands := { (s.mergeEnded i rp).bands with lbt := s.bands.lbt.modify l LBand.mergeFailed }
        mrg := { (s.mergeEnded i rp).mrg with reqs := rs, rescan := again }, win := w } ∧
      (s.mrg.reqs = [] →
        rs = (if min 3 ((s.bands.lband l).failures + 1) < 3 then [{ band := l, urgent := true }] else []) ∧
        w = s.mergeFailedEvents i l code) := by
  have hx : s.bands.lbt[l]? = some (s.bands.lband l) := by simp [Bands.lband, hl]
  have hwin : (s.mergeDropped i l code rp).win = s.win.raise .mergeAbandoned (some .drive) (some l)
      (s.mrg.ctx i).target (some (s.mrg.ctx i).copied) (some (driveNum code)) := by
    rw [← hb]; rfl
  unfold Part.mergeFailedEvents
  by_cases hn : min 3 ((s.bands.lband l).failures + 1) < 3
  · have hlbt : s.bands.lbt.modify l LBand.resumed = s.bands.lbt.modify l LBand.mergeFailed :=
      List.modify_congr_at fun x h => by
        obtain rfl : s.bands.lband l = x := Option.some.inj (hx.symm.trans h)
        unfold LBand.mergeFailed
        rw [if_pos hn]
        rfl
    simp only [if_pos hn]
    obtain ⟨rs, again, w, hask⟩ := (s.mergeDropped i l code rp).asks_offerUrgent l
    refine ⟨rs, again, w, ?_, fun hreqs => ?_⟩
    · rw [hask, ← hlbt]
      rfl
    · have hfirst := hask.symm.trans ((s.mergeDropped i l code rp).offerUrgent_first l hreqs)
      exact ⟨congrArg (fun x : Part => x.mrg.reqs) hfirst, (congrArg Part.win hfirst).trans hwin⟩
  · have hlbt : (s.bands.lbt.modify l LBand.resumed).modify l (fun b => { b with st := .faulted, resume := none }) =
        s.bands.lbt.modify l LBand.mergeFailed := by
      rw [List.modify_modify_eq]
      refine List.modify_congr_at fun x h => ?_
      obtain rfl : s.bands.lband l = x := Option.some.inj (hx.symm.trans h)
      unfold LBand.mergeFailed
      rw [if_neg hn]
      rfl
    simp only [if_neg hn]
    obtain ⟨rs, again, w, hask⟩ := (s.mergeDropped i l code rp).asks_faultBand l
    refine ⟨rs, again, w, ?_, fun hreqs => ?_⟩
    · rw [hask, ← hlbt]
      rfl
    · have hnone : (s.mergeDropped i l code rp).mrg.req l = none := by
        rw [Merge.req, show (s.mergeDropped i l code rp).mrg.reqs = [] from hreqs]
        rfl
      have hfault := hask.symm.trans (Part.faultBand_unlisted hnone)
      refine ⟨(congrArg (fun x : Part => x.mrg.reqs) hfault).trans hreqs, (congrArg Part.win hfault).trans ?_⟩
      rw [← hwin]
      rfl

/-- What a merge that fails at a target write or at its COMMIT writes (R104, R106). -/
theorem Part.failMerge_eq {s : Part} {i l : Nat} (code : DriveCode) (hi : i < s.mrg.ctxs.length)
    (hb : (s.mrg.ctx i).band = some l) (hl : l < s.bands.lbt.length) :
    ∃ rp rs again w, (∀ n ∈ (s.mrg.ctx i).target, n ∈ rp) ∧
      s.failMerge i code = { s.mergeEnded i rp with
        bands := { (s.mergeEnded i rp).bands with lbt := s.bands.lbt.modify l LBand.mergeFailed }
        mrg := { (s.mergeEnded i rp).mrg with
          ctxs := s.mrg.ctxs.modify i fun c => { c.ended i (s.mergeOffers i) with clean := false }
          reqs := rs, rescan := again
          drain := if (s.mrg.ctx i).origin = some .drain then s.mrg.drain.map (·.counts .failed) else s.mrg.drain }
        win := w } ∧
      (s.mrg.reqs = [] →
        rs = (if min 3 ((s.bands.lband l).failures + 1) < 3 then [{ band := l, urgent := true }] else []) ∧
        ((s.mrg.ctx i).clean = false → w = s.mergeFailedEvents i l code)) := by
  obtain ⟨rp, hrp, hfail⟩ := Part.failMerge_dropped code hb hl
  obtain ⟨rs, again, w, hasked, hfirst⟩ := Part.mergeDropped_answered code rp hb hl
  rw [hasked] at hfail
  obtain ⟨x, hx⟩ : ∃ x : Part, x = { s.mergeEnded i rp with
      bands := { (s.mergeEnded i rp).bands with lbt := s.bands.lbt.modify l LBand.mergeFailed }
      mrg := { (s.mergeEnded i rp).mrg with reqs := rs, rescan := again }, win := w } := ⟨_, rfl⟩
  rw [← hx] at hfail
  have hctx : x.mrg.ctx i = (s.mrg.ctx i).ended i (s.mergeOffers i) := by
    rw [hx]
    exact Part.mergeEnded_ctx hi rp
  obtain ⟨w', htell, hw'⟩ := x.tellMerge_eq i .failed
  refine ⟨rp, rs, again, w', hrp, ?_, fun hreqs => ?_⟩
  · rw [hfail, htell, hctx, hx]
    simp only [Part.mergeEnded, List.modify_modify_eq]
    rfl
  · obtain ⟨hrs, hw⟩ := hfirst hreqs
    refine ⟨hrs, fun hclean => (hw' (by rw [hctx]; exact hclean)).trans ?_⟩
    rw [hx]
    exact hw

/-! ### What the entry into DEGRADED leaves of the log -/

/-- How far settlement, the carry-forward passes and the anchor writer have come, and the states of the records. -/
structure Course where
  settled : Nat
  carryFail : Option Nat
  tail : Nat
  occ : Nat
  dirty : Bool
  failures : Nat
  states : List (Nat × RecState)

def Part.course (s : Part) : Course where
  settled := s.log.settled
  carryFail := s.log.carryFail
  tail := s.log.tail
  occ := s.log.occ
  dirty := s.log.anchor.dirty
  failures := s.log.anchor.failures
  states := s.log.states

section
variable (s : Part)

theorem Part.course_table {f : Rec → Rec} (hseq : ∀ r, (f r).seq = r.seq) (hst : ∀ r, (f r).st = r.st) :
    ({ s with log.table := s.log.table.map f } : Part).course = s.course := by
  simp [Part.course, Log.states, Function.comp_def, hseq, hst]

theorem Part.onRec_course (q : Nat) {f : Rec → Rec} (hseq : ∀ r, (f r).seq = r.seq) (hst : ∀ r, (f r).st = r.st) :
    (s.onRec q f).course = s.course :=
  s.course_table (fun r => by split <;> simp [hseq]) (fun r => by split <;> simp [hst])

theorem Part.barrierParts_course : s.barrierParts.course = s.course := by
  unfold Part.barrierParts
  split
  · rfl
  · refine foldl_frame Part.course (fun s r => ?_) _ s
    unfold Part.barrierPart
    split
    · split <;> rfl
    · rfl

theorem Part.markVoids_course : s.markVoids.course = s.course :=
  foldl_frame Part.course (fun s o => by
    split
    · exact s.onRec_course _ (fun _ => rfl) (fun _ => rfl)
    · rfl) _ s

theorem Part.partFinal_course (cid i p) : (s.partFinal cid i p).course = s.course := rfl

theorem Part.finish_course (t code) : (s.finish t code).course = s.course := rfl

theorem Part.dropHeld_course : s.dropHeld.course = s.course :=
  foldl_frame Part.course (fun s _ => s.partFinal_course ..) _ _

theorem Part.course_of_log {s t : Part} (h : t.log = s.log) : t.course = s.course := by
  rw [Part.course, h]
  rfl

theorem Part.failEntries_log (c es) : (s.failEntries c es).log = s.log :=
  foldl_frame Part.log (fun s _ => s.partFinal_log ..) es s

@[simp] theorem Part.replaceEntries_log (l es) : (s.replaceEntries l es).1.log = s.log := by
  induction es generalizing s with
  | nil => rfl
  | cons e es ih => exact ih _

@[simp] theorem Part.offerUrgent_log (l) : (s.offerUrgent l).log = s.log := by
  obtain ⟨rs, again, w, h⟩ := s.asks_offerUrgent l
  rw [h]

theorem Part.Asks.course {s t : Part} (h : s.Asks t) : t.course = s.course := by
  obtain ⟨rs, again, w, rfl⟩ := h
  rfl

theorem Part.clearOut_course (b) : (s.clearOut b).course = s.course := by
  cases b <;> rfl

theorem Part.appendFail_log (l p start) : (s.appendFail l p start).log = s.log := by
  unfold Part.appendFail
  split
  · rfl
  · dsimp only
    split
    · rw [Part.raise_log]
      split <;> simp [Part.offerRefresh]
    · exact Part.failEntries_log ..

theorem Part.withdrawAnchor_course : s.withdrawAnchor.course = s.course := by
  unfold Part.withdrawAnchor
  split
  · rfl
  · unfold Part.finishSettings
    split
    · rfl
    · split <;> rfl

theorem Part.reportWithdrawn_course (o) : (s.reportWithdrawn o).course = s.course := by
  unfold Part.reportWithdrawn
  split
  · exact s.onRec_course _ (fun _ => rfl) (fun _ => rfl)
  · exact s.onRec_course _ (fun _ => rfl) (fun _ => rfl)
  · exact s.withdrawAnchor_course
  · rfl
  · split
    · rfl
    · exact (Part.course_of_log (Part.appendFail_log ..)).trans (s.clearOut_course _)
  · split
    · rfl
    · exact s.clearOut_course _
  · rfl

theorem Part.dropAppends_course (l) : (s.dropAppends l).course = s.course :=
  Part.course_of_log (Part.failEntries_log ..)

theorem Part.withdrawWrites_course : s.withdrawWrites.course = s.course :=
  (foldl_frame Part.course Part.reportWithdrawn_course _ _).trans <|
    (foldl_frame Part.course (fun s l => s.dropAppends_course l) _ _).trans
      (foldl_frame Part.course Part.reportWithdrawn_course _ _)

theorem Part.foldl_unpin_course (l : List Pin) : (l.foldl Part.unpin s).course = s.course := by
  rw [Part.foldl_unpin]
  exact s.course_table (fun _ => rfl) fun _ => rfl

theorem Part.dropCarry_course (i) : (s.dropCarry i).course = s.course := by
  unfold Part.dropCarry
  extract_lets mine os unpinned withdrawn loses log ended
  have hunpinned : unpinned.course = s.course := by
    simp only [unpinned, Part.foldl_unpinOffers]
    exact s.foldl_unpin_course _
  refine Eq.trans (b := ended.course) rfl (Eq.trans ?_ hunpinned)
  exact unpinned.course_table (fun r => by simp only [loses]; split <;> rfl)
    (fun r => by simp only [loses]; split <;> rfl)

theorem Part.endMerge_course (i) : (s.endMerge i).course = s.course := by
  rw [Part.endMerge_eq]
  exact s.course_table (fun _ => rfl) fun _ => rfl

theorem Part.toResetPendingOpt_course (o) : (s.toResetPendingOpt o).course = s.course := by
  obtain ⟨rp, _, _, h⟩ := s.toResetPendingOpt_eq o
  rw [h]
  rfl

theorem Part.dropMerge_course (i) : (s.dropMerge i).course = s.course :=
  Eq.trans (b := ((s.toResetPendingOpt (s.mrg.ctx i).target).endMerge i).course) rfl
    ((Part.endMerge_course _ i).trans (s.toResetPendingOpt_course _))

theorem Part.degradeCtx_course (issued i) : (s.degradeCtx issued i).course = s.course := by
  unfold Part.degradeCtx
  dsimp only
  split
  · rfl
  · rfl
  · split
    · rfl
    · split
      · exact s.dropCarry_course i
      · exact (Part.dropMerge_course _ i).trans
          (s.course_table (fun r => by split <;> rfl) (fun r => by split <;> rfl))
  · split
    · exact s.dropCarry_course i
    · exact s.dropMerge_course i

theorem Part.failMergeDirectives_course : s.failMergeDirectives.course = s.course := by
  unfold Part.failMergeDirectives
  extract_lets told mrg unclean
  have htold : told.course = s.course := by
    unfold told
    split
    · exact (Part.asks_finishClean s _ _).course
    · exact (Part.asks_finishClean s _ _).course
    · rfl
  split
  · exact htold
  · split <;> exact htold

theorem Part.failSettings_course : s.failSettings.course = s.course := by
  unfold Part.failSettings
  split
  · rfl
  · split <;> rfl

theorem Part.degradeAccept_course : s.degradeAccept.course = s.course :=
  foldl_frame Part.course (fun s _ => s.finish_course ..) _ _

/-- Entry into DEGRADED settles nothing and moves no tail (R192). -/
theorem Part.enterDegraded_course : s.enterDegraded.course = s.course := by
  unfold Part.enterDegraded
  split
  · rw [barrierParts_course, degradeAccept_course, failSettings_course, failMergeDirectives_course,
      foldl_frame Part.course (fun s i => s.degradeCtx_course _ i), withdrawWrites_course, dropHeld_course,
      barrierParts_course, markVoids_course]
    rfl
  · rfl

end

end Sys2Proof.Machine
end

section
/-! The settlement of void and of carry-forward records, clause by clause (R51, R52, R63, R64). -/

namespace Sys2Proof.Machine

/-- A record of the table as the settlement of the void record `q` leaves it (R51). -/
def Rec.voidedAs (x : Rec) (q : Nat) : Rec :=
  if x.seq = q then { x with st := .settled, kind := .void, band := none } else x

theorem Rec.voidedAs_seq (x : Rec) (q : Nat) : (x.voidedAs q).seq = x.seq := by
  unfold Rec.voidedAs
  split <;> rfl

theorem Rec.voidedAs_st (x : Rec) (q : Nat) : (x.voidedAs q).st = if x.seq = q then .settled else x.st := by
  unfold Rec.voidedAs
  split <;> rfl

/-- The part as record `q` is settled and marked void (R50, R51). -/
def Part.voided (s : Part) (q : Nat) : Part :=
  { s with log := { s.log with settled := s.log.settled + 1, table := s.log.table.map (·.voidedAs q) } }

theorem Part.settleRec_void {s : Part} {r : Rec} (hv : r.void = true) :
    s.settleRec r = (((s.voided r.seq).settleCounts r).evalPressure).tellVoid r := by
  have hmark : (s.marked r.seq).onRec r.seq (fun r => { r with kind := .void, band := none }) = s.voided r.seq := by
    simp only [Part.marked, Part.voided, Part.onRec, List.map_map]
    congr 2
    refine List.map_congr_left fun x _ => ?_
    by_cases hx : x.seq = r.seq <;> simp [Rec.voidedAs, hx]
  rw [Part.settleRec, if_pos hv, Part.settleVoid, hmark]

theorem Part.voided_states (s : Part) (q : Nat) : (s.voided q).log.states = s.log.settledStates q :=
  Log.states_of_map (l := s.log) rfl (fun x => x.voidedAs_seq q) (fun x => x.voidedAs_st q)

/-- Where the index is not under pressure and has no flag, its evaluation writes nothing (R77). -/
theorem Part.evalPressure_self {s : Part} (h : s.idx.pressure = false)
    (hroom : s.idx.extents.length + s.idx.reserved < 61440) : s.evalPressure = s := by
  have hunder : s.idx.underPressure = false := decide_eq_false (Nat.not_le.mpr hroom)
  rw [Part.evalPressure_relaxed hunder, ← h]

theorem Option.or_some_getD {α : Type} (o : Option α) (a : α) : o.or (some a) = some (o.getD a) := by
  cases o <;> rfl

/-- A carry-forward pass as one of its records has settled (R63, R64). -/
def CarryPass.told (m : CarryPass) (n : Nat) (void : Option DriveCode) : CarryPass :=
  { m with left := m.left - 1, carried := m.carried + n, voided := m.voided.or void }

theorem Part.carrySettled_more {s : Part} {i : Nat} {m : CarryPass} (n : Nat) (void : Option DriveCode)
    (hm : (s.mrg.ctx i).carry = some m) (hleft : 1 < m.left) :
    s.carrySettled i n void = s.onCtx i fun c => { c with carry := some (m.told n void) } := by
  have hne : ¬ m.left - 1 = 0 := by omega
  simp only [Part.carrySettled, hm, if_neg hne]
  rfl

/-- The last settlement of a pass that had a void (R64). -/
theorem Part.carrySettled_failed {s : Part} {i : Nat} {m : CarryPass} {n : Nat} {void : Option DriveCode}
    {code : DriveCode} (hm : (s.mrg.ctx i).carry = some m) (hleft : m.left = 1)
    (hcode : m.voided.or void = some code) :
    s.carrySettled i n void = ({ s with mrg.ctxs := s.mrg.ctxs.modify i fun _ => {} } : Part).carryFailed
      (s.mrg.ctx i).band m.seq (m.carried + n) code := by
  have hband : ∀ q : CarryPass, ((s.onCtx i fun c => { c with carry := some q }).mrg.ctx i).band =
      (s.mrg.ctx i).band := by
    intro q
    by_cases hi : i < s.mrg.ctxs.length
    · rw [Part.onCtx_ctx_self hi]
    · simp [Part.onCtx, Merge.ctx, hi]
  have hzero : m.left - 1 = 0 := by omega
  simp only [Part.carrySettled, hm, if_pos hzero, Part.endCarry, hcode, hband]
  simp only [Part.idleCtx, Part.onCtx, List.modify_modify_eq]
  rfl

/-- The last settlement of a pass that had no void (R64). -/
theorem Part.carrySettled_done {s : Part} {i : Nat} {m : CarryPass} (n : Nat)
    (hm : (s.mrg.ctx i).carry = some m) (hleft : m.left = 1) (hvoided : m.voided = none) :
    s.carrySettled i n none = { s with
      mrg.ctxs := s.mrg.ctxs.modify i fun _ => {}
      log.carryFail := if s.log.carryFail = some m.seq then none else s.log.carryFail } := by
  have hzero : m.left - 1 = 0 := by omega
  simp only [Part.carrySettled, hm, if_pos hzero, Part.endCarry, hvoided, Option.or_none, Part.idleCtx,
    Part.onCtx, List.modify_modify_eq]
  rfl

/-- What the re-pointing of a DATA extent writes, the only one at its start (R63, R72). -/
theorem Part.repoint_eq {s : Part} {e : Extent} {q lp : Nat} (he : e ∈ s.idx.extents) (hd : e.kind = .data)
    (hq : e.seq ≠ q) (honly : ∀ x ∈ s.idx.extents, x.start = e.start → x = e) :
    s.repoint e.seq e.start q lp = { s with
      idx.extents := s.idx.extents.map fun x => if x = e then { x with seq := q, lp := lp } else x
      log.table := s.log.table.map fun x =>
        if x.seq = q then { x with live := e.len } else if x.seq = e.seq then { x with live := x.live - e.len } else x } := by
  have hfind : s.idx.extents.find? (fun x => x.start == e.start && x.seq == e.seq) = some e := by
    have hsome : (s.idx.extents.find? fun x => x.start == e.start && x.seq == e.seq).isSome :=
      List.find?_isSome.mpr ⟨e, he, by simp⟩
    obtain ⟨y, hy⟩ := Option.isSome_iff_exists.mp hsome
    have hys : y.start = e.start ∧ y.seq = e.seq := by simpa using List.find?_some hy
    rw [hy, honly y (List.mem_of_find?_eq_some hy) hys.1]
  have hmap : s.idx.extents.map (fun x => if x.start = e.start ∧ x.seq = e.seq then
      { x with seq := q, lp := if x.kind = .data then lp else x.lp } else x) =
      s.idx.extents.map fun x => if x = e then { x with seq := q, lp := lp } else x := by
    refine List.map_congr_left fun x hx => ?_
    by_cases hxe : x = e
    · simp [hxe, hd]
    · have hn : ¬ (x.start = e.start ∧ x.seq = e.seq) := fun h => hxe (honly x hx h.1)
      rw [if_neg hn, if_neg hxe]
  simp only [Part.repoint, hfind, hmap, Part.loseBlocks_eq, Part.onRec, List.map_map]
  refine congrArg (fun t => ({ s with
    idx.extents := s.idx.extents.map fun x => if x = e then { x with seq := q, lp := lp } else x
    log.table := t } : Part)) (List.map_congr_left fun x _ => ?_)
  simp only [Function.comp, Rec.lose_seq]
  by_cases hxq : x.seq = q
  · simp [hxq, Rec.lose]
  · by_cases hxe : x.seq = e.seq
    · simp [hxe, hq, blocksLost, Rec.lose]
    · simp [hxq, hxe, blocksLost, Rec.lose, Ne.symm hxe]

end Sys2Proof.Machine

namespace Sys2Proof
open Sys2Proof.Machine

/-- SETTLEMENT of one record with no other behind it, by the states of the records. -/
theorem exec_settlement_states {p : Part} {q : List Instr} {r : Rec} (hreset : p.sys.inReset = false)
    (hfind : p.log.find (p.log.settled + 1) = some r) (hseq : r.seq = p.log.settled + 1) (hst : r.st = .completed)
    (hnext : ∀ x, p.log.find (p.log.settled + 2) = some x → x.st ≠ .completed)
    (hset : (p.settleRec r).log.settled = p.log.settled + 1)
    (hstates : (p.settleRec r).log.states = p.log.settledStates r.seq) :
    exec .settlement ⟨p, q⟩ = .next ⟨p.settleRec r, q⟩ := by
  rw [exec_settlement, State.act_awake _ hreset]
  exact congrArg (fun x : Part => Host.Outcome.next (State.mk x q)) (Part.settle_one hfind hseq hst hnext hset hstates)

/-- Settles O34, origin by origin: the counts and the mark of a void record, then what its origin is told. -/
theorem voidAndCarriedRecordsSettle : Obligations.VoidAndCarriedRecordsSettle := by
  intro p q r hreset hfind hseq hst hnext table voided
  have hvoided : (p.voided r.seq).log.table = voided := rfl
  refine ⟨?_, ?_, ?_, ?_, ?_⟩
  case refine_1 =>
    intro l cid part hvoid horigin hband hreserve hpressure hroom
    have hrec : p.settleRec r = { p with
        log := { p.log with settled := p.log.settled + 1, table := voided }
        idx.reserved := p.idx.reserved - 2
        bands.lbt := p.bands.lbt.modify l fun b => { b with unsettled := b.unsettled - 1, reserved := b.reserved - 2 }
        ini := (p.partFinal cid part (.failed .mediumError)).ini } := by
      have hcounts := Part.settleCounts_cmd (s := p.voided r.seq) horigin hband
      have heval : ((p.voided r.seq).settleCounts r).evalPressure = (p.voided r.seq).settleCounts r := by
        refine Part.evalPressure_self (by rw [hcounts]; exact hpressure) ?_
        rw [hcounts]
        exact lt_of_le_of_lt (Nat.add_le_add_left (Nat.sub_le _ _) _) hroom
      rw [Part.settleRec_void hvoid, heval, hcounts, hreserve]
      simp only [Part.tellVoid, horigin]
      rfl
    rw [exec_settlement_states hreset hfind hseq hst hnext (by rw [hrec]) (by rw [hrec]; exact p.voided_states r.seq), hrec]
  case refine_2 =>
    intro i l hvoid horigin hi hband hl hresume n
    have hcounts : (p.voided r.seq).settleCounts r = p.voided r.seq := Part.settleCounts_other (by simp [horigin])
    have hrec : p.settleRec r = (p.voided r.seq).evalPressure.failMerge i r.failCode := by
      rw [Part.settleRec_void hvoid, hcounts]
      simp only [Part.tellVoid, horigin]
    obtain ⟨rp, rs, again, w, hrp, hfail, hfirst⟩ :=
      Part.failMerge_eq (s := (p.voided r.seq).evalPressure) r.failCode hi hband hl
    have hlb : (p.settleRec r).bands.lband l = (p.bands.lband l).mergeFailed := by
      rw [hrec, hfail]
      exact Bands.lband_modify (b := p.bands) rfl hl
    have hctx : (p.settleRec r).mrg.ctx i =
        { (p.mrg.ctx i).ended i ((p.voided r.seq).evalPressure.mergeOffers i) with clean := false } := by
      rw [hrec, hfail]
      exact Part.onCtx_ctx_self (s := p) hi
    obtain ⟨o, ho⟩ := Option.isSome_iff_exists.mp hresume
    have hexec : exec .settlement ⟨p, q⟩ = .next ⟨p.settleRec r, q⟩ := by
      refine exec_settlement_states hreset hfind hseq hst hnext (by rw [hrec, hfail]; rfl) ?_
      rw [hrec, hfail, ← p.voided_states r.seq]
      simp [Log.states, Part.mergeEnded, Rec.released, Function.comp_def]
    refine ⟨p.settleRec r, hexec, by rw [hrec, hfail]; rfl, by rw [hrec, hfail]; rfl, by rw [hlb]; rfl,
      by rw [hlb]; rfl, by rw [hlb]; rfl, ?_, fun t ht => ?_, by rw [hctx]; rfl, by rw [hctx]; rfl, fun hn hreqs => ?_⟩
    · rw [hlb, ho]
      show some (if n < 3 then (p.bands.lband l).resume.getD .empty else .faulted) = _
      rw [ho]
      split <;> rfl
    · rw [hrec, hfail]
      exact hrp t ht
    · rw [hrec, hfail]
      exact (hfirst hreqs).1.trans (if_pos hn)
  case refine_3 =>
    intro i l m e hvoid hkind horigin hi hband hm hcarries he heseq hekind hne honly pointed settled
    have hcounts : (p.marked r.seq).settleCounts r = p.marked r.seq := Part.settleCounts_other (by simp [horigin])
    have hpoint : (p.marked r.seq).settleCarry r = { p with
        log := { p.log with settled := p.log.settled + 1, table := settled }, idx.extents := pointed } := by
      simp only [Part.settleCarry, hcarries, ← heseq]
      rw [Part.repoint_eq (s := p.marked r.seq) he hekind (heseq ▸ hne) honly]
      have htable : (p.log.table.map fun x => if x.seq = r.seq then { x with st := .settled } else x).map (fun x =>
          if x.seq = r.seq then { x with live := e.len }
          else if x.seq = e.seq then { x with live := x.live - e.len } else x) = settled := by
        rw [List.map_map]
        refine List.map_congr_left fun x _ => ?_
        by_cases hx : x.seq = r.seq <;> simp [hx, heseq]
      exact congrArg (fun t => ({ p with
        log := { p.log with settled := p.log.settled + 1, table := t }, idx.extents := pointed } : Machine.Part)) htable
    have hrec : p.settleRec r = ({ p with
        log := { p.log with settled := p.log.settled + 1, table := settled }
        idx.extents := pointed } : Machine.Part).carrySettled i r.n none := by
      rw [← hpoint]
      simp only [Part.settleRec, hvoid, if_neg Bool.false_ne_true, Part.settleEffect, hcounts, hkind, horigin]
    have hstates : ∀ x : Machine.Part, x.log.table = settled → x.log.states = p.log.settledStates r.seq := fun x hx =>
      Log.states_of_map (l := p.log) hx (fun y => by by_cases h : y.seq = r.seq <;> simp [h, apply_ite Rec.seq])
        (fun y => by by_cases h : y.seq = r.seq <;> simp [h, apply_ite Rec.st])
    refine ⟨fun hleft => ?_, fun hleft hvoided => ?_⟩
    · rw [Part.carrySettled_more r.n none (by exact hm) hleft] at hrec
      rw [exec_settlement_states hreset hfind hseq hst hnext (by rw [hrec]; rfl) (hstates _ (by rw [hrec]; rfl)), hrec]
      simp only [CarryPass.told, Option.or_none]
      rfl
    · rw [Part.carrySettled_done r.n (by exact hm) hleft hvoided] at hrec
      rw [exec_settlement_states hreset hfind hseq hst hnext (by rw [hrec]) (hstates _ (by rw [hrec])), hrec]
  case refine_4 =>
    intro i l m hvoid horigin hi hm hband hleft hfail hpressure hroom code
    have hcounts : (p.voided r.seq).settleCounts r = p.voided r.seq := Part.settleCounts_other (by simp [horigin])
    have hrec : p.settleRec r = { p with
          log := { p.log with settled := p.log.settled + 1, table := voided, carryFail := some m.seq }
          mrg.ctxs := p.mrg.ctxs.modify i fun _ => {}
          win := p.win.raise .mergeAbandoned (some .drive) (some l) none (some m.carried)
            (some (driveNum code)) } := by
      rw [Part.settleRec_void hvoid, hcounts, Part.evalPressure_self (s := p.voided r.seq) hpressure hroom]
      simp only [Part.tellVoid, horigin]
      rw [Part.carrySettled_failed (s := p.voided r.seq) hm hleft (code := code) (Option.or_some_getD ..)]
      simp only [Part.carryFailed]
      rw [if_neg (by exact hfail)]
      rw [show ((p.voided r.seq).mrg.ctx i).band = some l from hband]
      rfl
    rw [exec_settlement_states hreset hfind hseq hst hnext (by rw [hrec]) (by rw [hrec]; exact p.voided_states r.seq), hrec]
  case refine_5 =>
    intro i m hvoid horigin hi hm hleft hfail hmode
    have hcounts : (p.voided r.seq).settleCounts r = p.voided r.seq := Part.settleCounts_other (by simp [horigin])
    obtain ⟨x, hx⟩ : ∃ x : Machine.Part, x = ({ (p.voided r.seq).evalPressure with
        mrg.ctxs := p.mrg.ctxs.modify i fun _ => {} } : Machine.Part).raise .mergeAbandoned (some .drive)
          (p.mrg.ctx i).band none (some m.carried) (some (driveNum (m.voided.getD r.failCode))) := ⟨_, rfl⟩
    have hrec : p.settleRec r = x.enterDegraded := by
      rw [Part.settleRec_void hvoid, hcounts]
      simp only [Part.tellVoid, horigin]
      rw [Part.carrySettled_failed (s := (p.voided r.seq).evalPressure) hm hleft
        (code := m.voided.getD r.failCode) (Option.or_some_getD ..), hx]
      simp only [Part.carryFailed]
      exact if_pos hfail
    have hcourse : (p.settleRec r).course = (p.voided r.seq).course := by
      rw [hrec, Part.enterDegraded_course, hx]
      rfl
    have hset := congrArg Course.settled hcourse
    have hcf := congrArg Course.carryFail hcourse
    have hstates := congrArg Course.states hcourse
    refine ⟨p.settleRec r, exec_settlement_states hreset hfind hseq hst hnext hset
      (hstates.trans (p.voided_states r.seq)), hset, ?_, hcf.trans hfail⟩
    rw [hrec, Part.enterDegraded_sys _ (by rw [hx]; exact hmode), hx]
    rfl
end Sys2Proof
end

section
/-! Reclaim and the anchor writer (R15, R18, R42, R56 to R61, R176). -/

namespace Sys2Proof.Machine

/-! ### Reclaim -/

theorem Part.reclaimable_iff {s : Part} {r : Rec} (hst : r.st = .settled) :
    s.reclaimable r = true ↔ r.live = 0 ∧ r.readers = 0 ∧ ∀ h ∈ s.holdSeqs, r.seq ≤ h := by
  simp [Part.reclaimable, hst, and_assoc]

theorem Log.needed_of_reclaimed {l : Log} {old new : List Rec} (ht : l.table = old ++ new)
    (hold : ∀ x ∈ old, x.st = .reclaimed) (hnew : ∀ r ∈ new.head?, r.st ≠ .reclaimed) : l.needed = new := by
  rw [Log.needed, ht, List.dropWhile_append_of_pos (by simpa using hold)]
  cases new with
  | nil => rfl
  | cons r rs => exact List.dropWhile_cons_of_neg (by simpa using hnew r rfl)

/-! ### The anchor writer -/

theorem thresholds_le (len : Nat) {a b : Nat} (h : a ≤ b) : len * a / 256 ≤ len * b / 256 :=
  Nat.div_le_div_right (Nat.mul_le_mul_left len h)

/-- An anchor holds nothing of the anchor writer or of the drive's work (R59). -/
theorem Part.anchorData_congr (s : Part) (a : AnchorWriter) (port : Port) :
    ({ s with log.anchor := a, port := port } : Part).anchorData = s.anchorData := by
  simp only [Part.anchorData, Log.reclaimSeq, Log.needed]

theorem Part.buildAnchor_congr (s : Part) (a : AnchorWriter) (port : Port) :
    ({ s with log.anchor := a, port := port } : Part).buildAnchor = s.buildAnchor := by
  rw [Part.buildAnchor, Part.anchorData_congr]
  simp only [Part.buildAnchor, Part.pendingSettings, Log.reclaimSeq, Log.needed]

theorem Part.buildAnchor_block (s : Part) : s.buildAnchor.block = encodeAnchor s.anchorData := by
  simp only [Part.buildAnchor]

/-- A trigger in ACTIVE with no anchor write in flight offers one (R59). -/
theorem Part.triggerAnchor_offers {s : Part} (hm : s.sys.mode = .active) (hf : s.log.anchor.flight = none) :
    s.triggerAnchor = { s with
      log.anchor := { s.log.anchor with flight := some s.buildAnchor, dirty := false }
      port.offers := s.port.offers ++ [{ cls := .a, work := .anchor, cmd := .write 0 1 }] } := by
  rw [Part.triggerAnchor, if_pos ⟨hm, by rw [hf]; rfl⟩]
  rfl

theorem Part.holdsLog_active {s : Part} (h : s.sys.mode = .active) : s.holdsLog = true := by
  simp [Part.holdsLog, Part.mounted, h]

/-- The credit and the level where `t` blocks have been freed (R15, R18). -/
def Part.paceFreed (s : Part) (t : Nat) : Pace :=
  let credited : Pace :=
    { level := s.pace.level, credit := min 65535 (s.pace.credit + (t * s.cfg.policy.paceQ + s.pace.rem) / 4)
      rem := (t * s.cfg.policy.paceQ + s.pace.rem) % 4 }
  match s.pace.level with
  | .normal => { s.pace with level := if s.log.occ < s.tLow then .normal else .reclaim }
  | .reclaim => { s.pace with level := if s.log.occ < s.tLow then .normal else .reclaim }
  | .pressure => if s.log.occ < s.tHigh - s.hyst then { level := .reclaim, credit := 0, rem := 0 } else credited
  | .full => if s.log.occ < s.tHard then { level := .pressure, credit := s.cfg.policy.burst, rem := 0 } else credited

/-- A level that does not rise to PRESSURE or FULL raises nothing (R15). -/
theorem Part.evalLevel_calm {s : Part} {new : Level} (hlog : s.holdsLog = true) (hnext : s.nextLevel = new)
    (hcalm : new = s.pace.level ∨ (new ≠ .pressure ∧ new ≠ .full)) :
    s.evalLevel = { s with pace := s.pace.move s.cfg.policy.burst new } := by
  rw [Part.evalLevel, if_pos hlog, hnext, if_neg]
  rintro ⟨hne, hnew⟩
  rcases hcalm with h | ⟨hp, hf⟩
  · exact hne h
  · exact hnew.elim hp hf

/-- PRESSURE entered raises LEVEL_CHANGE (R15). -/
theorem Part.evalLevel_enters {s : Part} (hlog : s.holdsLog = true) (hnext : s.nextLevel = .pressure)
    (hne : s.pace.level ≠ .pressure) : s.evalLevel = { s with
      pace := s.pace.move s.cfg.policy.burst .pressure
      win := s.win.raise .levelChange (some .log) none none (some s.log.occ) (some 2) } := by
  rw [Part.evalLevel, if_pos hlog, hnext, if_pos ⟨Ne.symm hne, .inl rfl⟩]
  rfl

/-- Blocks freed are credited, and the level follows (R15, R18), where it does not rise. -/
theorem Part.creditFor_evalLevel {s : Part} (t : Nat) (hlog : s.holdsLog = true) (hq : s.tHigh ≤ s.tHard)
    (hlow : s.pace.level = .normal ∨ s.pace.level = .reclaim → s.log.occ < s.tHigh)
    (hpressure : s.pace.level = .pressure → s.log.occ < s.tHard) :
    (s.creditFor t).evalLevel = { s with
      pace := s.paceFreed t
      win := if s.pace.level = .full ∧ s.log.occ < s.tHard then
          s.win.raise .levelChange (some .log) none none (some s.log.occ) (some 2)
        else s.win } := by
  have hfree : s.pace.level = .normal ∨ s.pace.level = .reclaim → (s.creditFor t).evalLevel =
      { s with pace := { s.pace with level := if s.log.occ < s.tLow then .normal else .reclaim } } := by
    intro hb
    have hocc := hlow hb
    have hcredit : s.creditFor t = s := if_neg (by rcases hb with h | h <;> simp [h])
    have hnext : s.nextLevel = if s.log.occ < s.tLow then .normal else .reclaim := by
      rcases hb with h | h <;>
        simp only [Part.nextLevel, Sys2Proof.Machine.nextLevel, h, if_neg (show ¬ s.tHard ≤ s.log.occ by omega),
          if_neg (Nat.not_le.mpr hocc)]
      by_cases hl : s.log.occ < s.tLow <;> simp [hl, Nat.not_le.mpr, Nat.not_lt.mp]
    rw [hcredit, Part.evalLevel_calm hlog hnext (.inr (by split <;> decide))]
    split
    · rw [Pace.move_normal _ _ hb]
    · rw [Pace.move_reclaim _ _ hb]
  cases hb : s.pace.level with
  | normal => simpa [Part.paceFreed, hb] using hfree (.inl hb)
  | reclaim => simpa [Part.paceFreed, hb] using hfree (.inr hb)
  | pressure =>
    have hocc := hpressure hb
    have hcredit : s.creditFor t = { s with pace := creditFreed s.cfg.policy.paceQ t s.pace } := if_pos (.inl hb)
    have hlevel : (creditFreed s.cfg.policy.paceQ t s.pace).level = .pressure := hb
    rw [hcredit]
    by_cases hl : s.log.occ < s.tHigh - s.hyst
    · refine (Part.evalLevel_calm (new := .reclaim) (by exact hlog) ?_ (.inr (by decide))).trans ?_
      rotate_left
      · simp [Part.paceFreed, hb, hl, Pace.move, hlevel]
      · exact (congrArg (Sys2Proof.Machine.nextLevel _ _ _ _ · _) hlevel).trans (nextLevel_leaves_pressure hq hl)
    · refine (Part.evalLevel_calm (new := .pressure) (by exact hlog) ?_ (.inl (by exact hlevel.symm))).trans ?_
      rotate_left
      · simp [Part.paceFreed, hb, hl, Pace.move, creditFreed]
        rfl
      · exact (congrArg (Sys2Proof.Machine.nextLevel _ _ _ _ · _) hlevel).trans (nextLevel_stays_pressure (Nat.not_lt.mp hl) hocc)
  | full =>
    have hcredit : s.creditFor t = { s with pace := creditFreed s.cfg.policy.paceQ t s.pace } := if_pos (.inr hb)
    have hlevel : (creditFreed s.cfg.policy.paceQ t s.pace).level = .full := hb
    rw [hcredit]
    by_cases hl : s.log.occ < s.tHard
    · have hnext : ({ s with pace := creditFreed s.cfg.policy.paceQ t s.pace } : Part).nextLevel = .pressure :=
        (congrArg (Sys2Proof.Machine.nextLevel _ _ _ _ · _) hlevel).trans (nextLevel_pressure (by decide) (.inr rfl) hl)
      refine (Part.evalLevel_enters (by exact hlog) hnext (by rw [hlevel]; decide)).trans ?_
      simp [Part.paceFreed, hb, hl, Pace.move, hlevel]
    · refine (Part.evalLevel_calm (new := .full) (by exact hlog) ?_ (.inl (by exact hlevel.symm))).trans ?_
      rotate_left
      · simp [Part.paceFreed, hb, hl, Pace.move, creditFreed]
        rfl
      · exact (congrArg (Sys2Proof.Machine.nextLevel _ _ _ _ · _) hlevel).trans (nextLevel_full (Nat.not_lt.mp hl))

/-- What the completion of an anchor write comes to, in a slot whose completion is handed on (R60, R61). -/
theorem State.act_anchorWriteComplete {p : Part} {q : List Instr} {k : Fin 32} {o : Offer} {w : AnchorWrite}
    (code : DriveCode) (hreset : p.sys.inReset = false) (hruns : p.port.runs k o) (hwork : o.work = .anchor)
    (hband : o.band = none) (hflight : p.log.anchor.flight = some w) (hmode : p.sys.mode = .active) :
    exec (.anchorWriteComplete k code) ⟨p, q⟩ = .next ⟨
      (if finalCode code = .good then
        ({ p with port.slots := p.port.slots.set k none } : Part).anchorGood w
      else ({ p with port.slots := p.port.slots.set k none } : Part).anchorFailed w (finalCode code)), q⟩ := by
  rw [exec_anchorWriteComplete, State.act_awake _ hreset, Part.complete_runs _ hruns (by simp [hwork]), hband]
  have hlog : ({ p with port.slots := p.port.slots.set k none } : Part).holdsLog = true :=
    Part.holdsLog_active (s := { p with port.slots := p.port.slots.set k none }) hmode
  simp only [Part.clearOut, Part.anchorFinal, hflight, hlog]
  rfl

theorem finalCode_ne_good {code : DriveCode} (h : code ≠ .good) : finalCode code ≠ .good := by
  cases code with
  | good => exact absurd rfl h
  | mediumError | alignError | aborted | otherError | unnamed c => simp [finalCode]

/-- A settings directive that an anchor write carried is finished (R60). -/
theorem Part.finishSettings_eq (s : Part) (carried : Option (BitVec 32)) (r : Result) :
    s.finishSettings carried r = { s with
      win := if carried.isSome = true ∧ s.pendingSettings = carried then s.win.finish r [] else s.win } := by
  cases carried with
  | none => rfl
  | some n =>
    simp only [Part.finishSettings, Option.isSome_some, true_and]
    split <;> rfl

theorem Window.finish_idle {w : Window} (r : Result) (data : List Byte) : (w.finish r data).dirPending = none := by
  unfold Window.finish Window.update Window.respond Window.raise
  split
  · assumption
  · split <;> split <;> rfl

theorem Part.pendingSettings_congr {s t : Part} (h : t.win.dirPending = s.win.dirPending) :
    t.pendingSettings = s.pendingSettings := by
  simp only [Part.pendingSettings, h]

theorem Part.pendingSettings_idle {s : Part} (h : s.win.dirPending = none) : s.pendingSettings = none := by
  simp only [Part.pendingSettings, h]

/-- The pending settings directive, if there is one, is FAILED (R61). -/
theorem Part.failPendingSettings_eq (s : Part) : s.failPendingSettings = { s with
      win := if s.pendingSettings = none then s.win else s.win.finish .failed [] } ∧
    s.failPendingSettings.pendingSettings = none := by
  unfold Part.failPendingSettings
  cases h : s.pendingSettings with
  | none => exact ⟨rfl, h⟩
  | some n => exact ⟨rfl, Part.pendingSettings_idle (Window.finish_idle ..)⟩

/-- The entry into DEGRADED ends the settings directive that no anchor write in flight carries (R176). -/
theorem Part.failSettings_eq {s : Part} {w : AnchorWrite} (hf : s.log.anchor.flight = some w) :
    s.failSettings = { s with
      win := if s.pendingSettings = none ∨ w.dir = s.pendingSettings then s.win else s.win.finish .failed [] } := by
  unfold Part.failSettings
  cases h : s.pendingSettings with
  | none => rfl
  | some n =>
    by_cases hd : w.dir = some n
    · simp [hf, hd]
    · simp [hf, hd, Part.finishDirective]

/-- The second error of an anchor write in a row, where nothing else waits or runs (R61, R176). -/
theorem Part.anchorFailed_quiet {s : Part} {w : AnchorWrite} {code : DriveCode} (hm : s.sys.mode = .active)
    (hf : s.log.anchor.flight = some w) (hn : s.log.anchor.failures ≠ 0) (hq : s.quiet) :
    s.anchorFailed w code = { s with
      sys := { s.sys with mode := .degraded, halt := .none }
      log.anchor := { s.log.anchor with flight := none, failures := 2 }
      win :=
        let entered := s.win.raise .modeChange (some .mode) none none none (some 3)
        let failed := fun (x : Window) => x.raise .anchorFail (some .drive) none none none (some (driveNum code))
        if s.pendingSettings = none then failed entered
        else if w.dir = s.pendingSettings then (failed entered).finish .failed []
        else failed (entered.finish .failed []) } := by
  obtain ⟨x, hx⟩ : ∃ x : Part, x = ({ s with log.anchor.failures := 2 } : Part).enter .degraded .none := ⟨_, rfl⟩
  have hdegraded : ({ s with log.anchor.failures := 2 } : Part).enterDegraded = x.failSettings := by
    rw [hx]
    exact Part.enterDegraded_quiet _ hm hq
  have hpx : x.pendingSettings = s.pendingSettings := by
    rw [hx]
    exact Part.pendingSettings_congr (Window.raise_dirPending ..)
  have hfx : x.log.anchor.flight = some w := by rw [hx]; exact hf
  have hpending : ∀ y : Part, (y.raise .anchorFail (some .drive) none none none (some (driveNum code))).pendingSettings =
      y.pendingSettings := fun y => Part.pendingSettings_congr (Window.raise_dirPending ..)
  rw [Part.anchorFailed, if_neg hn]
  dsimp only
  rw [hdegraded, Part.failSettings_eq hfx, (Part.failPendingSettings_eq _).1, hpending, hpx]
  have hidle : ∀ y : Part, (y.finishDirective .failed []).pendingSettings = none := fun y =>
    Part.pendingSettings_idle (Window.finish_idle ..)
  cases h : s.pendingSettings with
  | none =>
    have hnone : ({ x with win := x.win } : Part).pendingSettings = none := hpx.trans h
    simp only [eq_self, reduceIte, true_or, hnone]
    rw [hx]
    rfl
  | some n =>
    by_cases hd : w.dir = some n
    · have hsome : ({ x with win := x.win } : Part).pendingSettings = some n := hpx.trans h
      simp only [reduceCtorEq, reduceIte, false_or, hd, hsome]
      rw [hx]
      rfl
    · have hnone : ({ x with win := x.win.finish .failed [] } : Part).pendingSettings = none := hidle x
      simp only [reduceCtorEq, reduceIte, false_or, hd, hnone]
      rw [hx]
      rfl

/-- The second error of an anchor write in a row, whatever else waits or runs (R61). -/
theorem Part.anchorFailed_second {s : Part} (w : AnchorWrite) (code : DriveCode) (hm : s.sys.mode = .active)
    (hn : s.log.anchor.failures ≠ 0) :
    (s.anchorFailed w code).sys = { s.sys with mode := .degraded, halt := .none } ∧
      (s.anchorFailed w code).log.anchor = { s.log.anchor with flight := none, failures := 2 } ∧
      (s.anchorFailed w code).log.tail = s.log.tail ∧ (s.anchorFailed w code).log.occ = s.log.occ ∧
      (s.anchorFailed w code).pendingSettings = none := by
  obtain ⟨x, hx⟩ : ∃ x : Part, x = ({ s with log.anchor.failures := 2 } : Part).enterDegraded := ⟨_, rfl⟩
  have hcourse := Part.enterDegraded_course { s with log.anchor.failures := 2 }
  have hsys := Part.enterDegraded_sys { s with log.anchor.failures := 2 } hm
  rw [← hx] at hcourse hsys
  obtain ⟨y, hy⟩ : ∃ y : Part, y = x.raise .anchorFail (some .drive) none none none (some (driveNum code)) := ⟨_, rfl⟩
  have hfailed : s.anchorFailed w code = { y.failPendingSettings with log.anchor.flight := none } := by
    rw [Part.anchorFailed, if_neg hn, hy, hx]
  obtain ⟨heq, hnone⟩ := y.failPendingSettings_eq
  have hylog : y.failPendingSettings.log = x.log := by rw [heq, hy]; rfl
  have hysys : y.failPendingSettings.sys = x.sys := by rw [heq, hy]; rfl
  rw [hfailed]
  refine ⟨hysys.trans hsys, ?_, ?_, ?_, hnone⟩
  · have hdirty := congrArg Course.dirty hcourse
    have hfailures := congrArg Course.failures hcourse
    simp only [Part.course] at hdirty hfailures
    show { y.failPendingSettings.log.anchor with flight := none } = _
    rw [hylog]
    dsimp only
    rw [hdirty, hfailures]
  · exact (congrArg Log.tail hylog).trans (congrArg Course.tail hcourse)
  · exact (congrArg Log.occ hylog).trans (congrArg Course.occ hcourse)

/-- The part as a GOOD anchor write has freed the records before its tail, and the settings directive it carried is
done (R15, R18, R60). -/
def Part.anchorMoved (s : Part) (w : AnchorWrite) : Part :=
  let freed := ((s.log.table.filter fun r => decide (r.seq < w.tailSeq)).map (·.len)).sum
  let occ := s.log.occ - freed
  let win := if s.pace.level = .full ∧ occ < s.tHard then
      s.win.raise .levelChange (some .log) none none (some occ) (some 2)
    else s.win
  { s with
    log := { s.log with
      tail := w.tail, table := s.log.table.filter (fun r => decide (w.tailSeq ≤ r.seq)), occ := occ, anchor := {} }
    pace := ({ s with log.occ := occ } : Part).paceFreed freed
    win := if w.dir.isSome = true ∧ s.pendingSettings = w.dir then win.finish .done [] else win }

theorem Part.anchorGood_eq {s : Part} {w : AnchorWrite} (hm : s.sys.mode = .active) (hq : s.tHigh ≤ s.tHard)
    (hlow : s.pace.level = .normal ∨ s.pace.level = .reclaim →
      s.log.occ - ((s.log.table.filter fun r => decide (r.seq < w.tailSeq)).map (·.len)).sum < s.tHigh)
    (hpressure : s.pace.level = .pressure →
      s.log.occ - ((s.log.table.filter fun r => decide (r.seq < w.tailSeq)).map (·.len)).sum < s.tHard) :
    s.anchorGood w = if s.log.anchor.dirty then (s.anchorMoved w).triggerAnchor else s.anchorMoved w := by
  have hfilter : (s.log.table.filter fun r => !decide (r.seq < w.tailSeq)) =
      s.log.table.filter fun r => decide (w.tailSeq ≤ r.seq) :=
    List.filter_congr fun r _ => by rw [← decide_not, decide_eq_decide, Nat.not_lt]
  unfold Part.anchorGood
  extract_lets gone t log s1 s2 log2 anchor2 s3 s4 dirty log4 anchor4 s5
  have h2 : s2 = _ := Part.creditFor_evalLevel (s := s1) t (Part.holdsLog_active hm) hq hlow hpressure
  have h4 : s4 = _ := s3.finishSettings_eq w.dir .done
  have hpend : s3.pendingSettings = s.pendingSettings := by
    refine Part.pendingSettings_congr ?_
    show s2.win.dirPending = _
    rw [h2]
    dsimp only
    split
    · exact Window.raise_dirPending ..
    · rfl
  rw [hpend] at h4
  have hdirty : dirty = s.log.anchor.dirty := by
    simp only [dirty, h4, s3, log2, anchor2, h2, s1, log]
  have h5 : s5 = s.anchorMoved w := by
    simp only [s5, log4, anchor4, h4, s3, log2, anchor2, h2, s1, log, hfilter]
    rfl
  rw [hdirty, h5]

end Sys2Proof.Machine

namespace Sys2Proof
open Sys2Proof.Machine

/-- Settles O35: reclaim by its one step, an anchor write's completion by its three cases. -/
theorem reclaimAndAnchorMoveTheTails : Obligations.ReclaimAndAnchorMoveTheTails := by
  refine ⟨?_, ?_⟩
  · intro p q old r hreset hmode htable hold hst hflight free
    have hneeded : p.log.needed = [r] :=
      Log.needed_of_reclaimed htable (fun x hx => (hold x hx).1) (by simp [hst])
    have hreclaimable := Part.reclaimable_iff (s := p) hst
    rw [exec_reclaimAdvance, State.act_awake _ hreset]
    have hlog := Part.holdsLog_active hmode
    refine ⟨fun hfree => ?_, fun hfree => ?_⟩
    · have hone : p.reclaimOne = none := by
        simp [Part.reclaimOne, hneeded, hreclaimable, show ¬ (r.live = 0 ∧ _) from hfree]
      have hnone : p.reclaimAdvance = p := by
        simp only [Part.reclaimAdvance, if_pos hlog, hone]
      exact congrArg (fun x : Machine.Part => Host.Outcome.next (State.mk x q)) hnone
    · have hone : p.reclaimOne = some { p with log := { p.log with
          table := old ++ [{ r with st := .reclaimed }]
          reclaim := p.sys.layout.nextPos p.log.reclaim r.len
          carryFail := if p.log.carryFail = some r.seq then none else p.log.carryFail } } := by
        have hmap : p.log.table.map (fun x => if x.seq = r.seq then { x with st := .reclaimed } else x) =
            old ++ [{ r with st := .reclaimed }] := by
          rw [htable, List.map_append, List.map_congr_left fun x hx => if_neg (hold x hx).2]
          simp
        simp only [Part.reclaimOne, hneeded, if_pos (hreclaimable.mpr hfree), Part.onRec, hmap]
      obtain ⟨t, ht⟩ : ∃ t : Machine.Part, t = { p with log := { p.log with
          table := old ++ [{ r with st := .reclaimed }]
          reclaim := p.sys.layout.nextPos p.log.reclaim r.len
          carryFail := if p.log.carryFail = some r.seq then none else p.log.carryFail } } := ⟨_, rfl⟩
      rw [← ht] at hone
      have hnone : t.log.needed = [] := by
        rw [ht]
        exact Log.needed_of_reclaimed (old := old ++ [{ r with st := .reclaimed }]) (List.append_nil _).symm
          (by intro x hx; rcases List.mem_append.mp hx with hx | hx
              · exact (hold x hx).1
              · rw [List.mem_singleton.mp hx]) (by simp)
      have hstop : t.reclaimOne = none := by simp only [Part.reclaimOne, hnone]
      have hadvance : p.reclaimAdvance = t.triggerAnchor := by
        simp only [Part.reclaimAdvance, if_pos hlog, hone, Part.repeatStep_none _ _ _ hstop]
      have htrigger := Part.triggerAnchor_offers (s := t) (by rw [ht]; exact hmode) (by rw [ht]; exact hflight)
      refine ⟨_, t.buildAnchor, congrArg (fun x : Machine.Part => Host.Outcome.next (State.mk x q))
        (hadvance.trans htrigger), ?_⟩
      have hblock : t.buildAnchor.block = encodeAnchor ({ t with
          log.anchor := { t.log.anchor with flight := some t.buildAnchor, dirty := false }
          port.offers := t.port.offers ++ [{ cls := .a, work := .anchor, cmd := .write 0 1 }] } : Machine.Part).anchorData := by
        rw [t.buildAnchor_block]
        exact congrArg encodeAnchor (t.anchorData_congr _ _).symm
      have hseq : t.buildAnchor.tailSeq = p.log.nextSeq := by
        simp only [Part.buildAnchor, Log.reclaimSeq, hnone]
        rw [ht]
      refine ⟨?_, ?_, ?_, ?_, ?_, ?_, rfl, hseq, hblock, ?_, ?_⟩ <;> rw [ht] <;> rfl
  · intro p q k o w hreset hruns hwork hband hflight hmode freed
    refine ⟨?_, ?_, ?_⟩
    case refine_1 =>
      intro occ t x credited pace win hquanta hlow hpressure
      have hgood := Part.anchorGood_eq (s := { p with port.slots := p.port.slots.set k none }) (w := w) hmode
        (thresholds_le _ hquanta) hlow hpressure
      rw [State.act_anchorWriteComplete .good hreset hruns hwork hband hflight hmode,
        if_pos (show finalCode .good = .good from rfl)]
      cases hdirty : p.log.anchor.dirty with
      | false =>
        refine ⟨_, congrArg (fun x : Machine.Part => Host.Outcome.next (State.mk x q))
          (hgood.trans (if_neg (by simp [hdirty]))), ?_⟩
        simp only [Bool.false_eq_true, if_false, List.append_nil]
        rfl
      | true =>
        obtain ⟨m, hm⟩ : ∃ m : Machine.Part,
          m = ({ p with port.slots := p.port.slots.set k none } : Machine.Part).anchorMoved w := ⟨_, rfl⟩
        rw [← hm] at hgood
        have htrigger := Part.triggerAnchor_offers (s := m) (by rw [hm]; exact hmode) (by rw [hm]; rfl)
        have hbuild := m.buildAnchor_congr { m.log.anchor with flight := some m.buildAnchor, dirty := false }
          { m.port with offers := m.port.offers ++ [{ cls := .a, work := .anchor, cmd := .write 0 1 }] }
        have hgood' := (hgood.trans (if_pos hdirty)).trans htrigger
        obtain ⟨u, hu⟩ : ∃ u : Machine.Part, u = { m with
          log.anchor := { m.log.anchor with flight := some m.buildAnchor, dirty := false }
          port.offers := m.port.offers ++ [{ cls := .a, work := .anchor, cmd := .write 0 1 }] } := ⟨_, rfl⟩
        rw [← hu] at hgood' hbuild
        refine ⟨u, congrArg (fun x : Machine.Part => Host.Outcome.next (State.mk x q)) hgood', ?_⟩
        have hreclaim : p.log.reclaim = u.log.reclaim := by rw [hu, hm]; rfl
        have hw : AnchorWrite.mk p.log.reclaim u.log.reclaimSeq (encodeAnchor u.anchorData) u.pendingSettings =
            m.buildAnchor := by
          rw [← hbuild, Part.buildAnchor, hreclaim]
        simp only [if_true, hw]
        refine hu.trans ?_
        subst hm
        rfl
    case refine_2 =>
      intro hfail code hcode
      rw [State.act_anchorWriteComplete code hreset hruns hwork hband hflight hmode, if_neg (finalCode_ne_good hcode)]
      refine ⟨p.buildAnchor, ?_, rfl, rfl, p.buildAnchor_block, rfl⟩
      have hbuild := p.buildAnchor_congr { p.log.anchor with failures := 1, flight := none }
        { p.port with slots := p.port.slots.set k none }
      rw [Part.anchorFailed, if_pos (by exact hfail)]
      dsimp only
      rw [if_pos (by exact hmode), Part.offerAnchor, hbuild]
      rfl
    case refine_3 =>
      intro hfail code hcode
      rw [State.act_anchorWriteComplete code hreset hruns hwork hband hflight hmode, if_neg (finalCode_ne_good hcode)]
      refine ⟨⟨_, rfl, Part.anchorFailed_second (s := { p with port.slots := p.port.slots.set k none }) w _ hmode hfail⟩,
        fun hquiet => ?_⟩
      exact congrArg (fun x : Machine.Part => Host.Outcome.next (State.mk x q))
        (Part.anchorFailed_quiet (s := { p with port.slots := p.port.slots.set k none }) hmode hflight hfail hquiet)
end Sys2Proof
end

section
/-! Appends (R32 to R36, R92): what their issue, their completion and their failure write. -/

namespace Sys2Proof.Machine

/-! ### Completion -/

/-- A logical band after the append of `e` to physical band `p` at `start` (R33); `d` is its size. -/
def LBand.appended (b : LBand) (p start d : Nat) (e : AppendEntry) : LBand :=
  let f := if e.allocate then e.off + e.n else b.f + (e.gap + e.n)
  { b with
    queue := b.queue.filter fun x => !(x.band == p && x.start == start)
    f := if b.phys = some p then f else b.f
    st := if b.phys = some p ∧ f = d ∧ b.st = .filling then .full else b.st
    resume := if b.phys = some p ∧ f = d ∧ b.st = .merging then some .full else b.resume }

/-- The fill of the band that an append filled moves past it, and a band that is full by it says so (R33). -/
def LBand.fillTo (b : LBand) (d f : Nat) : LBand :=
  if f = d then
    match b.st with
    | .filling => { b with f := f, st := .full }
    | .merging => { b with f := f, resume := some .full }
    | _ => { b with f := f }
  else { b with f := f }

theorem LBand.fillTo_eq {b : LBand} (d f : Nat) (h : b.st = .filling ∨ b.st = .merging) :
    b.fillTo d f = { b with
      f := f
      st := if f = d ∧ b.st = .filling then .full else b.st
      resume := if f = d ∧ b.st = .merging then some .full else b.resume } := by
  unfold LBand.fillTo
  rcases h with h | h <;> by_cases hf : f = d <;> simp [h, hf]

theorem Bands.getElem?_lbt {b : Bands} {l : Nat} (hl : l < b.lbt.length) : b.lbt[l]? = some (b.lband l) := by
  simp [Bands.lband, hl]

theorem Part.appendGood_eq {s : Part} {l p start : Nat} {e : AppendEntry} (he : s.bands.entry l p start = some e)
    (hl : l < s.bands.lbt.length) (hst : (s.bands.lband l).phys ≠ some p ∨ (s.bands.lband l).st = .filling ∨
      (s.bands.lband l).st = .merging) :
    s.appendGood l p start = { s with
      bands := { s.bands with
        pool := s.bands.pool.modify p fun x => { x with wp := e.start + e.len }
        lbt := s.bands.lbt.modify l (·.appended p start s.sys.layout.dataBlocks e) }
      ini := (s.partFinal e.cid e.part .done).ini } := by
  obtain ⟨t, ht⟩ : ∃ t : Part, t = (s.onP p fun x => { x with wp := e.start + e.len }).onL l
    fun b => b.dropEntry p start := ⟨_, rfl⟩
  have hlb : t.bands.lband l = (s.bands.lband l).dropEntry p start := by
    rw [ht]
    exact Part.onL_lband_self (s := s.onP p fun x => { x with wp := e.start + e.len }) hl
  have hx := Bands.getElem?_lbt hl
  have hgood : s.appendGood l p start = (if (t.bands.lband l).phys = some p then
      t.onL l fun b => b.fillTo s.sys.layout.dataBlocks (if e.allocate then e.off + e.n else b.f + (e.gap + e.n))
      else t).partFinal e.cid e.part .done := by
    simp only [Part.appendGood, he, ← ht]
    rw [show t.sys = s.sys by rw [ht]; rfl]
    rfl
  rw [hgood, hlb, ht]
  by_cases hm : (s.bands.lband l).phys = some p
  · have hlbt : (s.bands.lbt.modify l fun b => b.dropEntry p start).modify l (fun b =>
        b.fillTo s.sys.layout.dataBlocks (if e.allocate then e.off + e.n else b.f + (e.gap + e.n))) =
        s.bands.lbt.modify l (·.appended p start s.sys.layout.dataBlocks e) := by
      rw [List.modify_modify_eq]
      refine List.modify_congr_at fun b h => ?_
      obtain rfl : s.bands.lband l = b := Option.some.inj (hx.symm.trans h)
      refine (LBand.fillTo_eq (b := (s.bands.lband l).dropEntry p start) _ _
        (hst.resolve_left (not_not_intro hm))).trans ?_
      simp [LBand.appended, LBand.dropEntry, hm]
    rw [if_pos (by exact hm)]
    simp only [Part.onL, Part.onP, hlbt]
    rfl
  · have hlbt : (s.bands.lbt.modify l fun b => b.dropEntry p start) =
        s.bands.lbt.modify l (·.appended p start s.sys.layout.dataBlocks e) := by
      refine List.modify_congr_at fun b h => ?_
      obtain rfl : s.bands.lband l = b := Option.some.inj (hx.symm.trans h)
      simp [LBand.appended, LBand.dropEntry, hm]
    rw [if_neg (by exact hm)]
    simp only [Part.onL, Part.onP, hlbt]
    rfl

/-! ### Failure -/

/-- What the failing of entries writes depends on the commands alone (R137). -/
theorem Part.failEntries_ini {s t : Part} (c : Code) (es : List AppendEntry) (h : s.ini = t.ini) :
    s.failEntries c es = { s with ini := (t.failEntries c es).ini } := by
  induction es generalizing s t with
  | nil => rw [show (t.failEntries c []).ini = s.ini from h.symm]; rfl
  | cons e es ih =>
    have hfirst : (s.partFinal e.cid e.part (.failed c)).ini = (t.partFinal e.cid e.part (.failed c)).ini := by
      simp only [Part.partFinal, Part.onCmd, h]
    exact ih hfirst

/-- What the re-placing of entries writes depends on the commands alone (R34, R137). -/
theorem Part.replaceEntries_ini {s t : Part} (l : Nat) (es : List AppendEntry) (h : s.ini = t.ini) :
    s.replaceEntries l es =
      ({ s with ini := (t.replaceEntries l es).1.ini }, (t.replaceEntries l es).2) := by
  induction es generalizing s t with
  | nil =>
    rw [show (t.replaceEntries l []).1.ini = s.ini from h.symm]
    rfl
  | cons e es ih =>
    have hfirst : (s.replaceEntry l e).1.ini = (t.replaceEntry l e).1.ini := by
      simp only [Part.replaceEntry, Part.onCmd, h]
    have hheld : (s.replaceEntry l e).2 = (t.replaceEntry l e).2 := by
      simp only [Part.replaceEntry, h]
    have hrest := ih hfirst
    simp only [Part.replaceEntries, hrest, hheld]
    rfl

/-- A logical band whose append to physical band `p` failed (R34, R92). -/
def LBand.suspected (b : LBand) (p : Nat) : LBand :=
  { b with
    queue := b.queue.filter fun x => x.band != p
    pf := b.f
    st := if b.st = .merging then .merging else .suspect
    resume := if b.st = .merging then some .suspect else b.resume }

/-- The entries behind the one that starts at `start`, in the queue of the band that an append failed on (R34). -/
def LBand.behind (b : LBand) (p start : Nat) : List AppendEntry :=
  (b.queue.filter fun x => x.band == p).filter fun x => x.start != start

/-- The failure of an append to the band its logical band maps (R34, R35, R92), where the list is empty or the band is
being merged. -/
theorem Part.appendFail_mapped {s : Part} {l p start : Nat} {e : AppendEntry} (he : s.bands.entry l p start = some e)
    (hp : (s.bands.lband l).phys = some p) (hreqs : (s.bands.lband l).st = .merging ∨ s.mrg.reqs = []) :
    let r := (s.partFinal e.cid e.part (.failed .mediumError)).replaceEntries l ((s.bands.lband l).behind p start)
    s.appendFail l p start = { s with
      bands := { s.bands with
        lbt := s.bands.lbt.modify l (·.suspected p)
        pool := s.bands.pool.modify p fun x => { x with refresh := true } }
      port.offers := s.port.offers ++ [{ cls := .f, work := .refreshQuery p, cmd := .bandQuery p 1 }]
      ini := { r.1.ini with hold := r.2 ++ r.1.ini.hold }
      mrg.reqs := if (s.bands.lband l).st = .merging then s.mrg.reqs else [{ band := l, urgent := true }]
      win := s.win.raise .bandSuspect (some .drive) (some l) (some p) none none } := by
  intro r
  have hx : ∀ b, s.bands.lbt[l]? = some b → s.bands.lband l = b := fun b h => by simp [Bands.lband, h]
  have hlbt : (s.bands.lbt.modify l fun b => { b with queue := b.queue.filter fun x => x.band != p }).modify l (fun b =>
      if b.st = .merging then { b with pf := b.f, resume := some .suspect } else { b with pf := b.f, st := .suspect }) =
      s.bands.lbt.modify l (·.suspected p) := by
    rw [List.modify_modify_eq]
    refine List.modify_congr_at fun b h => ?_
    by_cases hm : b.st = .merging <;> simp [LBand.suspected, hm]
  obtain ⟨y, hy⟩ : ∃ y : Part, y = { s with
      bands.lbt := s.bands.lbt.modify l (·.suspected p)
      ini := (s.partFinal e.cid e.part (.failed .mediumError)).ini } := ⟨_, rfl⟩
  have hreplace := Part.replaceEntries_ini (s := y) (t := s.partFinal e.cid e.part (.failed .mediumError)) l
    ((s.bands.lband l).behind p start) (by rw [hy])
  obtain ⟨z, hz⟩ : ∃ z : Part, z = (({ y with ini := { r.1.ini with hold := r.2 ++ r.1.ini.hold } } : Part).offerRefresh p) :=
    ⟨_, rfl⟩
  have hfail : s.appendFail l p start = (if (s.bands.lband l).st = .merging then z else z.offerUrgent l).raise
      .bandSuspect (some .drive) (some l) (some p) none none := by
    have hyeq : ((s.onL l fun b => { b with queue := b.queue.filter fun x => x.band != p }).partFinal e.cid e.part
        (.failed .mediumError)).onL l (fun b =>
          if b.st = .merging then { b with pf := b.f, resume := some .suspect }
          else { b with pf := b.f, st := .suspect }) = y := by
      rw [hy, ← hlbt]
      rfl
    simp only [Part.appendFail, he, if_pos hp]
    rw [hyeq, show List.filter _ (List.filter _ _) = (s.bands.lband l).behind p start from rfl, hreplace, hz]
  rw [hfail]
  by_cases hm : (s.bands.lband l).st = .merging
  · simp only [if_pos hm, hz, hy]
    rfl
  · have hurgent : z.offerUrgent l = { z with mrg.reqs := [{ band := l, urgent := true }] } :=
      Part.offerUrgent_first l (by rw [hz, hy]; exact hreqs.resolve_left hm)
    simp only [if_neg hm, hurgent]
    rw [hz, hy]
    rfl

/-- The failure of an append to a band its logical band no longer maps (R36). -/
theorem Part.appendFail_unmapped {s : Part} {l p start : Nat} {e : AppendEntry} (he : s.bands.entry l p start = some e)
    (hp : (s.bands.lband l).phys ≠ some p) :
    s.appendFail l p start = { s with
      bands.lbt := s.bands.lbt.modify l fun b => { b with queue := b.queue.filter fun x => x.band != p }
      ini := (s.failEntries .mediumError ((s.bands.lband l).queue.filter fun x => x.band == p)).ini } := by
  unfold Part.appendFail
  simp only [he, if_neg hp]
  exact Part.failEntries_ini _ _ rfl

/-! ### Commands by their identity -/

/-- A command in a context whose identity no other context has is the one that its identity finds (R140). -/
theorem Initiator.find_of_at {i : Initiator} {tag : Nat} {c : Cmd} (hat : i.at tag = some c)
    (honly : ∀ k x, i.at k = some x → x.cid = c.cid → k = tag) : i.find c.cid = some c := by
  have hmem : c ∈ i.active := by
    refine List.mem_filterMap.mpr ⟨some c, ?_, rfl⟩
    rw [Initiator.at, List.getD_eq_getElem?_getD] at hat
    cases h : i.tags[tag]? with
    | none => rw [h] at hat; cases hat
    | some x =>
      rw [h, Option.getD_some] at hat
      exact hat ▸ List.mem_of_getElem? h
  have hsome : (i.active.find? (·.cid == c.cid)).isSome := List.find?_isSome.mpr ⟨c, hmem, by simp⟩
  obtain ⟨y, hy⟩ := Option.isSome_iff_exists.mp hsome
  have hyc : y.cid = c.cid := by simpa using List.find?_some hy
  obtain ⟨z, hz, hzy⟩ := List.mem_filterMap.mp (List.mem_of_find?_eq_some hy)
  obtain ⟨j, hj, hjz⟩ := List.mem_iff_getElem.mp hz
  have haty : i.at j = some y := by simp [Initiator.at, hj, hjz, show z = some y from hzy]
  have hjt : j = tag := honly j y haty hyc
  rw [hjt] at haty
  rw [Initiator.find, List.find?_append, hy, Option.some.inj (hat.symm.trans haty)]
  rfl

/-- The parts of a command are counted in its context, whatever becomes final of another command (R137). -/
theorem Initiator.partCount_partFinal {p : Part} {tag : Nat} {c : Cmd} {cid part : Nat} {x : PartState}
    (hat : p.ini.at tag = some c) (honly : ∀ k y, p.ini.at k = some y → y.cid = c.cid → k = tag) (hne : c.cid ≠ cid) :
    (p.partFinal cid part x).ini.partCount c.cid = c.parts.length ∧ (p.partFinal cid part x).ini.at tag = some c := by
  have hcid : ∀ d : Cmd, (if d.cid = cid then d.setPart part x else d).cid = d.cid := by
    intro d
    unfold Cmd.setPart
    split
    · split <;> rfl
    · rfl
  have hmap : ∀ k, (p.partFinal cid part x).ini.at k =
      (p.ini.at k).map fun d => if d.cid = cid then d.setPart part x else d := fun k =>
    Initiator.at_map p.ini _ k
  have hat' : (p.partFinal cid part x).ini.at tag = some c := by
    rw [hmap, hat, Option.map_some, if_neg hne]
  refine ⟨?_, hat'⟩
  rw [Initiator.partCount, Initiator.find_of_at hat']
  intro k y hy hyc
  rw [hmap] at hy
  obtain ⟨d, hd, rfl⟩ := Option.map_eq_some_iff.mp hy
  exact honly k d hd ((hcid d).symm.trans hyc)

/-! ### In the drive port -/

/-- The completion of an append, in a slot whose completion is handed on (R33, R34, R117). -/
theorem State.act_appendWriteComplete {p : Part} {q : List Instr} {k : Fin 32} {o : Offer} {l b start : Nat}
    (code : DriveCode) (hreset : p.sys.inReset = false) (hruns : p.port.runs k o) (hwork : o.work = .append l b start)
    (hband : o.band = some (b, start)) :
    exec (.appendWriteComplete k code) ⟨p, q⟩ = .next ⟨
      (let s : Part := { p with
        port.slots := p.port.slots.set k none
        bands.pool := p.bands.pool.modify b fun x => { x with writeOut := false } }
      if finalCode code = .good then s.appendGood l b start else s.appendFail l b start), q⟩ := by
  rw [exec_appendWriteComplete, State.act_awake _ hreset, Part.complete_runs _ hruns (by simp [hwork]), hband]
  simp only [Part.bandWriteFinal, hwork]
  rfl

theorem Bands.entry_head {b : Bands} {l : Nat} {e : AppendEntry} {rest : List AppendEntry}
    (h : (b.lband l).queue = e :: rest) : b.entry l e.band e.start = some e := by
  simp [Bands.entry, h]

/-- The issue of the head of an append queue (R32). -/
theorem Part.appendIssue_offers {s : Part} {l : Nat} {e : AppendEntry} {rest : List AppendEntry}
    (hmode : s.sys.mode = .active) (hq : (s.bands.lband l).queue = e :: rest)
    (hout : (s.bands.pband e.band).writeOut = false) (hissued : e.issued = false)
    (hwp : (s.bands.pband e.band).wp = e.start) (hrest : ∀ x ∈ rest, ¬ (x.band = e.band ∧ x.start = e.start)) :
    s.appendIssue l = { s with
      bands.lbt := s.bands.lbt.modify l fun b => { b with queue := { e with issued := true } :: rest }
      port.offers := s.port.offers ++
        [bandWriteOffer s.sys.layout .d (.append l e.band e.start) e.band e.start e.len] } := by
  have hlbt : s.bands.lbt.modify l (fun b => { b with queue := b.queue.map fun x =>
      if x.band = e.band ∧ x.start = e.start then { x with issued := true } else x }) =
      s.bands.lbt.modify l fun b => { b with queue := { e with issued := true } :: rest } := by
    refine List.modify_congr_at fun b h => ?_
    have hb : s.bands.lband l = b := by simp [Bands.lband, h]
    rw [← hb, hq, List.map_cons, List.map_congr_left fun x hx => if_neg (hrest x hx)]
    simp
  simp only [Part.appendIssue, hq, if_pos (And.intro hmode (And.intro hout hissued)), if_pos hwp, Part.onL, hlbt]
  rfl

end Sys2Proof.Machine

namespace Sys2Proof
open Sys2Proof.Machine

/-- Settles O36, by what the issue, the completion and the failure of an append write. -/
theorem appendsAreIssuedInOrder : Obligations.AppendsAreIssuedInOrder := by
  refine ⟨?_, ?_, ?_⟩
  case refine_1 =>
    intro p q band e rest hreset hmode l hl hq
    rw [exec_appendIssue, State.act_awake _ hreset]
    refine ⟨fun hwait => ?_, fun hout hissued hwp hrest => ?_⟩
    · have hno : ¬ (p.sys.mode = .active ∧ (p.bands.pband e.band).writeOut = false ∧ e.issued = false) := by
        rintro ⟨_, ho, hi⟩
        rcases hwait with h | h <;> simp [h] at ho hi
      have hq' : (p.bands.lband band.toNat).queue = e :: rest := hq
      simp only [Part.appendIssue, hq', if_neg hno]
    · exact congrArg (fun x : Machine.Part => Host.Outcome.next (State.mk x q))
        (Part.appendIssue_offers hmode hq hout hissued hwp hrest)
  case refine_2 =>
    intro p q k o l e rest hreset hruns hwork hband hl hq st mapped f full
    have he : p.bands.entry l e.band e.start = some e := Bands.entry_head hq
    obtain ⟨s, hs⟩ : ∃ s : Machine.Part, s = { p with
        port.slots := p.port.slots.set k none
        bands.pool := p.bands.pool.modify e.band fun x => { x with writeOut := false } } := ⟨_, rfl⟩
    have hlb : s.bands.lband l = p.bands.lband l := by rw [hs]; rfl
    have hes : s.bands.entry l e.band e.start = some e := by rw [hs]; exact he
    have hls : l < s.bands.lbt.length := by rw [hs]; exact hl
    refine ⟨fun hrest hst => ?_, fun code hcode hrest hmapped => ?_⟩
    · rw [State.act_appendWriteComplete .good hreset hruns hwork hband]
      dsimp only
      rw [if_pos (show finalCode .good = .good from rfl), ← hs, Part.appendGood_eq hes hls (by rw [hlb]; exact hst), hs]
      have hpool : (p.bands.pool.modify e.band fun x => { x with writeOut := false }).modify e.band (fun x =>
          { x with wp := e.start + e.len }) = p.bands.pool.modify e.band fun x =>
            { x with writeOut := false, wp := e.start + ((if e.allocate then 1 else 0) + e.gap + e.n) } :=
        List.modify_modify_eq ..
      have hlbt : p.bands.lbt.modify l (·.appended e.band e.start p.sys.layout.dataBlocks e) =
          p.bands.lbt.modify l fun b => { b with
            queue := rest
            f := if mapped then f else b.f
            st := if mapped ∧ full ∧ st = .filling then .full else b.st
            resume := if mapped ∧ full ∧ st = .merging then some .full else b.resume } := by
        refine List.modify_congr_at fun b h => ?_
        obtain rfl : p.bands.lband l = b := by simp [Bands.lband, h]
        have hqueue : (p.bands.lband l).queue.filter (fun x => !(x.band == e.band && x.start == e.start)) = rest := by
          rw [hq, List.filter_cons_of_neg (by simp)]
          exact List.filter_eq_self.mpr fun x hx => by simpa [imp_iff_not_or] using hrest x hx
        simp only [LBand.appended, hqueue]
        rfl
      exact congrArg₂ (fun pool lbt => Host.Outcome.next (State.mk ({ p with
        port.slots := p.port.slots.set k none
        bands := { p.bands with pool := pool, lbt := lbt }
        ini := (p.partFinal e.cid e.part .done).ini } : Machine.Part) q)) hpool hlbt
    · intro failed
      have hbehind : (s.bands.lband l).behind e.band e.start = [] := by
        rw [hlb, LBand.behind, hq, hrest]
        simp
      have hlbt : ∀ f : LBand → LBand, (∀ b, p.bands.lband l = b → b.suspected e.band = f b) →
          p.bands.lbt.modify l (·.suspected e.band) = p.bands.lbt.modify l f := fun f hf =>
        List.modify_congr_at fun b h => hf b (by simp [Bands.lband, h])
      have hqueue : (p.bands.lband l).queue.filter (fun x => x.band != e.band) = [] := by
        rw [hq, hrest]
        simp
      have hfail : (s.bands.lband l).st = .merging ∨ s.mrg.reqs = [] → s.appendFail l e.band e.start = { failed with
          bands.lbt := p.bands.lbt.modify l (·.suspected e.band)
          mrg.reqs := if st = .merging then p.mrg.reqs else [{ band := l, urgent := true }] } := by
        intro hreqs
        have heq := Part.appendFail_mapped hes (by rw [hlb]; exact hmapped) hreqs
        rw [hbehind] at heq
        rw [heq, hlb, hs]
        have hpool : (p.bands.pool.modify e.band fun x => { x with writeOut := false }).modify e.band (fun x =>
            { x with refresh := true }) = p.bands.pool.modify e.band fun x =>
              { x with writeOut := false, refresh := true } := List.modify_modify_eq ..
        dsimp only
        rw [hpool]
        rfl
      rw [State.act_appendWriteComplete code hreset hruns hwork hband]
      dsimp only
      rw [if_neg (finalCode_ne_good hcode), ← hs]
      refine ⟨fun hst hreqs => ?_, fun hst => ?_⟩
      · rw [hfail (.inr (by rw [hs]; exact hreqs)), if_neg (by rw [hst]; decide)]
        refine congrArg (fun lbt => Host.Outcome.next (State.mk ({ failed with
          bands.lbt := lbt, mrg.reqs := [{ band := l, urgent := true }] } : Machine.Part) q)) (hlbt _ fun b hb => ?_)
        subst hb
        simp [LBand.suspected, hqueue, show (p.bands.lband l).st = .filling from hst]
      · rw [hfail (.inl (by rw [hlb]; exact hst)), if_pos hst]
        refine congrArg (fun lbt => Host.Outcome.next (State.mk ({ failed with bands.lbt := lbt } : Machine.Part) q))
          (hlbt _ fun b hb => ?_)
        subst hb
        simp [LBand.suspected, hqueue, show (p.bands.lband l).st = .merging from hst]
  case refine_3 =>
    intro p q k o l e code hreset hruns hwork hband hl he hcode b slots
    obtain ⟨s, hs⟩ : ∃ s : Machine.Part, s = { p with
        port.slots := p.port.slots.set k none
        bands.pool := p.bands.pool.modify e.band fun x => { x with writeOut := false } } := ⟨_, rfl⟩
    have hlb : s.bands.lband l = p.bands.lband l := by rw [hs]; rfl
    have hes : s.bands.entry l e.band e.start = some e := by rw [hs]; exact he
    rw [State.act_appendWriteComplete code hreset hruns hwork hband]
    dsimp only
    rw [if_neg (finalCode_ne_good hcode), ← hs]
    refine ⟨fun hphys => ?_, ?_⟩
    · have heq := Part.appendFail_unmapped hes (by rw [hlb]; exact hphys)
      rw [heq, hlb, Part.failEntries_ini (t := p) _ _ (by rw [hs]), hs]
      rfl
    · intro x tag c hphys hst hq hx hxs hreqs hsound hat hc hcid
      have hbehind : (s.bands.lband l).behind e.band e.start = [x] := by
        rw [hlb, LBand.behind, show (p.bands.lband l).queue = [e, x] from hq]
        simp [hx, hxs]
      have heq := Part.appendFail_mapped hes (by rw [hlb]; exact hphys) (.inr (by rw [hs]; exact hreqs))
      obtain ⟨hsound, _⟩ := hsound
      obtain ⟨_, _, _, honly, _⟩ := hsound tag c hat
      obtain ⟨hcount, hat'⟩ := Initiator.partCount_partFinal (p := s) (cid := e.cid) (part := e.part)
        (x := .failed .mediumError) (by rw [hs]; exact hat) (by rw [hs]; exact honly) (hc.trans_ne hcid)
      rw [hbehind, hlb, if_neg (show ¬ (p.bands.lband l).st = .merging by rw [show _ = _ from hst]; decide)] at heq
      obtain ⟨t, ht⟩ : ∃ t : Machine.Part, t = s.partFinal e.cid e.part (.failed .mediumError) := ⟨_, rfl⟩
      rw [← ht] at heq hcount hat'
      have hrecords : (t.replaceEntry l x).2 = stagedEntries x.cid l x.off x.n c.parts.length x.first := by
        rw [Part.replaceEntry, ← hc, hcount]
      have htini : t.ini.hold = p.ini.hold ∧ t.ini.sent = p.ini.sent := by rw [ht, hs]; exact ⟨rfl, rfl⟩
      have hreplaced : (t.replaceEntries l [x]).1.ini = (t.replaceEntry l x).1.ini ∧
          (t.replaceEntries l [x]).2 = stagedEntries x.cid l x.off x.n c.parts.length x.first :=
        ⟨rfl, (List.append_nil _).trans hrecords⟩
      refine ⟨_, congrArg (fun y : Machine.Part => Host.Outcome.next (State.mk y q)) heq, ?_⟩
      refine ⟨?hold, ?sent, ?command, ?logical, rfl, ?port, ?win⟩
      case hold => exact congrArg₂ (· ++ ·) hreplaced.2 htini.1
      case sent => exact htini.2
      case command =>
        refine (Initiator.at_map t.ini (fun d => if d.cid = x.cid then { d with
          parts := (d.parts.set x.part .replaced) ++ List.replicate (t.replaceEntry l x).2.length .pending } else d)
          tag).trans ?_
        rw [hat', Option.map_some, if_pos hc, hrecords]
      case logical =>
        refine (Bands.lband_modify (b := s.bands) rfl (by rw [hs]; exact hl)).trans ?_
        rw [hlb]
        simp [LBand.suspected, b, show (p.bands.lband l).queue = [e, x] from hq, hx,
          show (p.bands.lband l).st = .filling from hst]
      case port => rw [hs]
      case win => rw [hs]
end Sys2Proof
end

section
/-! Band queries and target units (R35, R97, R119, R122, R183): what a completed query and a completed unit write. -/

namespace Sys2Proof.Machine

/-! ### Target units -/

/-- A merge context after the write of a unit of its target up to block `wp` (R97). -/
def MergeCtx.written (c : MergeCtx) (wp : Nat) : MergeCtx :=
  { c with
    unitOut := false, copied := wp - 1
    ready := c.ready.filter fun r => decide (wp - 1 ≤ r.1)
    st := if c.st = .copy ∧ wp = 1 + c.newFill then .commit else c.st }

/-- The write of a unit ends GOOD (R97, R98). -/
theorem Part.unitFinal_good {s : Part} {i p start n : Nat} (hi : i < s.mrg.ctxs.length) :
    s.unitFinal i p start n .good = { s with
      bands.pool := s.bands.pool.modify p fun b => { b with wp := start + n }
      log.waiting :=
        if (s.mrg.ctx i).st = .copy ∧ start + n = 1 + (s.mrg.ctx i).newFill then s.log.waiting ++ [.commit i]
        else s.log.waiting
      mrg.ctxs := s.mrg.ctxs.set i ((s.mrg.ctx i).written (start + n)) } := by
  have hctx : s.mrg.ctxs[i]? = some (s.mrg.ctx i) := by simp [Merge.ctx, hi]
  have hset : ∀ f : MergeCtx → MergeCtx, s.mrg.ctxs.modify i f = s.mrg.ctxs.set i (f (s.mrg.ctx i)) := fun f => by
    simp [List.modify_eq_set_getElem?, hctx]
  have hset₂ : ∀ f g : MergeCtx → MergeCtx,
      (s.mrg.ctxs.modify i f).modify i g = s.mrg.ctxs.set i (g (f (s.mrg.ctx i))) := fun f g => by
    rw [List.modify_modify_eq, hset]
    rfl
  have hset₃ : ∀ f g h : MergeCtx → MergeCtx,
      ((s.mrg.ctxs.modify i f).modify i g).modify i h = s.mrg.ctxs.set i (h (g (f (s.mrg.ctx i)))) := fun f g h => by
    rw [List.modify_modify_eq, hset₂]
    rfl
  rw [Part.unitFinal, if_pos rfl]
  by_cases hlast : (s.mrg.ctx i).st = .copy ∧ start + n = 1 + (s.mrg.ctx i).newFill
  · simp only [if_pos hlast, Part.beginCommit, Part.onCtx, Part.onP, hset₃, MergeCtx.written]
  · simp only [if_neg hlast, Part.onCtx, Part.onP, hset₂, MergeCtx.written]

/-! ### Band queries -/

/-- A query of mount writes the write pointers of its bands and no others (R183). -/
theorem setWps_eq (ws : List (Option Nat)) (b : Nat) (wps : List Nat) :
    setWps ws b wps = ws.mapIdx fun i x => if b ≤ i ∧ i < b + wps.length then some (wps.getD (i - b) 0) else x := by
  induction wps generalizing ws b with
  | nil =>
    refine List.ext_getElem (by simp [setWps]) fun i h _ => ?_
    simp [setWps, show ¬ (b ≤ i ∧ i < b) by omega]
  | cons w rest ih =>
    rw [setWps, ih]
    refine List.ext_getElem (by simp) fun i h _ => ?_
    simp only [List.getElem_mapIdx, List.getElem_set, List.length_cons]
    rcases Nat.lt_trichotomy b i with hlt | rfl | hgt
    · obtain ⟨j, rfl⟩ : ∃ j, i = b + 1 + j := ⟨i - (b + 1), by omega⟩
      simp [show b ≤ b + 1 + j by omega, show b + 1 + j - b = j + 1 by omega, show b ≠ b + 1 + j by omega,
        show (b + 1 + j < b + 1 + rest.length ↔ b + 1 + j < b + (rest.length + 1)) by omega]
    · simp
    · simp [show ¬ b ≤ i by omega, show ¬ b + 1 ≤ i by omega, show b ≠ i by omega]

/-- An answer of as many write pointers as were asked for, none above the size of a band, is taken as it is (R112). -/
theorem Part.fitWps_self {s : Part} {g : DriveGeo} {n : Nat} {wps : List Nat} (hd : s.sys.drive = some g)
    (hn : wps.length = n) (hw : ∀ x ∈ wps, x ≤ g.bandBlocks) : s.fitWps n wps = wps := by
  have hmap : wps.map (min g.bandBlocks) = wps := by
    refine (List.map_congr_left fun x hx => ?_).trans (List.map_id _)
    exact Nat.min_eq_right (hw x hx)
  subst hn
  simp only [fitWps, hd, List.take_length, Nat.sub_self, List.replicate_zero, List.append_nil, hmap]

/-- The band write that a recovery query decides leaves the list of those that wait for one (R122). -/
theorem Part.recoveryGood_eq {s : Part} {b w start a n : Nat} {x : Offer} (hr : s.port.recovering = [{ offer := x }])
    (hb : x.band = some (b, start)) (hc : x.cmd = .write a n) :
    s.recoveryGood b w =
      let t : Part := { s with
        port.recovering := []
        bands.pool := s.bands.pool.modify b fun y => { y with wp := w } }
      if w = start + n then t.endRecovery x .good
      else if w = start ∧ s.sys.mode ≠ .degraded then t.rejoin [{ x with attempt := x.attempt + 1 }]
      else t.endRecovery x .aborted := by
  have hof : (s.onP b fun y => { y with wp := w }).port.recoveringOf b = some { offer := x } := by
    simp [Port.recoveringOf, Part.onP, hr, hb]
  have hdrop : (s.onP b fun y => { y with wp := w }).dropRecovering b = { s with
      port.recovering := []
      bands.pool := s.bands.pool.modify b fun y => { y with wp := w } } := by
    simp [Part.dropRecovering, Part.onP, hr, hb]
  simp only [Part.recoveryGood, hof, hdrop, hb, hc]

/-- A recovery query that shows all of its write has been written ends it GOOD; one that shows neither all nor none of it,
or none in DEGRADED, ends it ABORTED (R122, R124). -/
theorem Part.recoveryGood_ends {s : Part} {b w start a n : Nat} {x : Offer} (hr : s.port.recovering = [{ offer := x }])
    (hb : x.band = some (b, start)) (hc : x.cmd = .write a n) (hw : w = start + n ∨ w ≠ start ∨ s.sys.mode = .degraded) :
    s.recoveryGood b w = ({ s with
      port.recovering := []
      bands.pool := s.bands.pool.modify b fun y => { y with wp := w, writeOut := false } } : Part).bandWriteFinal x
        (if w = start + n then .good else .aborted) := by
  rw [Part.recoveryGood_eq hr hb hc]
  have hpool : (s.bands.pool.modify b fun y => { y with wp := w }).modify b (fun y => { y with writeOut := false }) =
      s.bands.pool.modify b fun y => { y with wp := w, writeOut := false } := List.modify_modify_eq ..
  by_cases hall : w = start + n
  · simp only [if_pos hall, Part.endRecovery, Part.clearOut, hb, Part.onP, hpool]
  · have hno : ¬ (w = start ∧ s.sys.mode ≠ .degraded) := fun h => (hw.resolve_left hall).elim (· h.1) h.2
    simp only [if_neg hall, if_neg hno, Part.endRecovery, Part.clearOut, hb, Part.onP, hpool]

/-- A recovery query that shows none of its write has been written offers it again, ahead of what was not aborted
(R121, R122). -/
theorem Part.recoveryGood_again {s : Part} {b start a n : Nat} {x : Offer} (hr : s.port.recovering = [{ offer := x }])
    (hb : x.band = some (b, start)) (hc : x.cmd = .write a n) (hn : 0 < n) (hm : s.sys.mode ≠ .degraded)
    (ho : ∀ y ∈ s.port.offers, y.recovered = false) :
    s.recoveryGood b start = { s with
      bands.pool := s.bands.pool.modify b fun y => { y with wp := start }
      port := { s.port with
        recovering := []
        offers := { x with attempt := x.attempt + 1 } :: s.port.offers } } := by
  rw [Part.recoveryGood_eq hr hb hc]
  have hold : s.port.offers.filter (·.recovered) = [] :=
    List.filter_eq_nil_iff.mpr fun y hy => by simp [ho y hy]
  have hrest : s.port.offers.filter (fun y => !y.recovered) = s.port.offers :=
    List.filter_eq_self.mpr fun y hy => by simp [ho y hy]
  dsimp only
  rw [if_neg (show ¬ start = start + n by omega), if_pos ⟨rfl, hm⟩]
  simp only [Part.rejoin, hold, hrest]
  rfl

/-- The first error of a recovery query offers it once more (R119, R122). -/
theorem Part.recoveryFailed_first {s : Part} {b start : Nat} {x o : Offer} {code : DriveCode}
    (hr : s.port.recovering = [{ offer := x }]) (hb : x.band = some (b, start)) :
    s.recoveryFailed b o code = { s with
      port := { s.port with
        recovering := [{ offer := x, errors := 1 }]
        offers := s.port.offers ++ [{ queryOffer (.recoveryQuery b) b 1 with order := o.order }] } } := by
  simp [Part.recoveryFailed, Port.recoveringOf, hr, hb, Part.offer]

/-! ### Completions in the drive port -/

/-- The completion of a band query, in a slot whose completion is handed on (R117, R119). -/
theorem State.act_bandQueryComplete {p : Part} {q : List Instr} {k : Fin 32} {o : Offer} (code : DriveCode)
    (wps : List Nat) (hreset : p.sys.inReset = false) (hruns : p.port.runs k o) (hwork : o.work.isQuery = true)
    (hband : o.band = none) :
    exec (.bandQueryComplete k code wps) ⟨p, q⟩ =
      .next ⟨({ p with port.slots := p.port.slots.set k none } : Part).queryFinal o (finalCode code) wps, q⟩ := by
  rw [exec_bandQueryComplete, State.act_awake _ hreset, Part.complete_runs _ hruns hwork, hband]
  rfl

end Sys2Proof.Machine

namespace Sys2Proof
open Sys2Proof.Machine

/-- Settles O37, by what each completed query writes: that of a refresh, of the recovery of an append or a unit, of mount. -/
theorem queriesReportTheWritePointer : Obligations.QueriesReportTheWritePointer := by
  intro p q k o g b w hreset hruns hband hdrive hw slots
  obtain ⟨s, hs⟩ : ∃ s : Machine.Part, s = { p with port.slots := p.port.slots.set k none } := ⟨_, rfl⟩
  have hds : s.sys.drive = some g := by rw [hs]; exact hdrive
  have hfit : s.fitWps 1 [w] = [w] := Part.fitWps_self hds rfl (by simpa using hw)
  have hact : ∀ code wps, o.work.isQuery = true →
      exec (.bandQueryComplete k code wps) ⟨p, q⟩ = .next ⟨s.queryFinal o (finalCode code) wps, q⟩ := fun code wps h => by
    rw [State.act_bandQueryComplete code wps hreset hruns h hband, hs]
  refine ⟨fun hwork => ⟨?_, ?_⟩, ?_, ?_⟩
  case refine_1 =>
    rw [hact _ _ (by rw [hwork]; rfl)]
    simp only [Part.queryFinal, hwork, hfit, Part.refreshFinal, if_pos (show finalCode .good = .good from rfl)]
    rw [hs]
    rfl
  case refine_2 =>
    intro code wps hcode
    rw [hact _ _ (by rw [hwork]; rfl)]
    simp only [Part.queryFinal, hwork, Part.refreshFinal, if_neg (finalCode_ne_good hcode)]
    rw [hs]
    rfl
  case refine_3 =>
    intro x st a n hwork hrec hxband hxcmd hn decided
    have hgood : exec (.bandQueryComplete k .good [w]) ⟨p, q⟩ = .next ⟨s.recoveryGood b w, q⟩ := by
      rw [hact _ _ (by rw [hwork]; rfl)]
      simp only [Part.queryFinal, hwork, hfit, if_pos (show finalCode .good = .good from rfl)]
      rfl
    have hrecs : s.port.recovering = [{ offer := x }] := by rw [hs]; exact hrec
    obtain ⟨t, ht⟩ : ∃ t : Machine.Part, t = { s with
        port.recovering := []
        bands.pool := s.bands.pool.modify b fun y => { y with wp := w, writeOut := false } } := ⟨_, rfl⟩
    have htp : t = { p with
        port := decided
        bands.pool := p.bands.pool.modify b fun y => { y with wp := w, writeOut := false } } := by rw [ht, hs]
    have hends : w = st + n ∨ w ≠ st ∨ p.sys.mode = .degraded → exec (.bandQueryComplete k .good [w]) ⟨p, q⟩ =
        .next ⟨t.bandWriteFinal x (if w = st + n then .good else .aborted), q⟩ := fun h => by
      rw [hgood, Part.recoveryGood_ends hrecs hxband hxcmd (by rw [hs]; exact h), ht]
    refine ⟨?again, ?append, ?error, ?unit⟩
    case again =>
      intro hwst hm ho
      subst hwst
      rw [hgood, Part.recoveryGood_again hrecs hxband hxcmd hn (by rw [hs]; exact hm) (by rw [hs]; exact ho), hs]
    case append =>
      intro l e hxwork hl heb hest hlen
      have hfinal : ∀ code, t.bandWriteFinal x code =
          if code = .good then t.appendGood l b st else t.appendFail l b st := fun code => by
        simp only [Part.bandWriteFinal, hxwork]
      have hlt : l < t.bands.lbt.length := by rw [htp]; exact hl
      have hlb : t.bands.lband l = p.bands.lband l := by rw [htp]; rfl
      have hx : ∀ y, p.bands.lbt[l]? = some y → p.bands.lband l = y := fun y h => by simp [Bands.lband, h]
      have happended : p.bands.entry l b st = some e → w = st + n → ((p.bands.lband l).phys ≠ some b ∨
          (p.bands.lband l).st = .filling ∨ (p.bands.lband l).st = .merging) →
          ∀ f : LBand → LBand, (p.bands.lband l).appended b st p.sys.layout.dataBlocks e = f (p.bands.lband l) →
          exec (.bandQueryComplete k .good [w]) ⟨p, q⟩ = .next ⟨{ p with
            port := decided
            bands.pool := p.bands.pool.modify b fun y => { y with wp := w, writeOut := false }
            bands.lbt := p.bands.lbt.modify l f
            ini := (p.partFinal e.cid e.part .done).ini }, q⟩ := by
        intro he hall hst f hf
        have hpool : (p.bands.pool.modify b fun y => { y with wp := w, writeOut := false }).modify b (fun y =>
            { y with wp := e.start + e.len }) = p.bands.pool.modify b fun y => { y with wp := w, writeOut := false } := by
          rw [List.modify_modify_eq, show e.start + e.len = w by rw [hall, hest, hlen]; rfl]
          rfl
        have hlbt : p.bands.lbt.modify l (·.appended b st p.sys.layout.dataBlocks e) = p.bands.lbt.modify l f :=
          List.modify_congr_at fun y h => by obtain rfl := hx y h; exact hf
        rw [hends (.inl hall), if_pos hall, hfinal, if_pos rfl,
          Part.appendGood_eq (by rw [htp]; exact he) hlt (by rw [hlb]; exact hst), htp]
        exact congrArg₂ (fun pool lbt => Host.Outcome.next (State.mk ({ p with
          port := decided
          bands := { p.bands with pool := pool, lbt := lbt }
          ini := (p.partFinal e.cid e.part .done).ini } : Machine.Part) q)) hpool hlbt
      refine ⟨?_, ?_⟩
      · intro he hphys hall
        exact happended he hall (.inl hphys) _ (by simp [LBand.appended, hphys])
      · intro hq hphys hfilling
        have he : p.bands.entry l b st = some e := heb ▸ hest ▸ Bands.entry_head hq
        refine ⟨fun hall => happended he hall (.inr (.inl hfilling)) _ ?_, fun hnot hnone hreqs => ?_⟩
        · simp [LBand.appended, hq, hphys, hfilling, heb, hest, Layout.dataBlocks]
        · have hbehind : (p.bands.lband l).behind b st = [] := by simp [LBand.behind, hq, heb, hest]
          have heq := Part.appendFail_mapped (s := t) (by rw [htp]; exact he) (by rw [hlb]; exact hphys)
            (.inr (by rw [htp]; exact hreqs))
          rw [hlb, hbehind, if_neg (by rw [hfilling]; decide)] at heq
          rw [hends (.inr hnone), if_neg hnot, hfinal, if_neg (by decide), heq, htp]
          have hpool : (p.bands.pool.modify b fun y => { y with wp := w, writeOut := false }).modify b (fun y =>
              { y with refresh := true }) = p.bands.pool.modify b fun y =>
                { y with wp := w, writeOut := false, refresh := true } := List.modify_modify_eq ..
          have hlbt : p.bands.lbt.modify l (·.suspected b) = p.bands.lbt.modify l fun y =>
              { y with queue := [], st := .suspect, pf := y.f } :=
            List.modify_congr_at fun y h => by
              obtain rfl := hx y h
              simp [LBand.suspected, hq, hfilling, heb]
          exact congrArg₂ (fun pool lbt => Host.Outcome.next (State.mk ({ p with
            port := { decided with offers := p.port.offers ++
              [{ cls := .f, work := .refreshQuery b, cmd := .bandQuery b 1 }] }
            bands := { p.bands with pool := pool, lbt := lbt }
            ini := (p.partFinal e.cid e.part (.failed .mediumError)).ini
            mrg := { p.mrg with reqs := [{ band := l, urgent := true }] }
            win := p.win.raise .bandSuspect (some .drive) (some l) (some b) none none } : Machine.Part) q)) hpool hlbt
    case error =>
      intro code wps hcode
      rw [hact _ _ (by rw [hwork]; rfl)]
      simp only [Part.queryFinal, hwork, if_neg (finalCode_ne_good hcode)]
      rw [Part.recoveryFailed_first hrecs hxband, hs]
      rfl
    case unit =>
      intro i v hxwork hctxs hall c last
      have hfinal : t.bandWriteFinal x .good = t.unitFinal i b st n .good := by
        simp only [Part.bandWriteFinal, hxwork, hxband, hxcmd]
      rw [hends (.inl hall), if_pos hall, hfinal,
        Part.unitFinal_good (by rw [htp]; exact hctxs.symm ▸ i.isLt), htp, ← hall]
      have hpool : (p.bands.pool.modify b fun y => { y with wp := w, writeOut := false }).modify b (fun y =>
          { y with wp := w }) = p.bands.pool.modify b fun y => { y with wp := w, writeOut := false } :=
        List.modify_modify_eq ..
      exact congrArg (fun pool => Host.Outcome.next (State.mk ({ p with
        port := decided
        bands := { p.bands with pool := pool }
        log := { p.log with waiting := if last then p.log.waiting ++ [.commit i] else p.log.waiting }
        mrg := { p.mrg with ctxs := p.mrg.ctxs.set i ((p.mrg.ctx i).written w) } } : Machine.Part) q)) hpool
  case refine_4 =>
    intro n wps hwork hlen hall known
    have hfits : s.fitWps n wps = wps := Part.fitWps_self hds hlen hall
    have hknown : setWps s.mnt.wps b wps = known := by rw [setWps_eq, hlen, hs]
    rw [hact _ _ (by rw [hwork]; rfl)]
    simp only [Part.queryFinal, hwork, Part.mountQueryFinal, hfits, if_pos (show finalCode .good = .good from rfl), hknown]
    refine ⟨fun hsome => ?_, fun ⟨x, hx, hnone⟩ => ?_, fun code any hcode => ?_⟩
    · rw [if_pos (List.all_eq_true.mpr fun x hx => Option.isSome_iff_ne_none.mpr (hsome x hx)), hs]
      rfl
    · rw [if_neg fun h => by simpa [hnone] using List.all_eq_true.mp h x hx, hs]
    · rw [hact _ _ (by rw [hwork]; rfl)]
      simp only [Part.queryFinal, hwork, Part.mountQueryFinal, if_neg (finalCode_ne_good hcode)]
      rw [hs]
      rfl

end Sys2Proof
end

section
/-! The units of a merge's target (R97, R104): their offer and their completion. -/

namespace Sys2Proof.Machine

theorem MergeCtx.unitReady_iff {c : MergeCtx} {u : Nat} :
    c.unitReady u = true ↔ ∀ k, k < c.unitLen u → c.blockReady (256 * u + k) = true := by
  simp [MergeCtx.unitReady, Config.unitBlocks]

/-- The offer of the unit at a target's write pointer (R97). -/
theorem Part.offerUnit_eq {s : Part} {i ph u : Nat} (hi : i < s.mrg.ctxs.length) (hst : (s.mrg.ctx i).st = .copy)
    (ht : (s.mrg.ctx i).target = some ph) (hwp : (s.bands.pband ph).wp = 256 * u) :
    s.offerUnit i =
      if (s.mrg.ctx i).unitOut = false ∧ 0 < (s.mrg.ctx i).unitLen u ∧ (s.mrg.ctx i).unitReady u = true then { s with
        mrg.ctxs := s.mrg.ctxs.set i { s.mrg.ctx i with unitOut := true }
        port.offers := s.port.offers ++
          [bandWriteOffer s.sys.layout .e (.targetUnit i u) ph (256 * u) ((s.mrg.ctx i).unitLen u)] }
      else s := by
  have hdiv : 256 * u / 256 = u := Nat.mul_div_cancel_left u (by decide)
  have hset : s.mrg.ctxs.modify i (fun c => { c with unitOut := true }) =
      s.mrg.ctxs.set i { s.mrg.ctx i with unitOut := true } := by
    simp [List.modify_eq_set_getElem?, Merge.ctx, hi]
  simp only [Part.offerUnit, ht, hwp, Config.unitBlocks, hdiv, hst, Part.onCtx, hset, true_and]
  rfl

/-- The completion of a unit's write, in a slot whose completion is handed on (R97, R117). -/
theorem State.act_targetUnitComplete {p : Part} {q : List Instr} {k : Fin 32} {o : Offer} {i u ph start a n : Nat}
    (code : DriveCode) (hreset : p.sys.inReset = false) (hruns : p.port.runs k o) (hwork : o.work = .targetUnit i u)
    (hband : o.band = some (ph, start)) (hcmd : o.cmd = .write a n) :
    exec (.targetUnitComplete k code) ⟨p, q⟩ = .next ⟨
      ({ p with
        port.slots := p.port.slots.set k none
        bands.pool := p.bands.pool.modify ph fun x => { x with writeOut := false } } : Part).unitFinal i ph start n
          (finalCode code), q⟩ := by
  rw [exec_targetUnitComplete, State.act_awake _ hreset, Part.complete_runs _ hruns (by simp [hwork]), hband]
  simp only [Part.bandWriteDone, Part.bandWriteFinal, hwork, hband, hcmd]
  rfl

/-- The write of a unit of a running merge ends with another code (R104). -/
theorem Part.unitFinal_failed {s : Part} {i p start n : Nat} {code : DriveCode} (hcode : code ≠ .good)
    (hst : (s.mrg.ctx i).st = .copy) :
    s.unitFinal i p start n code = (s.onCtx i fun c => { c with
      unitOut := false, ready := c.ready.filter fun r => decide (start + n - 1 ≤ r.1) }).failMerge i code := by
  simp only [Part.unitFinal, if_neg hcode, if_pos hst]

theorem PBand.sentToReset_writeOut (b : PBand) (o : Option Nat) (n : Nat) :
    (b.sentToReset o n).writeOut = b.writeOut := by
  unfold PBand.sentToReset
  split <;> rfl

/-- The target of a merge that has ended (R102, R104). -/
theorem Part.mergeEnded_pband {s : Part} {i ph : Nat} {rp : List Nat} (hph : ph < s.bands.pool.length)
    (ht : (s.mrg.ctx i).target = some ph) : (s.mergeEnded i rp).bands.pband ph =
      ((s.bands.pband ph).sentToReset (some ph) ph).released (s.mergeOffers i) ph := by
  have hsent : ({ s.bands with pool := s.bands.pool.mapIdx fun n b => b.sentToReset (some ph) n } : Bands).pband ph =
      (s.bands.pband ph).sentToReset (some ph) ph :=
    Bands.pband_mapIdx (b := s.bands) (g := fun n b => b.sentToReset (some ph) n) rfl hph
  rw [← hsent, ← ht]
  exact Bands.pband_mapIdx (k := (s.mergeEnded i rp).bands) (b := { s.bands with
    pool := s.bands.pool.mapIdx fun n b => b.sentToReset (s.mrg.ctx i).target n })
    (g := fun n b => b.released (s.mergeOffers i) n) rfl (by simpa using hph)

end Sys2Proof.Machine

namespace Sys2Proof
open Sys2Proof.Machine

/-- Settles O42, by the offer of a unit, and by the GOOD and the failed completion of its write. -/
theorem targetUnitsAreWrittenInOrder : Obligations.TargetUnitsAreWrittenInOrder := by
  intro p q i ph hreset hctxs c hst htarget
  have hi : (i : Nat) < p.mrg.ctxs.length := hctxs.symm ▸ i.isLt
  refine ⟨fun u hwp => ?_, ?_⟩
  · intro ready
    have heq := Part.offerUnit_eq hi hst htarget hwp
    simp only [MergeCtx.unitReady_iff] at heq
    rw [exec_targetUnitOffer, State.act_awake _ hreset]
    refine ⟨fun hno => ?_, fun hready => ?_⟩
    · exact congrArg (fun x : Machine.Part => Host.Outcome.next (State.mk x q)) (heq.trans (if_neg hno))
    · exact congrArg (fun x : Machine.Part => Host.Outcome.next (State.mk x q)) (heq.trans (if_pos hready))
  · intro k o u a n hruns hwork hband hcmd wp last
    obtain ⟨s, hs⟩ : ∃ s : Machine.Part, s = { p with
        port.slots := p.port.slots.set k none
        bands.pool := p.bands.pool.modify ph fun x => { x with writeOut := false } } := ⟨_, rfl⟩
    have hact := fun code => (State.act_targetUnitComplete (q := q) code hreset hruns hwork hband hcmd).trans
      (congrArg (fun x : Machine.Part => Host.Outcome.next (State.mk (x.unitFinal i ph (256 * u) n (finalCode code)) q))
        hs.symm)
    have his : (i : Nat) < s.mrg.ctxs.length := by rw [hs]; exact hi
    have hcs : s.mrg.ctx i = c := by rw [hs]
    refine ⟨?_, fun code l hcode hb hl hph hresume hreqs hclean => ?_⟩
    · have hpool : (p.bands.pool.modify ph fun x => { x with writeOut := false }).modify ph (fun x =>
          { x with wp := 256 * u + n }) = p.bands.pool.modify ph fun x => { x with writeOut := false, wp := wp } :=
        List.modify_modify_eq ..
      rw [hact, show finalCode .good = .good from rfl, Part.unitFinal_good his, hcs, MergeCtx.written]
      simp only [hst, true_and]
      rw [hs]
      exact congrArg (fun pool => Host.Outcome.next (State.mk ({ p with
        port.slots := p.port.slots.set k none
        bands := { p.bands with pool := pool }
        log := { p.log with waiting := if last then p.log.waiting ++ [.commit i] else p.log.waiting }
        mrg := { p.mrg with ctxs := p.mrg.ctxs.set i { c with
          unitOut := false, copied := wp - 1
          ready := c.ready.filter fun r => decide (wp - 1 ≤ r.1)
          st := if last then .commit else .copy } } } : Machine.Part) q)) hpool
    · intro fails abandoned
      obtain ⟨t, ht⟩ : ∃ t : Machine.Part, t = s.onCtx i fun c => { c with
          unitOut := false, ready := c.ready.filter fun r => decide (256 * u + n - 1 ≤ r.1) } := ⟨_, rfl⟩
      have hctx : t.mrg.ctx i = { c with
          unitOut := false, ready := c.ready.filter fun r => decide (256 * u + n - 1 ≤ r.1) } := by
        rw [ht, Part.onCtx_ctx_self his, hcs]
      have hlb : t.bands.lband l = p.bands.lband l := by rw [ht, hs]; rfl
      obtain ⟨rp, rs, again, w, hrp, heq, hfirst⟩ := Part.failMerge_eq (s := t) (i := i) (finalCode code)
        (by rw [ht]; simpa [Part.onCtx] using his) (by rw [hctx]; exact hb) (by rw [ht, hs]; exact hl)
      obtain ⟨hrs, hw⟩ := hfirst (by rw [ht, hs]; exact hreqs)
      rw [hact, Part.unitFinal_failed (finalCode_ne_good hcode) (by rw [hcs]; exact hst), ← ht, heq]
      have hpools : ph < t.bands.pool.length := by rw [ht, hs]; simpa [Part.onCtx] using hph
      have htgt : (t.mrg.ctx i).target = some ph := by rw [hctx]; exact htarget
      have hout : (t.bands.pband ph).writeOut = false := by
        rw [ht, hs]
        exact congrArg PBand.writeOut (Part.onP_pband_self (s := { p with
          port.slots := p.port.slots.set k none }) hph)
      have hctx' : (t.onCtx i fun c => { c.ended i (t.mergeOffers i) with clean := false }).mrg.ctx i =
          { (t.mrg.ctx i).ended i (t.mergeOffers i) with clean := false } :=
        Part.onCtx_ctx_self (by rw [ht]; simpa [Part.onCtx] using his)
      have hpband := Part.mergeEnded_pband (rp := rp) hpools htgt
      have hsent := PBand.sentToReset_self (b := t.bands.pband ph) (o := some ph) rfl
      refine ⟨_, rfl, ?lband, hrp ph htgt, ?st, ?owner, ?writeOut, ?ctxSt, ?unitOut, ?pins, ?reqs, ?drain, ?win, ?slots,
        ?occ, ?idx, ?ini, ?sys, ?cfg, ?ret, ?ref⟩
      case lband => exact (Bands.lband_modify (b := t.bands) rfl (by rw [ht, hs]; exact hl)).trans (by rw [hlb]; rfl)
      case st => exact (congrArg PBand.st hpband).trans hsent.1
      case owner => exact (congrArg PBand.owner hpband).trans hsent.2
      case writeOut => exact (congrArg PBand.writeOut hpband).trans ((PBand.sentToReset_writeOut ..).trans hout)
      case ctxSt => exact congrArg MergeCtx.st hctx'
      case unitOut => exact (congrArg MergeCtx.unitOut hctx').trans (by rw [hctx]; rfl)
      case pins => exact congrArg MergeCtx.pins hctx'
      case reqs => exact hrs.trans (by rw [hlb])
      case drain =>
        rw [hctx, ht, hs]
        rfl
      case win =>
        refine (hw (by rw [hctx]; exact hclean)).trans ?_
        simp only [Part.mergeFailedEvents, hlb, hctx, htarget]
        rw [ht, hs]
        rfl
      all_goals
        rw [ht, hs]
        rfl

end Sys2Proof
end

section
/-! The reads of a merge (R84, R96, R105): their issue and their completion. -/

namespace Sys2Proof.Machine

/-- The pool of bands after the readers of what `pin` pins have changed by `f` (R20). -/
def Pin.pool (pin : Pin) (f : Nat → Nat) (pool : List PBand) : List PBand :=
  match pin with
  | .band ph => pool.modify ph fun b => { b with readers := f b.readers }
  | .record _ => pool

/-- The record table after the readers of what `pin` pins have changed by `f` (R20). -/
def Pin.table (pin : Pin) (f : Nat → Nat) (table : List Rec) : List Rec :=
  match pin with
  | .record seq => table.map fun r => if r.seq = seq then { r with readers := f r.readers } else r
  | .band _ => table

theorem Part.pin_eq (s : Part) (pin : Pin) : s.pin pin = { s with
    bands.pool := pin.pool (· + 1) s.bands.pool, log.table := pin.table (· + 1) s.log.table } := by
  cases pin <;> rfl

theorem Part.unpin_eq (s : Part) (pin : Pin) : s.unpin pin = { s with
    bands.pool := pin.pool (· - 1) s.bands.pool, log.table := pin.table (· - 1) s.log.table } := by
  cases pin <;> rfl

theorem Merge.ctxs_modify {m : Merge} {i : Nat} (f : MergeCtx → MergeCtx) (hi : i < m.ctxs.length) :
    m.ctxs.modify i f = m.ctxs.set i (f (m.ctx i)) := by
  simp [List.modify_eq_set_getElem?, Merge.ctx, hi]

/-- The issue of the next read of a merge that copies (R96). -/
theorem Part.issueRead_eq {s : Part} {i : Nat} {r : ChainRead} (hi : i < s.mrg.ctxs.length)
    (hst : (s.mrg.ctx i).st = .copy) (hcarry : (s.mrg.ctx i).carry = none)
    (hr : ((s.mrg.ctx i).chainReads s.sys.layout)[(s.mrg.ctx i).front]? = some r) :
    s.issueRead i =
      if (s.mrg.ctx i).reads.length < 8 ∧ (s.mrg.ctx i).framesUsed + r.n ≤ 1024 then { s with
        bands.pool := r.pin.pool (· + 1) s.bands.pool, log.table := r.pin.table (· + 1) s.log.table
        mrg.ctxs := s.mrg.ctxs.set i { s.mrg.ctx i with
          front := (s.mrg.ctx i).front + 1, reads := (s.mrg.ctx i).reads ++ [(r.off, r.n)] }
        port.offers := s.port.offers ++
          [{ cls := .e, work := .mergeRead i r.off r.n, cmd := .read r.abs r.n, pin := some r.pin }] }
      else s := by
  have hset : ∀ f : MergeCtx → MergeCtx, s.mrg.ctxs.modify i f = s.mrg.ctxs.set i (f (s.mrg.ctx i)) := fun f =>
    Merge.ctxs_modify f hi
  simp only [Part.issueRead, hst, hcarry, Option.isNone_none, true_and, hr, Config.readsInFlight, Config.mergeFrames,
    Part.pin_eq, Part.onCtx, hset]
  by_cases hreads : (s.mrg.ctx i).reads.length < 8
  · by_cases hframes : (s.mrg.ctx i).framesUsed + r.n ≤ 1024
    · rw [if_pos hreads, if_pos hframes, if_pos ⟨hreads, hframes⟩]
      rfl
    · rw [if_pos hreads, if_neg hframes, if_neg fun h => hframes h.2]
  · rw [if_neg hreads, if_neg fun h => hreads h.1]

/-- A merge context after a read at offset `off` has ended (R96). -/
def MergeCtx.readEnded (c : MergeCtx) (off : Nat) : MergeCtx :=
  { c with reads := c.reads.filter fun r => r.1 != off }

/-- A part after a read of its context `i` has ended (R96, R105). -/
def Part.readEnded (s : Part) (i off : Nat) (pin : Pin) : Part :=
  { s with
    bands.pool := pin.pool (· - 1) s.bands.pool, log.table := pin.table (· - 1) s.log.table
    mrg.ctxs := s.mrg.ctxs.modify i (·.readEnded off) }

theorem Part.mergeReadFinal_eq {s : Part} {i off n : Nat} {pin : Pin} {code : DriveCode} {bs : List Block}
    (hi : i < s.mrg.ctxs.length) (hst : (s.mrg.ctx i).st = .copy) :
    s.mergeReadFinal i off n (some pin) code bs =
      if code = .good then { s.readEnded i off pin with
        mrg.ctxs := s.mrg.ctxs.set i { (s.mrg.ctx i).readEnded off with
          ready := (s.mrg.ctx i).ready ++ numbered off (fitBlocks n bs) } }
      else (s.readEnded i off pin).faultMerge i code := by
  have hended : (s.unpin pin).onCtx i (·.readEnded off) = s.readEnded i off pin := by
    rw [Part.unpin_eq]
    rfl
  have hctx : (s.readEnded i off pin).mrg.ctx i = (s.mrg.ctx i).readEnded off := Part.onCtx_ctx_self (s := s) hi
  have hcopy : ¬ ((s.readEnded i off pin).mrg.ctx i).st ≠ .copy := by
    rw [hctx]
    exact not_not_intro hst
  have hset : (s.readEnded i off pin).mrg.ctxs.modify i (fun c => { c with
      ready := c.ready ++ numbered off (fitBlocks n bs) }) = s.mrg.ctxs.set i { (s.mrg.ctx i).readEnded off with
        ready := (s.mrg.ctx i).ready ++ numbered off (fitBlocks n bs) } := by
    refine (List.modify_modify_eq ..).trans ?_
    exact Merge.ctxs_modify _ hi
  have hunfold : s.mergeReadFinal i off n (some pin) code bs =
      if ((s.readEnded i off pin).mrg.ctx i).st ≠ .copy then s.readEnded i off pin
      else if code = .good then (s.readEnded i off pin).onCtx i fun c =>
        { c with ready := c.ready ++ numbered off (fitBlocks n bs) }
      else (s.readEnded i off pin).faultMerge i code := by
    rw [← hended]
    rfl
  rw [hunfold, if_neg hcopy, Part.onCtx, hset]

/-- What a merge that fails at a read writes (R105). -/
theorem Part.faultMerge_eq {s : Part} {i l : Nat} (code : DriveCode) (hi : i < s.mrg.ctxs.length)
    (hb : (s.mrg.ctx i).band = some l) :
    ∃ rp rs again w, s.faultMerge i code = { s.mergeEnded i rp with
        bands := { (s.mergeEnded i rp).bands with
          lbt := s.bands.lbt.modify l fun b => { b with st := .faulted, resume := none } }
        mrg := { (s.mergeEnded i rp).mrg with
          ctxs := s.mrg.ctxs.modify i fun c => { c.ended i (s.mergeOffers i) with clean := false }
          reqs := rs, rescan := again
          drain := if (s.mrg.ctx i).origin = some .drain then s.mrg.drain.map (·.counts .failed) else s.mrg.drain }
        win := w } ∧
      ((s.mrg.ctx i).clean = false → s.mrg.req l = none →
        w = (s.win.raise .mergeAbandoned (some .drive) (some l) (s.mrg.ctx i).target (some (s.mrg.ctx i).copied)
          (some (driveNum code))).raise .bandFaulted (some .drive) (some l) none none none) := by
  obtain ⟨rp, _, hended⟩ := s.mergeEnded_eq i
  obtain ⟨t, ht⟩ : ∃ t : Part, t = (s.mergeEnded i rp).raiseAbandoned (s.mrg.ctx i) (some code) := ⟨_, rfl⟩
  have hfault : s.faultMerge i code = (t.faultBand l).tellMerge i .failed := by
    rw [ht, ← hended]
    simp only [Part.faultMerge, hb]
    rfl
  have hctx : t.mrg.ctx i = (s.mrg.ctx i).ended i (s.mergeOffers i) := by
    rw [ht]
    exact Part.mergeEnded_ctx hi rp
  obtain ⟨rs, again, w, hasked⟩ := t.asks_faultBand l
  obtain ⟨w', htell, hw'⟩ := (t.faultBand l).tellMerge_eq i .failed
  have hctx' : (t.faultBand l).mrg.ctx i = (s.mrg.ctx i).ended i (s.mergeOffers i) := by
    rw [hasked]
    exact hctx
  refine ⟨rp, rs, again, w', ?_, fun hclean hreq => ?_⟩
  · rw [hfault, htell, hctx', hasked, ht]
    simp only [Part.raiseAbandoned, Part.raise, Part.mergeEnded, Part.onL, List.modify_modify_eq]
    rfl
  · rw [hw' (by rw [hctx']; exact hclean), Part.faultBand_unlisted (by rw [ht]; exact hreq), ht]
    simp only [Part.raiseAbandoned, hb]
    rfl

/-- The completion of a merge read, in a slot whose completion is handed on (R96, R117). -/
theorem State.act_mergeReadComplete {p : Part} {q : List Instr} {k : Fin 32} {o : Offer} {i off n : Nat}
    (code : DriveCode) (bs : List Block) (hreset : p.sys.inReset = false) (hruns : p.port.runs k o)
    (hwork : o.work = .mergeRead i off n) (hband : o.band = none) :
    exec (.mergeReadComplete k code bs) ⟨p, q⟩ = .next ⟨
      ({ p with port.slots := p.port.slots.set k none } : Part).mergeReadFinal i off n o.pin (finalCode code) bs, q⟩ := by
  rw [exec_mergeReadComplete, State.act_awake _ hreset, Part.complete_runs _ hruns (by simp [hwork]), hband]
  simp only [hwork]
  rfl

end Sys2Proof.Machine

namespace Sys2Proof
open Sys2Proof.Machine

/-- Settles O41, by the issue of a read, and by its GOOD and its failed completion. -/
theorem mergeReadsFillTheFrames : Obligations.MergeReadsFillTheFrames := by
  intro p q i hreset hctxs c hst hcarry pool table
  have hi : (i : Nat) < p.mrg.ctxs.length := hctxs.symm ▸ i.isLt
  refine ⟨?chain, ?issue, ?complete⟩
  case chain =>
    intro m lp seq hchain hsrc
    simp [MergeCtx.chainReads, hchain, stepReads, hsrc, logAbs, Config.logBase]
  case issue =>
    intro r hr
    have heq := Part.issueRead_eq hi hst hcarry hr
    rw [exec_mergeReadIssue, State.act_awake _ hreset]
    refine ⟨fun hno => ?_, fun hreads hframes => ?_⟩
    · rw [if_neg fun h => hno.elim (Nat.not_le.mpr h.1) (Nat.not_lt.mpr h.2)] at heq
      exact congrArg (fun x : Machine.Part => Host.Outcome.next (State.mk x q)) heq
    · rw [if_pos ⟨hreads, hframes⟩] at heq
      exact congrArg (fun x : Machine.Part => Host.Outcome.next (State.mk x q)) heq
  case complete =>
    intro k o off n pin blocks hruns hwork hband hpin
    obtain ⟨s, hs⟩ : ∃ s : Machine.Part, s = { p with port.slots := p.port.slots.set k none } := ⟨_, rfl⟩
    have hact : ∀ code, exec (.mergeReadComplete k code blocks) ⟨p, q⟩ =
        .next ⟨s.mergeReadFinal i off n (some pin) (finalCode code) blocks, q⟩ := fun code => by
      rw [State.act_mergeReadComplete code blocks hreset hruns hwork hband, hs, hpin]
    have his : (i : Nat) < s.mrg.ctxs.length := by rw [hs]; exact hi
    have hcs : s.mrg.ctx i = c := by rw [hs]
    refine ⟨?_, fun code l hcode hb hl => ?_⟩
    · rw [hact, Part.mergeReadFinal_eq his (by rw [hcs]; exact hst),
        if_pos (show finalCode .good = .good from rfl), hcs, hs]
      cases pin <;> rfl
    · obtain ⟨t, ht⟩ : ∃ t : Machine.Part, t = s.readEnded i off pin := ⟨_, rfl⟩
      have hctx : t.mrg.ctx i = c.readEnded off := by
        rw [ht, ← hcs]
        exact Part.onCtx_ctx_self (s := s) his
      have hit : (i : Nat) < t.mrg.ctxs.length := by rw [ht]; simpa [Part.readEnded] using his
      obtain ⟨rp, rs, again, w, heq, hw⟩ := Part.faultMerge_eq (finalCode code) hit (by rw [hctx]; exact hb)
      rw [hact, Part.mergeReadFinal_eq his (by rw [hcs]; exact hst), if_neg (finalCode_ne_good hcode), ← ht, heq]
      have hfaulted : ∀ k : Bands, k.lbt = t.bands.lbt.modify l (fun b => { b with st := .faulted, resume := none }) →
          k.lband l = { p.bands.lband l with st := .faulted, resume := none } := fun k hk => by
        rw [Bands.lband_modify (b := t.bands) hk (by rw [ht, hs]; exact hl), ht, hs]
        rfl
      refine ⟨_, rfl, ?st, ?faulted, ?phys, fun hclean hreqs => ?win⟩
      case st =>
        exact congrArg MergeCtx.st (Part.onCtx_ctx_self (s := t)
          (f := fun c => { c.ended i (t.mergeOffers i) with clean := false }) hit)
      case faulted => exact congrArg LBand.st (hfaulted _ rfl)
      case phys => exact (congrArg LBand.phys (hfaulted _ rfl)).trans rfl
      case win =>
        have hreq : t.mrg.req l = none := by
          rw [ht, hs]
          exact List.find?_eq_none.mpr fun x hx => by simpa using hreqs x hx
        refine (hw (by rw [hctx]; exact hclean) hreq).trans ?_
        rw [hctx, ht, hs]
        rfl

end Sys2Proof
end

section
/-! Band resets (R40, R41, R57, R58): their offer and their completion. -/

namespace Sys2Proof.Machine

theorem Part.resettable_iff {s : Part} {b : Nat} :
    s.resettable b = true ↔ s.sys.mode = .active ∧ (s.bands.pband b).readers = 0 ∧ (s.bands.pband b).writeOut = false ∧
      (s.bands.pband b).resetIssued = false ∧ ∀ l ∈ s.bands.lbt, ∀ e ∈ l.queue, e.band ≠ b := by
  have happending : s.bands.appending b = false ↔ ∀ l ∈ s.bands.lbt, ∀ e ∈ l.queue, e.band ≠ b := by
    simp [Bands.appending]
  rw [← happending]
  simp only [Part.resettable, Bool.and_eq_true, beq_iff_eq, Bool.not_eq_true']
  exact ⟨fun ⟨⟨⟨⟨hr, hw⟩, ha⟩, hi⟩, hm⟩ => ⟨hm, hr, hw, hi, ha⟩, fun ⟨hm, hr, hw, hi, ha⟩ => ⟨⟨⟨⟨hr, hw⟩, ha⟩, hi⟩, hm⟩⟩

/-- The offers of resets where one band is to be reset (R40). -/
theorem Part.offerResets_one {s : Part} {b : Nat} (h : s.bands.resetPend = [b]) :
    s.offerResets = if s.resettable b then s.offerReset b else s := by
  rw [Part.offerResets, h]
  cases hr : s.resettable b <;> simp [hr]

/-- The records after the reset of band `b` (R57). -/
def Rec.resetDone (r : Rec) (b : Nat) : Rec :=
  if b ∈ r.awaited then { r with awaited := r.awaited.filter (· != b), live := r.live - 1 } else r

theorem Part.resetFinished_eq (s : Part) (b : Nat) :
    s.resetFinished b = { s with log.table := s.log.table.map (·.resetDone b) } := by
  have hrec : (fun r : Rec => if r.awaited.contains b then
      { r with awaited := r.awaited.filter (· != b), live := r.live - 1 } else r) = (·.resetDone b) := by
    funext r
    simp [Rec.resetDone]
  rw [Part.resetFinished, hrec]

/-- A reset that ends GOOD (R41). -/
theorem Part.resetFinal_good (s : Part) (b : Nat) : s.resetFinal b .good = Part.deadlockCheck { s with
    bands := { s.bands with
      resetPend := s.bands.resetPend.filter (· != b)
      pool := s.bands.pool.modify b fun x => { x with resetIssued := false, st := .free, wp := 0 }
      free := s.bands.free ++ [b] }
    log := { s.log with
      table := s.log.table.map (·.resetDone b)
      holds := s.log.holds.filter fun h => h.1 != b } } := by
  have hpool : (s.bands.pool.modify b fun x => { x with resetIssued := false }).modify b (fun x =>
      { x with st := .free, wp := 0 }) = s.bands.pool.modify b fun x =>
        { x with resetIssued := false, st := .free, wp := 0 } := List.modify_modify_eq ..
  simp only [Part.resetFinal, if_true, Part.resetFinished_eq, Part.onP, Part.releaseHold, hpool]

/-- A reset that ends with another code (R41). -/
theorem Part.resetFinal_failed (s : Part) (b : Nat) {code : DriveCode} (h : code ≠ .good) :
    s.resetFinal b code = Part.deadlockCheck { s with
      bands := { s.bands with
        resetPend := s.bands.resetPend.filter (· != b)
        pool := s.bands.pool.modify b fun x => { x with resetIssued := false, st := .retired } }
      win := s.win.raise .bandRetired (some .drive) none (some b) none none } := by
  have hpool : (s.bands.pool.modify b fun x => { x with resetIssued := false }).modify b (fun x =>
      { x with st := .retired }) = s.bands.pool.modify b fun x => { x with resetIssued := false, st := .retired } :=
    List.modify_modify_eq ..
  simp only [Part.resetFinal, if_neg h, Part.retire, Part.onP, Part.raise, hpool]

end Sys2Proof.Machine

namespace Sys2Proof
open Sys2Proof.Machine

/-- Settles O38, by the offer of the one reset, and by its GOOD and its failed completion. -/
theorem resetBandsReturnToTheFreeList : Obligations.ResetBandsReturnToTheFreeList := by
  intro p q k o b hreset
  refine ⟨?_, ?_⟩
  · intro hpend x ready
    rw [exec_bandResetOffer, State.act_awake _ hreset]
    have hready : p.resettable b = true ↔ ready := Part.resettable_iff
    refine ⟨fun hno => ?_, fun hyes => ?_⟩
    · have heq := (Part.offerResets_one hpend).trans (if_neg fun h => hno (hready.mp h))
      exact congrArg (fun x : Machine.Part => Host.Outcome.next (State.mk x q)) heq
    · have heq := (Part.offerResets_one hpend).trans (if_pos (hready.mpr hyes))
      exact congrArg (fun x : Machine.Part => Host.Outcome.next (State.mk x q)) heq
  · intro hruns hwork hband slots pend
    have hact : ∀ code, exec (.bandResetComplete k code) ⟨p, q⟩ =
        .next ⟨({ p with port.slots := slots } : Machine.Part).resetFinal b (finalCode code), q⟩ := fun code => by
      rw [exec_bandResetComplete, State.act_awake _ hreset, Part.complete_runs _ hruns (by simp [hwork]), hband]
      simp only [hwork]
      rfl
    refine ⟨?_, fun code hcode => ?_⟩
    · rw [hact, show finalCode .good = .good from rfl, Part.resetFinal_good]
      rfl
    · rw [hact, Part.resetFinal_failed _ _ (finalCode_ne_good hcode)]

end Sys2Proof
end

section
/-! The snapshot of a merge and its target (R28, R29, R58, R80, R93, R94). -/

namespace Sys2Proof.Machine

/-! ### Targets -/

/-- The removal of the head of the free list (R28). -/
theorem Part.takeFree_head {s : Part} {ph : Nat} {rest : List Nat} (hfree : s.bands.free = ph :: rest)
    (hph : ph ∉ rest) : s.takeFree ph = { s with
      win.pending := if rest.length ≤ 2 then s.win.pending ||| 0x20#8 else s.win.pending
      bands.free := rest } := by
  have hrest : (ph :: rest).filter (· != ph) = rest := by
    rw [List.filter_cons_of_neg (by simp)]
    exact List.filter_eq_self.mpr fun x hx => by
      have : x ≠ ph := fun h => hph (h ▸ hx)
      simpa using this
  simp only [Part.takeFree, hfree, hrest, Config.mergeReserve]
  by_cases hlen : rest.length ≤ 2
  · rw [if_pos hlen, if_pos hlen]
    rfl
  · rw [if_neg hlen, if_neg hlen]

/-- The head of the free list is given to a context (R29, R58, R94). -/
theorem Part.giveTarget_head {s : Part} {i ph l : Nat} {rest : List Nat} (hfree : s.bands.free = ph :: rest)
    (hph : ph ∉ rest) (hb : (s.mrg.ctx i).band = some l) :
    s.giveTarget i ph = { s with
      win.pending := if rest.length ≤ 2 then s.win.pending ||| 0x20#8 else s.win.pending
      bands := { s.bands with
        free := rest
        pool := s.bands.pool.modify ph fun b => { b with st := .target, owner := some l, wp := 0 } }
      log.holds := s.log.holds ++ [(ph, (s.mrg.ctx i).snapSeq.getD 0)]
      mrg.ctxs := s.mrg.ctxs.modify i fun c => { c with
        st := .copy, target := some ph
        chain := chainFrom (l * s.sys.layout.dataBlocks) c.fill c.newFill 0 c.snap } } := by
  have hctx : s.mrg.ctxs.modify i (fun c => { c with
      st := .copy, target := some ph
      chain := chainFrom (l * s.sys.layout.dataBlocks) (s.mrg.ctx i).fill (s.mrg.ctx i).newFill 0 (s.mrg.ctx i).snap }) =
      s.mrg.ctxs.modify i fun c => { c with
        st := .copy, target := some ph
        chain := chainFrom (l * s.sys.layout.dataBlocks) c.fill c.newFill 0 c.snap } :=
    List.modify_congr_at fun c h => by
      have hc : s.mrg.ctx i = c := by simp [Merge.ctx, h]
      rw [hc]
  simp only [Part.giveTarget, Part.takeFree_head hfree hph, hb, Option.getD_some, Part.onP, Part.onCtx, hctx]

/-! ### The snapshot -/

theorem List.count_eraseDups (l : List Nat) (a : Nat) : l.eraseDups.count a = if a ∈ l then 1 else 0 := by
  induction hn : l.length using Nat.strong_induction_on generalizing l with
  | h n ih =>
    cases l with
    | nil => simp
    | cons b l =>
      have hlen : (l.filter fun x => !x == b).length < n := by
        have := List.length_filter_le (fun x => !x == b) l
        simp only [List.length_cons] at hn
        omega
      rw [List.eraseDups_cons, List.count_cons, ih _ hlen _ rfl]
      by_cases hab : b = a
      · subst hab
        simp
      · have hba : ¬ a = b := fun h => hab h.symm
        simp [hab, hba]

/-- A record after the snapshot of a band with extents `es` (R80, R93). -/
def Rec.snapped (r : Rec) (es : List Extent) : Rec :=
  if es.any (·.seq == r.seq) then { r with readers := r.readers + 1 } else r

/-- The pins that a snapshot takes: one on each record of the band's extents (R80, R93). -/
theorem Part.foldl_pinRecords (s : Part) (es : List Extent) :
    (es.map (·.seq)).eraseDups.foldl (fun s q => s.pin (.record q)) s =
      { s with log.table := s.log.table.map (·.snapped es) } := by
  have hfold : (es.map (·.seq)).eraseDups.foldl (fun s q => s.pin (.record q)) s =
      ((es.map (·.seq)).eraseDups.map Pin.record).foldl Part.pin s := (List.foldl_map ..).symm
  have hband : ∀ n, ((es.map (·.seq)).eraseDups.map Pin.record).count (.band n) = 0 := fun n =>
    List.count_eq_zero.mpr fun h => by simp at h
  have hrec : ∀ q, ((es.map (·.seq)).eraseDups.map Pin.record).count (.record q) =
      if es.any (·.seq == q) then 1 else 0 := fun q => by
    rw [List.count_map_of_injective _ _ fun a b h => Pin.record.inj h, List.count_eraseDups]
    simp
  have hpool : s.bands.pool.mapIdx (fun _ x => x) = s.bands.pool := List.ext_getElem (by simp) (by simp)
  have htable : s.log.table.map (fun r => { r with readers := r.readers + if es.any (·.seq == r.seq) then 1 else 0 }) =
      s.log.table.map (·.snapped es) := List.map_congr_left fun r _ => by
    unfold Rec.snapped
    split <;> rfl
  rw [hfold, Part.foldl_pin]
  simp only [hband, hrec, Nat.add_zero, hpool, htable]

theorem Part.drained_iff {s : Part} {c : MergeCtx} {l : Nat} (hst : c.st = .waitAppend) (hb : c.band = some l) :
    s.drained c = true ↔
      (s.bands.lband l).queue = [] ∧ ∀ ph, c.old = some ph → (s.bands.pband ph).writeOut = false := by
  cases ho : c.old <;> simp [Part.drained, hst, hb, ho]

/-- A merge context after its snapshot (R93). -/
def MergeCtx.snapped (c : MergeCtx) (q f f' : Nat) (es : List Extent) : MergeCtx :=
  { c with snapSeq := some q, snap := es, pins := (es.map (·.seq)).eraseDups, fill := f, newFill := f' }

/-- The snapshot of a drained context, up to what follows by the new fill (R93, R94). -/
theorem Part.snapshot_eq {s : Part} {i l : Nat} (hi : i < s.mrg.ctxs.length) (hb : (s.mrg.ctx i).band = some l)
    (hd : s.drained (s.mrg.ctx i) = true) :
    let es := s.idx.ofBand s.sys.layout.dataBlocks l
    let f := (s.bands.lband l).f
    let f' := max f (dataTop s.sys.layout.dataBlocks l es)
    let t : Part := { s with
      log.table := s.log.table.map (·.snapped es)
      mrg.ctxs := s.mrg.ctxs.set i ((s.mrg.ctx i).snapped s.log.settled f f' es) }
    s.snapshot i = if f' = 0 then t.beginCommit i else t.obtainTarget i := by
  intro es f f' t
  have ht : (({ s with log.table := s.log.table.map (·.snapped es) } : Part).onCtx i fun c =>
      c.snapped s.log.settled f f' es) = t := by
    simp only [Part.onCtx, Merge.ctxs_modify _ hi]
    rfl
  rw [← ht]
  simp only [Part.snapshot, if_pos hd, hb, Option.getD_some, Part.foldl_pinRecords]
  rfl

/-- What obtaining a target leaves: the record table, and all of the context but its state, target and chain (R94). -/
theorem Part.obtainTarget_keeps {s : Part} {i : Nat} (hi : i < s.mrg.ctxs.length) :
    (s.obtainTarget i).log.table = s.log.table ∧
    ∃ st target chain, (s.obtainTarget i).mrg.ctx i =
      { s.mrg.ctx i with st := st, target := target, chain := chain } := by
  unfold Part.obtainTarget
  split
  next ph _ _ =>
    have hmrg : (s.giveTarget i ph).mrg = { s.mrg with
        ctxs := s.mrg.ctxs.modify i fun c => { c with
          st := .copy, target := some ph
          chain := chainFrom (((s.mrg.ctx i).band.getD 0) * s.sys.layout.dataBlocks) (s.mrg.ctx i).fill
            (s.mrg.ctx i).newFill 0 (s.mrg.ctx i).snap } } := by
      simp [Part.giveTarget, Part.onCtx, Part.onP]
    refine ⟨by simp [Part.giveTarget, Part.onCtx, Part.onP], .copy, some ph,
      chainFrom (((s.mrg.ctx i).band.getD 0) * s.sys.layout.dataBlocks) (s.mrg.ctx i).fill (s.mrg.ctx i).newFill 0
        (s.mrg.ctx i).snap, ?_⟩
    rw [hmrg]
    exact Part.onCtx_ctx_self hi
  next =>
    refine ⟨rfl, .waitBand, (s.mrg.ctx i).target, (s.mrg.ctx i).chain, ?_⟩
    exact Part.onCtx_ctx_self hi

end Sys2Proof.Machine

namespace Sys2Proof
open Sys2Proof.Machine

/-- Settles O40, by the snapshot of a drained context, its target or its wait, and the band handed over. -/
theorem snapshotsAndFreedBandsStartTheCopy : Obligations.SnapshotsAndFreedBandsStartTheCopy := by
  refine ⟨?snapshot, ?handed⟩
  case snapshot =>
    intro p q i l hreset hctxs c hb hst d es f drained
    have hi : (i : Nat) < p.mrg.ctxs.length := hctxs.symm ▸ i.isLt
    have hdrained : p.drained c = true ↔ drained := Part.drained_iff hst hb
    have hsnapshot := fun h => Part.snapshot_eq hi hb (hdrained.mpr h)
    rw [exec_mergeSnapshot, State.act_awake _ hreset]
    refine ⟨fun hno => ?_, fun h hzero => ?_, fun h hpos => ?_⟩
    · have heq : p.snapshot i = p := if_neg fun h => hno (hdrained.mp h)
      exact congrArg (fun x : Machine.Part => Host.Outcome.next (State.mk x q)) heq
    · have hf : f = 0 := Nat.le_zero.mp (hzero ▸ Nat.le_max_left ..)
      have heq := (hsnapshot h).trans (if_pos hzero)
      refine congrArg (fun x : Machine.Part => Host.Outcome.next (State.mk x q)) (heq.trans ?_)
      have hctx : (p.mrg.ctxs.set i (c.snapped p.log.settled f (max f (dataTop d l es)) es)).modify i
          (fun c => { c with st := .commit }) = p.mrg.ctxs.set i { c with
            snapSeq := some p.log.settled, snap := es, pins := (es.map (·.seq)).eraseDups, fill := 0, newFill := 0
            st := .commit } := by
        rw [hzero, hf]
        simp [List.modify_eq_set_getElem?, hi, MergeCtx.snapped]
      exact congrArg (fun ctxs => ({ p with
        mrg := { p.mrg with ctxs := ctxs }
        log := { p.log with
          table := p.log.table.map (·.snapped es)
          waiting := p.log.waiting ++ [.commit i] } } : Machine.Part)) hctx
    · have heq := (hsnapshot h).trans (if_neg (Nat.ne_of_gt hpos))
      obtain ⟨t, ht⟩ : ∃ t : Machine.Part, t = { p with
          log.table := p.log.table.map (·.snapped es)
          mrg.ctxs := p.mrg.ctxs.set i (c.snapped p.log.settled f (max f (dataTop d l es)) es) } := ⟨_, rfl⟩
      have heq' : p.snapshot i = t.obtainTarget i := heq.trans (congrArg (·.obtainTarget i) ht.symm)
      have hit : (i : Nat) < t.mrg.ctxs.length := by rw [ht]; simpa using hi
      have hctx : t.mrg.ctx i = c.snapped p.log.settled f (max f (dataTop d l es)) es := by
        rw [ht]
        simp [Merge.ctx, hi]
      obtain ⟨htable, st, target, chain, hkept⟩ := Part.obtainTarget_keeps hit
      rw [hctx] at hkept
      refine ⟨t.obtainTarget i, congrArg (fun x : Machine.Part => Host.Outcome.next (State.mk x q)) heq', ?records,
        ?snapSeq, ?snap, ?fill, ?newFill, ?waits, ?takes⟩
      case records =>
        intro r hr he
        rw [htable, ht]
        refine List.mem_map.mpr ⟨r, hr, if_pos ?_⟩
        simpa using he
      case snapSeq => rw [hkept]; rfl
      case snap => rw [hkept]; rfl
      case fill => rw [hkept]; rfl
      case newFill => rw [hkept]; rfl
      case waits =>
        intro hfree
        have hnone : t.freeAvail = [] := by rw [ht]; exact List.drop_eq_nil_of_le hfree
        rw [Part.obtainTarget, hnone]
        refine ⟨congrArg MergeCtx.st (Part.onCtx_ctx_self hit), ?_, ?_⟩ <;> rw [ht] <;> rfl
      case takes =>
        intro ph rest hwait hfree hph
        have hhead : t.freeAvail = ph :: rest := by rw [ht]; simp [Part.freeAvail, hwait, hfree]
        have hgive := Part.giveTarget_head (s := t) (i := i) (l := l) (by rw [ht]; exact hfree) hph
          (by rw [hctx]; exact hb)
        have hobtain : t.obtainTarget i = t.giveTarget i ph := by rw [Part.obtainTarget, hhead]
        have hgiven := Part.onCtx_ctx_self (s := t) (i := i) (f := fun c => { c with
          st := .copy, target := some ph
          chain := chainFrom (l * t.sys.layout.dataBlocks) c.fill c.newFill 0 c.snap }) hit
        rw [hobtain, hgive]
        refine ⟨congrArg MergeCtx.st hgiven, congrArg MergeCtx.target hgiven, ?_, rfl, ?_, ?_⟩
        · refine (congrArg MergeCtx.chain hgiven).trans ?_
          rw [hctx, ht]
          rfl
        · rw [hctx, ht]
          rfl
        · rw [ht]
  case handed =>
    intro p q hreset
    rw [exec_targetBandHanded, State.act_awake _ hreset]
    refine ⟨fun hno => ?_, ?_⟩
    · have heq : p.handBand = p := by
        unfold Part.handBand
        split
        next i rest ph later hw hf => exact absurd hno (by simp [hw, hf])
        next => rfl
      exact congrArg (fun x : Machine.Part => Host.Outcome.next (State.mk x q)) heq
    · intro i ws ph rest l hwait hfree hph hb c
      have heq : p.handBand = ({ p with mrg.waitBand := ws } : Machine.Part).giveTarget i ph := by
        simp only [Part.handBand, hwait, hfree]
      rw [Part.giveTarget_head (s := { p with mrg.waitBand := ws }) hfree hph hb] at heq
      exact congrArg (fun x : Machine.Part => Host.Outcome.next (State.mk x q)) heq

end Sys2Proof
end

section
/-! The states of the merge contexts at the entry into DEGRADED (R107): a context in RELEASE stays there. -/

namespace Sys2Proof.Machine

/-- The states of the merge contexts (R84). -/
def Part.phases (s : Part) : List CtxState := s.mrg.ctxs.map (·.st)

section
variable (s : Part)

theorem Part.phases_getD (k : Nat) : s.phases.getD k .idle = (s.mrg.ctx k).st := by
  simp only [Part.phases, Merge.ctx, List.getD_eq_getElem?_getD, List.getElem?_map]
  cases s.mrg.ctxs[k]? <;> rfl

theorem Part.phases_of_mrg {s t : Part} (h : t.mrg = s.mrg) : t.phases = s.phases := by
  rw [Part.phases, h]
  rfl

theorem Part.Asks.phases {s t : Part} (h : s.Asks t) : t.phases = s.phases := by
  obtain ⟨rs, again, w, rfl⟩ := h
  rfl

theorem Part.onCtx_phases (i : Nat) {f : MergeCtx → MergeCtx} (hf : ∀ c, (f c).st = c.st) :
    (s.onCtx i f).phases = s.phases := by
  refine List.ext_getElem? fun k => ?_
  simp only [Part.phases, Part.onCtx, List.getElem?_map, List.getElem?_modify]
  split
  · cases s.mrg.ctxs[k]? <;> simp [hf]
  · simp

theorem Part.onCtx_phases_release (i : Nat) {f : MergeCtx → MergeCtx} (hf : ∀ c, (f c).st = .release) :
    (s.onCtx i f).phases = s.phases.modify i fun _ => .release := by
  refine List.ext_getElem? fun k => ?_
  simp only [Part.phases, Part.onCtx, List.getElem?_map, List.getElem?_modify]
  split <;> cases s.mrg.ctxs[k]? <;> simp [hf]

theorem Part.barrierParts_mrg : s.barrierParts.mrg = s.mrg := by
  unfold Part.barrierParts
  split
  · rfl
  · refine foldl_frame Part.mrg (fun s r => ?_) _ s
    unfold Part.barrierPart
    split
    · split <;> rfl
    · rfl

theorem Part.markVoids_mrg : s.markVoids.mrg = s.mrg :=
  foldl_frame Part.mrg (fun s o => by split <;> rfl) _ s

theorem Part.dropHeld_mrg : s.dropHeld.mrg = s.mrg :=
  foldl_frame Part.mrg (fun s _ => s.partFinal_mrg ..) _ _

theorem Part.failEntries_mrg (c es) : (s.failEntries c es).mrg = s.mrg :=
  foldl_frame Part.mrg (fun s _ => s.partFinal_mrg ..) es s

theorem Part.replaceEntries_mrg (l es) : (s.replaceEntries l es).1.mrg = s.mrg := by
  induction es generalizing s with
  | nil => rfl
  | cons e es ih => exact ih _

theorem Part.appendFail_phases (l p start) : (s.appendFail l p start).phases = s.phases := by
  unfold Part.appendFail
  split
  · rfl
  · dsimp only
    split
    · refine Eq.trans (Part.phases_of_mrg (Part.raise_mrg ..)) ?_
      split
      · exact Part.phases_of_mrg (Part.replaceEntries_mrg ..)
      · exact (Part.asks_offerUrgent _ l).phases.trans (Part.phases_of_mrg (Part.replaceEntries_mrg ..))
    · exact Part.phases_of_mrg (Part.failEntries_mrg ..)

theorem Part.withdrawAnchor_mrg : s.withdrawAnchor.mrg = s.mrg := by
  unfold Part.withdrawAnchor
  split
  · rfl
  · unfold Part.finishSettings
    split
    · rfl
    · split <;> rfl

theorem Part.reportWithdrawn_phases (o) : (s.reportWithdrawn o).phases = s.phases := by
  have hclear : ∀ b, (s.clearOut b).phases = s.phases := fun b => by cases b <;> rfl
  unfold Part.reportWithdrawn
  split
  · rfl
  · rfl
  · exact Part.phases_of_mrg s.withdrawAnchor_mrg
  · rfl
  · split
    · rfl
    · exact (Part.appendFail_phases ..).trans (hclear _)
  · rw [Part.onCtx_phases _ _ (f := fun c => { c with unitOut := false }) fun _ => rfl]
    split
    · rfl
    · exact hclear _
  · rfl

theorem Part.dropAppends_phases (l) : (s.dropAppends l).phases = s.phases :=
  Part.phases_of_mrg (Part.failEntries_mrg ..)

theorem Part.withdrawWrites_phases : s.withdrawWrites.phases = s.phases :=
  (foldl_frame Part.phases Part.reportWithdrawn_phases _ _).trans <|
    (foldl_frame Part.phases Part.dropAppends_phases _ _).trans
      (foldl_frame Part.phases Part.reportWithdrawn_phases _ _)

theorem Part.dropCarry_phases (i) : (s.dropCarry i).phases = s.phases.modify i fun _ => .release := by
  unfold Part.dropCarry
  extract_lets mine os unpinned withdrawn loses log ended
  have hunpinned : unpinned.phases = s.phases := by
    simp only [unpinned, Part.foldl_unpinOffers, Part.foldl_unpin]
    rfl
  rw [Part.onCtx_phases_release _ _ fun _ => rfl]
  exact congrArg (·.modify i fun _ => CtxState.release) hunpinned

theorem Part.dropMerge_phases (i) : (s.dropMerge i).phases = s.phases.modify i fun _ => .release := by
  obtain ⟨rp, _, _, hreset⟩ := s.toResetPendingOpt_eq (s.mrg.ctx i).target
  refine Eq.trans (b := ((s.toResetPendingOpt (s.mrg.ctx i).target).endMerge i).phases) rfl ?_
  rw [Part.endMerge_eq, hreset]
  exact Part.onCtx_phases_release s i fun _ => rfl

/-- A context on entry into DEGRADED stays as it is or enters RELEASE (R107). -/
theorem Part.degradeCtx_phases (issued i) : (s.degradeCtx issued i).phases = s.phases ∨
    (s.degradeCtx issued i).phases = s.phases.modify i fun _ => .release := by
  unfold Part.degradeCtx
  dsimp only
  split
  · exact .inl rfl
  · exact .inl rfl
  · split
    · exact .inl rfl
    · split
      · exact .inr (s.dropCarry_phases i)
      · exact .inr (Part.dropMerge_phases _ i)
  · split
    · exact .inr (s.dropCarry_phases i)
    · exact .inr (s.dropMerge_phases i)

theorem Part.failMergeDirectives_phases : s.failMergeDirectives.phases = s.phases := by
  unfold Part.failMergeDirectives
  extract_lets told mrg unclean
  have htold : unclean.phases = s.phases := by
    have hphases : unclean.phases = told.phases := by
      simp only [unclean, Part.phases, List.map_map]
      rfl
    refine hphases.trans ?_
    unfold told
    split
    · exact (Part.asks_finishClean s _ _).phases
    · exact (Part.asks_finishClean s _ _).phases
    · rfl
  split
  · exact htold
  · split <;> exact htold

theorem Part.failSettings_mrg : s.failSettings.mrg = s.mrg := by
  unfold Part.failSettings
  split
  · rfl
  · split <;> rfl

theorem Part.degradeAccept_mrg : s.degradeAccept.mrg = s.mrg :=
  foldl_frame Part.mrg (fun s _ => s.finish_mrg ..) _ _

end

/-- A context in RELEASE stays there at the entry into DEGRADED (R107). -/
theorem Part.enterDegraded_release {s : Part} {k : Nat} (h : (s.mrg.ctx k).st = .release) :
    (s.enterDegraded.mrg.ctx k).st = .release := by
  have hfold : ∀ (issued is : List Nat) (t : Part), t.phases.getD k .idle = .release →
      (is.foldl (Part.degradeCtx issued) t).phases.getD k .idle = .release := by
    intro issued is
    induction is with
    | nil => exact fun _ => id
    | cons i is ih =>
      refine fun t ht => ih _ ?_
      rcases t.degradeCtx_phases issued i with hd | hd
      · rw [hd]
        exact ht
      · rw [hd, List.getD_eq_getElem?_getD, List.getElem?_modify]
        rw [List.getD_eq_getElem?_getD] at ht
        split
        · cases hp : t.phases[k]? with
          | none => simp [hp] at ht
          | some x => rfl
        · simpa using ht
  rw [← Part.phases_getD] at h ⊢
  unfold Part.enterDegraded
  split
  · rw [Part.phases_of_mrg (Part.barrierParts_mrg _), Part.phases_of_mrg (Part.degradeAccept_mrg _),
      Part.phases_of_mrg (Part.failSettings_mrg _), Part.failMergeDirectives_phases]
    refine hfold _ _ _ ?_
    rw [Part.withdrawWrites_phases, Part.phases_of_mrg (Part.dropHeld_mrg _), Part.phases_of_mrg (Part.barrierParts_mrg _),
      Part.phases_of_mrg (Part.markVoids_mrg _)]
    exact h
  · exact h

end Sys2Proof.Machine
end

section
/-! Carry-forward reads and the end of a context (R62, R64, R100): what they write. -/

namespace Sys2Proof.Machine

/-! ### The end of a context -/

/-- A context in RELEASE with nothing outstanding, or one that is left as it is (R100). -/
theorem Part.releaseCtx_eq {s : Part} {i : Nat} (hi : i < s.mrg.ctxs.length) :
    s.releaseCtx i =
      if (s.mrg.ctx i).st = .release ∧ (s.mrg.ctx i).reads = [] ∧ (s.mrg.ctx i).unitOut = false ∧
          ∀ x, (s.mrg.ctx i).carry = some x → x.flight = [] then
        ({ s with mrg.ctxs := s.mrg.ctxs.set i {} } : Part).drainCheck.deadlockCheck
      else s := by
  have hcarry : (s.mrg.ctx i).carry.all (·.flight.isEmpty) = true ↔
      ∀ x, (s.mrg.ctx i).carry = some x → x.flight = [] := by
    cases (s.mrg.ctx i).carry <;> simp
  simp only [Part.releaseCtx, hcarry, Part.idleCtx, Part.onCtx, Merge.ctxs_modify _ hi]

/-! ### The offers of carry-forward reads -/

/-- A pass that has offered `n` further reads (R62). -/
def CarryPass.issues (z : CarryPass) (n : Nat) : CarryPass :=
  { z with issued := z.issued + n, flight := z.flight ++ List.range' z.issued n }

/-- A record that `n` further reads pin, where it is record `q` (R62). -/
def Rec.pinned (r : Rec) (q n : Nat) : Rec := if r.seq = q then { r with readers := r.readers + n } else r

/-- The offer of the `k`-th read of a pass (R62). -/
def CarryPass.readOffer (z : CarryPass) (i k : Nat) (e : Extent) : Offer :=
  { cls := .e, work := .carryRead i k, cmd := .read (8 + e.lp) e.len, pin := some (.record z.seq) }

/-- A part after context `i` has offered the reads of the extents `es` of its pass `z` (R62). -/
def Part.carryReads (s : Part) (i : Nat) (z : CarryPass) (es : List Extent) : Part :=
  { s with
    log.table := s.log.table.map (·.pinned z.seq es.length)
    mrg.ctxs := s.mrg.ctxs.set i { s.mrg.ctx i with carry := some (z.issues es.length) }
    port.offers := s.port.offers ++ es.mapIdx fun n e => z.readOffer i (z.issued + n) e }

theorem Rec.pinned_pinned (r : Rec) (q m n : Nat) : (r.pinned q m).pinned q n = r.pinned q (m + n) := by
  unfold Rec.pinned
  by_cases h : r.seq = q <;> simp [h, Nat.add_assoc]

theorem Part.carryReads_nil {s : Part} {i : Nat} {z : CarryPass} (hi : i < s.mrg.ctxs.length)
    (hz : (s.mrg.ctx i).carry = some z) : s.carryReads i z [] = s := by
  have htable : s.log.table.map (·.pinned z.seq 0) = s.log.table := by
    refine (List.map_congr_left fun r _ => ?_).trans (List.map_id _)
    unfold Rec.pinned
    split <;> rfl
  have hcarry : { s.mrg.ctx i with carry := some (z.issues 0) } = s.mrg.ctx i := by
    have hissues : z.issues 0 = z := by simp [CarryPass.issues]
    rw [hissues, ← hz]
  have hctxs : s.mrg.ctxs.set i (s.mrg.ctx i) = s.mrg.ctxs := by
    simp [Merge.ctx, hi]
  simp only [Part.carryReads, List.length_nil, htable, hcarry, hctxs, List.mapIdx_nil, List.append_nil]

theorem Part.carryReads_ctx {s : Part} {i : Nat} (z : CarryPass) (es : List Extent) (hi : i < s.mrg.ctxs.length) :
    (s.carryReads i z es).mrg.ctx i = { s.mrg.ctx i with carry := some (z.issues es.length) } := by
  simp [Part.carryReads, Merge.ctx, hi]

theorem Part.carryReads_cons {s : Part} {i : Nat} (z : CarryPass) (e : Extent) (es : List Extent)
    (hi : i < s.mrg.ctxs.length) :
    (s.carryReads i z [e]).carryReads i (z.issues 1) es = s.carryReads i z (e :: es) := by
  have hissues : (z.issues 1).issues es.length = z.issues (es.length + 1) := by
    simp [CarryPass.issues, List.range'_succ, Nat.add_comm 1, Nat.add_assoc]
  have htable : (s.log.table.map (·.pinned z.seq 1)).map (·.pinned z.seq es.length) =
      s.log.table.map (·.pinned z.seq (es.length + 1)) := by
    rw [List.map_map]
    exact List.map_congr_left fun r _ => (Rec.pinned_pinned r z.seq 1 es.length).trans (by rw [Nat.add_comm])
  have hoffers : (es.mapIdx fun n x => (z.issues 1).readOffer i ((z.issues 1).issued + n) x) =
      es.mapIdx fun n x => z.readOffer i (z.issued + (n + 1)) x := by
    simp [CarryPass.issues, CarryPass.readOffer, Nat.add_comm 1, Nat.add_assoc]
  have hctx := Part.carryReads_ctx z [e] hi
  rw [Part.carryReads, hctx, hissues, hoffers]
  simp only [Part.carryReads, List.length_cons, List.length_nil, List.mapIdx_cons, List.mapIdx_nil, List.append_assoc,
    List.set_set, Nat.zero_add, Nat.add_zero]
  rw [← htable]
  rfl

/-- The offer of the next read of a pass, where there is one and fewer than 8 are in flight (R62). -/
theorem Part.issueCarryRead_eq {s : Part} {i : Nat} {z : CarryPass} (hi : i < s.mrg.ctxs.length)
    (hz : (s.mrg.ctx i).carry = some z) :
    s.issueCarryRead i =
      if z.flight.length < 8 then z.dataList[z.issued]?.map fun e => s.carryReads i z [e] else none := by
  simp only [Part.issueCarryRead, hz]
  by_cases hroom : z.flight.length < 8
  · rw [if_pos hroom, if_pos (show z.flight.length < Config.readsInFlight from hroom)]
    cases he : z.dataList[z.issued]? with
    | none => rfl
    | some e =>
      simp only [Option.map_some, Part.pin, Part.onRec, Part.onCtx, Merge.ctxs_modify _ hi]
      rfl
  · rw [if_neg hroom, if_neg (show ¬ z.flight.length < Config.readsInFlight from hroom)]

/-- The reads that a pass offers until 8 are in flight or none is left (R62). -/
theorem Part.repeat_issueCarryRead {s : Part} {i : Nat} {z : CarryPass} (n : Nat) (hi : i < s.mrg.ctxs.length)
    (hz : (s.mrg.ctx i).carry = some z) :
    Part.repeatStep (·.issueCarryRead i) n s =
      s.carryReads i z ((z.dataList.drop z.issued).take (min n (8 - z.flight.length))) := by
  induction n generalizing s z with
  | zero => simp [Part.repeatStep, Part.carryReads_nil hi hz]
  | succ n ih =>
    have hstep := Part.issueCarryRead_eq hi hz
    by_cases hroom : z.flight.length < 8
    · rw [if_pos hroom] at hstep
      cases he : z.dataList[z.issued]? with
      | none =>
        rw [he] at hstep
        rw [Part.repeatStep_none _ _ _ hstep, List.drop_eq_nil_of_le (List.getElem?_eq_none_iff.mp he), List.take_nil,
          Part.carryReads_nil hi hz]
      | some e =>
        rw [he] at hstep
        obtain ⟨hlt, hget⟩ := List.getElem?_eq_some_iff.mp he
        have hdrop : z.dataList.drop z.issued = e :: z.dataList.drop (z.issued + 1) := by
          rw [List.drop_eq_getElem_cons hlt, hget]
        have hcarry : ((s.carryReads i z [e]).mrg.ctx i).carry = some (z.issues 1) := by
          rw [Part.carryReads_ctx z [e] hi]
          rfl
        have hlist : (z.issues 1).dataList = z.dataList := rfl
        have hissued : (z.issues 1).issued = z.issued + 1 := rfl
        have hflight : (z.issues 1).flight.length = z.flight.length + 1 := by simp [CarryPass.issues]
        have hmin : min (n + 1) (8 - z.flight.length) = min n (8 - (z.flight.length + 1)) + 1 := by omega
        rw [Part.repeatStep_some _ _ _ _ hstep, ih (by simpa [Part.carryReads] using hi) hcarry,
          Part.carryReads_cons _ _ _ hi, hlist, hissued, hflight, hdrop, hmin, List.take_succ_cons]
    · rw [if_neg hroom] at hstep
      rw [Part.repeatStep_none _ _ _ hstep, show 8 - z.flight.length = 0 by omega, Nat.min_zero, List.take_zero,
        Part.carryReads_nil hi hz]

theorem Part.issueCarryReads_eq {s : Part} {i : Nat} {z : CarryPass} (hi : i < s.mrg.ctxs.length)
    (hz : (s.mrg.ctx i).carry = some z) :
    s.issueCarryReads i = s.carryReads i z ((z.dataList.drop z.issued).take (8 - z.flight.length)) := by
  rw [Part.issueCarryReads, Part.repeat_issueCarryRead _ hi hz, show Config.readsInFlight = 8 from rfl,
    Nat.min_eq_right (by omega)]

/-! ### Completions -/

/-- A part after the read `j` of pass `x` of context `i` has ended, its record unpinned (R62, R64). -/
def Part.carryReadEnded (s : Part) (i j : Nat) (x : CarryPass) : Part :=
  { s with
    log.table := s.log.table.map fun r => if r.seq = x.seq then { r with readers := r.readers - 1 } else r
    mrg.ctxs := s.mrg.ctxs.set i
      { s.mrg.ctx i with carry := some { x with flight := x.flight.filter (· != j) } } }

/-- A pass whose read `j` gave the blocks `bs` of extent `e` (R62). -/
def CarryPass.read (x : CarryPass) (j : Nat) (e : Extent) (bs : List Block) : CarryPass :=
  { x with
    flight := x.flight.filter (· != j), got := x.got ++ [(j, fitBlocks e.len bs)], blocksRead := x.blocksRead + e.len }

theorem Part.carryReadEnded_ctx {s : Part} {i : Nat} (j : Nat) (x : CarryPass) (hi : i < s.mrg.ctxs.length) :
    (s.carryReadEnded i j x).mrg.ctx i =
      { s.mrg.ctx i with carry := some { x with flight := x.flight.filter (· != j) } } := by
  simp [Part.carryReadEnded, Merge.ctx, hi]

theorem Part.carryReadEnded_eq {s : Part} {i j : Nat} {x : CarryPass} (hi : i < s.mrg.ctxs.length) :
    ((s.unpinOpt (some (.record x.seq))).onCtx i fun c => { c with
      carry := some { x with flight := x.flight.filter (· != j) } }) = s.carryReadEnded i j x := by
  simp only [Part.unpinOpt, Part.unpin, Part.onRec, Part.onCtx, Merge.ctxs_modify _ hi]
  rfl

/-- A read of a pass that does not copy ends (R64). -/
theorem Part.carryReadFinal_idle {s : Part} {i j : Nat} {x : CarryPass} {code : DriveCode} {bs : List Block}
    (hi : i < s.mrg.ctxs.length) (hx : (s.mrg.ctx i).carry = some x) (hst : (s.mrg.ctx i).st ≠ .copy) :
    s.carryReadFinal i j (some (.record x.seq)) code bs = s.carryReadEnded i j x := by
  have hctx : (s.unpinOpt (some (.record x.seq))).mrg.ctx i = s.mrg.ctx i := rfl
  simp only [Part.carryReadFinal, hctx, hx, Part.carryReadEnded_eq hi, if_pos hst]

/-- A read of a pass that copies fails (R62, R64). -/
theorem Part.carryReadFinal_failed {s : Part} {i j : Nat} {x : CarryPass} {code : DriveCode} {bs : List Block}
    (hi : i < s.mrg.ctxs.length) (hx : (s.mrg.ctx i).carry = some x) (hst : (s.mrg.ctx i).st = .copy)
    (hcode : code ≠ .good) :
    s.carryReadFinal i j (some (.record x.seq)) code bs =
      ({ s.carryReadEnded i j x with
        mrg.ctxs := s.mrg.ctxs.set i { s.mrg.ctx i with
          st := .release, carry := some { x with flight := x.flight.filter (· != j) } } } : Part).carryFailed
        (s.mrg.ctx i).band x.seq 0 code := by
  have hctx : (s.unpinOpt (some (.record x.seq))).mrg.ctx i = s.mrg.ctx i := rfl
  have hset : (s.carryReadEnded i j x).mrg.ctxs.modify i (fun c => { c with st := .release }) =
      s.mrg.ctxs.set i { s.mrg.ctx i with
        st := .release, carry := some { x with flight := x.flight.filter (· != j) } } := by
    rw [Merge.ctxs_modify _ (by simpa [Part.carryReadEnded] using hi), Part.carryReadEnded_ctx j x hi]
    simp [Part.carryReadEnded]
  simp only [Part.carryReadFinal, hctx, hx, Part.carryReadEnded_eq hi, if_neg (not_not_intro hst), if_neg hcode]
  simp only [Part.onCtx, hset]

/-- A read of a pass that copies ends GOOD (R62). -/
theorem Part.carryReadFinal_good {s : Part} {i j : Nat} {x : CarryPass} {e : Extent} {bs : List Block}
    (hi : i < s.mrg.ctxs.length) (hx : (s.mrg.ctx i).carry = some x) (hst : (s.mrg.ctx i).st = .copy)
    (he : x.dataList[j]? = some e) :
    let y := x.read j e bs
    let t : Part := { s.carryReadEnded i j x with
      mrg.ctxs := s.mrg.ctxs.set i { s.mrg.ctx i with carry := some y } }
    s.carryReadFinal i j (some (.record x.seq)) .good bs =
      (t.carryReads i y ((x.dataList.drop x.issued).take (8 - y.flight.length))).checkCarryIfRead i := by
  intro y t
  have ht : ((s.carryReadEnded i j x).onCtx i fun c => { c with carry := some y }) = t := by
    have hset : (s.carryReadEnded i j x).mrg.ctxs.modify i (fun c => { c with carry := some y }) =
        s.mrg.ctxs.set i { s.mrg.ctx i with carry := some y } := by
      rw [Merge.ctxs_modify _ (by simpa [Part.carryReadEnded] using hi), Part.carryReadEnded_ctx j x hi]
      simp [Part.carryReadEnded]
    simp only [Part.onCtx, hset]
    rfl
  have hctx : (t.mrg.ctx i).carry = some y := by simp [t, Merge.ctx, hi]
  have hold : (s.unpinOpt (some (.record x.seq))).mrg.ctx i = s.mrg.ctx i := rfl
  have he' : ({ x with flight := x.flight.filter (· != j) } : CarryPass).dataList[j]? = some e := he
  have hfinal : s.carryReadFinal i j (some (.record x.seq)) .good bs =
      (((s.carryReadEnded i j x).onCtx i fun c => { c with carry := some y }).issueCarryReads i).checkCarryIfRead i := by
    simp only [Part.carryReadFinal, hold, hx, Part.carryReadEnded_eq hi, if_neg (not_not_intro hst), he']
    rfl
  rw [hfinal]
  exact congrArg (·.checkCarryIfRead i) ((congrArg (·.issueCarryReads i) ht).trans
    (Part.issueCarryReads_eq (by simpa [t] using hi) hctx))

/-- A pass with reads in flight goes on (R62). -/
theorem Part.checkCarryIfRead_flying {s : Part} {i : Nat} {z : CarryPass} (hz : (s.mrg.ctx i).carry = some z)
    (hf : z.flight ≠ []) : s.checkCarryIfRead i = s := by
  simp only [Part.checkCarryIfRead, hz, if_neg fun h : z.flight = [] ∧ _ => hf h.1]

/-- The check of a pass whose reads have all completed (R62, R63). -/
theorem Part.checkCarryIfRead_last {s : Part} {i l : Nat} {z : CarryPass} (hi : i < s.mrg.ctxs.length)
    (hz : (s.mrg.ctx i).carry = some z) (hf : z.flight = []) (hg : z.got.length = z.dataList.length)
    (hb : (s.mrg.ctx i).band = some l) :
    s.checkCarryIfRead i =
      if (s.bands.lband l).unsettled = 0 ∧ ∀ e ∈ z.list, e ∈ s.idx.extents then { s with
        mrg.ctxs := s.mrg.ctxs.set i { s.mrg.ctx i with st := .commit }
        log.waiting := s.log.waiting ++ [.carry i] }
      else { s with mrg.ctxs := s.mrg.ctxs.set i {} } := by
  have hthere : z.list.all (s.idx.extents.contains ·) = true ↔ ∀ e ∈ z.list, e ∈ s.idx.extents := by simp
  simp only [Part.checkCarryIfRead, hz, if_pos (And.intro hf hg), Part.checkCarry, hb, hthere, Part.idleCtx, Part.onCtx,
    Merge.ctxs_modify _ hi]

/-- The completion of a carry-forward read, in a slot whose completion is handed on (R62, R117). -/
theorem State.act_carryForwardReadComplete {p : Part} {q : List Instr} {k : Fin 32} {o : Offer} {i j : Nat}
    (code : DriveCode) (bs : List Block) (hreset : p.sys.inReset = false) (hruns : p.port.runs k o)
    (hwork : o.work = .carryRead i j) (hband : o.band = none) :
    exec (.carryForwardReadComplete k code bs) ⟨p, q⟩ = .next ⟨
      ({ p with port.slots := p.port.slots.set k none } : Part).carryReadFinal i j o.pin (finalCode code) bs, q⟩ := by
  rw [exec_carryForwardReadComplete, State.act_awake _ hreset, Part.complete_runs _ hruns (by simp [hwork]), hband]
  simp only [hwork]
  rfl

/-- A part that is otherwise quiet enters DEGRADED after a pass has failed twice in a row on a record (R64, R192). -/
theorem Part.enterDegraded_quiet_idle {s : Part} (hm : s.sys.mode = .active) (hq : s.quiet)
    (hp : s.pendingSettings = none) : s.enterDegraded = s.enter .degraded .none := by
  have hnone : (s.enter .degraded .none).pendingSettings = none :=
    (Part.pendingSettings_congr (Window.raise_dirPending ..)).trans hp
  rw [s.enterDegraded_quiet hm hq]
  simp only [Part.failSettings, hnone]

end Sys2Proof.Machine

namespace Sys2Proof
open Sys2Proof.Machine

/-- Settles O43, by the end of a context, and by the completion of a carry-forward read in RELEASE and in COPY. -/
theorem contextsEndAndCarryForwardReads : Obligations.ContextsEndAndCarryForwardReads := by
  intro p q i hreset hctxs c
  have hi : (i : Nat) < p.mrg.ctxs.length := hctxs.symm ▸ i.isLt
  refine ⟨?stays, ?ends, ?reads⟩
  case stays =>
    intro hno
    rw [exec_contextIdle, State.act_awake _ hreset]
    refine congrArg (fun x : Machine.Part => Host.Outcome.next (State.mk x q)) ((Part.releaseCtx_eq hi).trans (if_neg ?_))
    rintro ⟨hst, hreads, hunit, hflight⟩
    rcases hno with h | h | h | ⟨x, hx, hne⟩
    · exact h hst
    · exact h hreads
    · exact absurd (h.symm.trans hunit) (by decide)
    · exact hne (hflight x hx)
  case ends =>
    intro hst hreads hunit hflight hdrain
    rw [exec_contextIdle, State.act_awake _ hreset]
    refine congrArg (fun x : Machine.Part => Host.Outcome.next (State.mk x q))
      ((Part.releaseCtx_eq hi).trans ((if_pos ⟨hst, hreads, hunit, hflight⟩).trans ?_))
    exact congrArg Part.deadlockCheck (Part.drainCheck_none hdrain)
  case reads =>
    intro k o x j blocks hruns hwork hband hpin hx table y
    obtain ⟨s, hs⟩ : ∃ s : Machine.Part, s = { p with port.slots := p.port.slots.set k none } := ⟨_, rfl⟩
    have hact : ∀ code, exec (.carryForwardReadComplete k code blocks) ⟨p, q⟩ =
        .next ⟨s.carryReadFinal i j (some (.record x.seq)) (finalCode code) blocks, q⟩ := fun code => by
      rw [State.act_carryForwardReadComplete code blocks hreset hruns hwork hband, hs, hpin]
    have his : (i : Nat) < s.mrg.ctxs.length := by rw [hs]; exact hi
    have hcs : s.mrg.ctx i = c := by rw [hs]
    have hxs : (s.mrg.ctx i).carry = some x := by rw [hcs]; exact hx
    have hgood : ∀ e, x.dataList[j]? = some e → c.st = .copy → exec (.carryForwardReadComplete k .good blocks) ⟨p, q⟩ =
        .next ⟨(Part.carryReads { s.carryReadEnded i j x with
          mrg.ctxs := s.mrg.ctxs.set i { c with carry := some (x.read j e blocks) } } i (x.read j e blocks)
            ((x.dataList.drop x.issued).take (8 - y.flight.length))).checkCarryIfRead i, q⟩ := fun e he hst => by
      rw [hact, show finalCode .good = .good from rfl, Part.carryReadFinal_good his hxs (by rw [hcs]; exact hst) he, hcs]
      rfl
    have hlast : ∀ e (t : Machine.Part), x.dataList[j]? = some e → c.st = .copy → x.issued = x.dataList.length →
        t = { s.carryReadEnded i j x with
          mrg.ctxs := s.mrg.ctxs.set i { c with carry := some (x.read j e blocks) } } →
        exec (.carryForwardReadComplete k .good blocks) ⟨p, q⟩ = .next ⟨t.checkCarryIfRead i, q⟩ := by
      intro e t he hst hissued ht
      rw [hgood e he hst, hissued, List.drop_length, List.take_nil, ← ht,
        Part.carryReads_nil (by rw [ht]; simpa using his) (by rw [ht]; simp [Merge.ctx, his])]
    refine ⟨fun code hst => ?released, fun hst => ⟨?first, ?second, ?last, ?waits, ?more⟩⟩
    case released =>
      rw [hact, Part.carryReadFinal_idle his hxs (by rw [hcs, hst]; decide), hs]
      rfl
    case first =>
      intro code hcode hfail
      rw [hact, Part.carryReadFinal_failed his hxs (by rw [hcs]; exact hst) (finalCode_ne_good hcode), hcs, hs]
      exact congrArg (fun x : Machine.Part => Host.Outcome.next (State.mk x q)) (if_neg hfail)
    case second =>
      intro code hcode hfail hmode
      obtain ⟨t, ht⟩ : ∃ t : Machine.Part, t = ({ s.carryReadEnded i j x with
          mrg.ctxs := s.mrg.ctxs.set i { c with st := .release, carry := some y } } : Machine.Part).raise .mergeAbandoned
            (some .drive) c.band none (some 0) (some (driveNum (finalCode code))) := ⟨_, rfl⟩
      have heq : exec (.carryForwardReadComplete k code blocks) ⟨p, q⟩ = .next ⟨t.enterDegraded, q⟩ := by
        rw [hact, Part.carryReadFinal_failed his hxs (by rw [hcs]; exact hst) (finalCode_ne_good hcode), hcs, ht]
        refine congrArg (fun x : Machine.Part => Host.Outcome.next (State.mk x q)) (if_pos ?_)
        rw [hs]
        exact hfail
      have hmt : t.sys.mode = .active := by rw [ht, hs]; exact hmode
      refine ⟨⟨_, heq, ?_, ?_, ?_⟩, fun hquiet hpend => ?_⟩
      · rw [Part.enterDegraded_sys _ hmt, ht, hs]
        rfl
      · refine (congrArg Course.carryFail (Part.enterDegraded_course t)).trans ?_
        rw [ht, hs]
        exact hfail
      · refine Part.enterDegraded_release ?_
        rw [ht]
        simp [Part.raise, Merge.ctx, his]
      · obtain ⟨hhold, haccept, hoffers, hreqs, hdrain, hqueues, hbarrier, hctx⟩ := hquiet
        have hq : t.quiet := by
          rw [ht, hs]
          refine ⟨hhold, haccept, hoffers, hreqs, hdrain, hqueues, fun r hr => ?_, hctx⟩
          obtain ⟨r', hr', rfl⟩ := List.mem_map.mp hr
          split <;> exact hbarrier r' hr'
        have hidle : t.pendingSettings = none := by
          rw [ht, hs]
          exact (Part.pendingSettings_congr (Window.raise_dirPending ..)).trans hpend
        rw [heq, Part.enterDegraded_quiet_idle hmt hq hidle, ht, hs]
        rfl
    case last =>
      intro e l he hissued hflight hgot hb there
      obtain ⟨t, ht⟩ : ∃ t : Machine.Part, t = { s.carryReadEnded i j x with
          mrg.ctxs := s.mrg.ctxs.set i { c with carry := some (x.read j e blocks) } } := ⟨_, rfl⟩
      have heq := hlast e t he hst hissued ht
      have hctx : t.mrg.ctx i = { c with carry := some (x.read j e blocks) } := by
        rw [ht]
        simp [Merge.ctx, his]
      have hcheck := Part.checkCarryIfRead_last (s := t) (i := i) (l := l) (z := x.read j e blocks)
        (by rw [ht]; simpa using his) (by rw [hctx]) hflight
        ((List.length_append ..).trans hgot) (by rw [hctx]; exact hb)
      have hthere : ((t.bands.lband l).unsettled = 0 ∧ ∀ z ∈ (x.read j e blocks).list, z ∈ t.idx.extents) ↔ there := by
        rw [ht, hs]
        exact Iff.rfl
      have hset : ∀ d : MergeCtx, t.mrg.ctxs.set i d = p.mrg.ctxs.set i d := fun d => by
        rw [ht, hs]
        exact List.set_set ..
      rw [heq]
      refine ⟨fun h => ?_, fun h => ?_⟩
      · rw [hcheck.trans (if_pos (hthere.mpr h)), hset, hctx, ht, hs]
        rfl
      · rw [hcheck.trans (if_neg (mt hthere.mp h)), hset, ht, hs]
        rfl
    case waits =>
      intro e he hissued hflight
      obtain ⟨t, ht⟩ : ∃ t : Machine.Part, t = { s.carryReadEnded i j x with
          mrg.ctxs := s.mrg.ctxs.set i { c with carry := some (x.read j e blocks) } } := ⟨_, rfl⟩
      have hctx : t.mrg.ctx i = { c with carry := some (x.read j e blocks) } := by
        rw [ht]
        simp [Merge.ctx, his]
      rw [hlast e t he hst hissued ht, Part.checkCarryIfRead_flying (z := x.read j e blocks) (by rw [hctx]) hflight, ht, hs]
      rfl
    case more =>
      intro e he hissued hroom more
      obtain ⟨t, ht⟩ : ∃ t : Machine.Part, t = { s.carryReadEnded i j x with
          mrg.ctxs := s.mrg.ctxs.set i { c with carry := some (x.read j e blocks) } } := ⟨_, rfl⟩
      have hit : (i : Nat) < t.mrg.ctxs.length := by rw [ht]; simpa using his
      have hctx : t.mrg.ctx i = { c with carry := some (x.read j e blocks) } := by
        rw [ht]
        simp [Merge.ctx, his]
      have hne : ((x.read j e blocks).issues more.length).flight ≠ [] := by
        have hlen : more.length = min (8 - y.flight.length) (x.dataList.length - x.issued) := by simp [more]
        intro h
        have := congrArg List.length h
        simp only [CarryPass.issues, List.length_append, List.length_range', List.length_nil] at this
        omega
      rw [hgood e he hst, ← ht, Part.checkCarryIfRead_flying (by rw [Part.carryReads_ctx _ _ hit]) hne, Part.carryReads,
        hctx]
      have htable : t.log.table.map (·.pinned (x.read j e blocks).seq more.length) = p.log.table.map fun r =>
          if r.seq = x.seq then { r with readers := r.readers - 1 + more.length } else r := by
        rw [ht, hs]
        refine (List.map_map ..).trans (List.map_congr_left fun r _ => ?_)
        by_cases hr : r.seq = x.seq <;> simp [Rec.pinned, CarryPass.read, hr]
      have hset : ∀ d : MergeCtx, t.mrg.ctxs.set i d = p.mrg.ctxs.set i d := fun d => by
        rw [ht, hs]
        exact List.set_set ..
      rw [show (x.dataList.drop x.issued).take (8 - y.flight.length) = more from rfl, htable, hset, ht, hs]
      rfl

end Sys2Proof
end

section
/-! Completions of forwarded commands and of foreground reads (R117, R118, R126, R139). -/

namespace Sys2Proof.Machine

/-! ### Stale completions -/

/-- A completion that names a free slot changes nothing (R117). -/
theorem Part.complete_free {s : Part} {k : Nat} (mine : Work → Bool) (f : Offer → Part → Part)
    (h : s.port.slots.getD k none = none) : s.complete k mine f = s := by
  simp only [Part.complete, h]

/-- A completion that is to be discarded frees its slot (R126). -/
theorem Part.complete_discarded {s : Part} {k : Nat} {x : Slot} {mine : Work → Bool} (f : Offer → Part → Part)
    (h : s.port.slots.getD k none = some x) (hd : x.discard = true) (hm : mine x.offer.work = true) :
    s.complete k mine f = { s with port.slots := s.port.slots.set k none } := by
  simp only [Part.complete, h, hm, hd, if_true]

/-! ### The command of an identity -/

section
variable {i : Initiator} {tag : Nat} {c : Cmd}

theorem Initiator.active_find (hat : i.at tag = some c) (honly : ∀ k x, i.at k = some x → x.cid = c.cid → k = tag) :
    i.active.find? (·.cid == c.cid) = some c := by
  have h := Initiator.find_of_at (i := { i with detached := [] }) hat honly
  rwa [Initiator.find, List.append_nil] at h

theorem Initiator.mem_active {x : Cmd} : x ∈ i.active ↔ ∃ k, i.at k = some x := by
  constructor
  · intro h
    obtain ⟨z, hz, hzx⟩ := List.mem_filterMap.mp h
    obtain ⟨k, hk, hkz⟩ := List.mem_iff_getElem.mp hz
    exact ⟨k, by simp [Initiator.at, hk, hkz, show z = some x from hzx]⟩
  · rintro ⟨k, hk⟩
    have hlt := Initiator.lt_length_of_at hk
    refine List.mem_filterMap.mpr ⟨some x, ?_, rfl⟩
    rw [Initiator.at, List.getD_eq_getElem?_getD, List.getElem?_eq_getElem hlt, Option.getD_some] at hk
    exact hk ▸ List.getElem_mem hlt

/-- What a command's part or segment writes of the contexts: its own, the only one of its identity (R140). -/
theorem Initiator.map_only (hat : i.at tag = some c) (honly : ∀ k x, i.at k = some x → x.cid = c.cid → k = tag)
    (f : Cmd → Cmd) :
    i.tags.map (Option.map fun d => if d.cid = c.cid then f d else d) = i.tags.set tag (some (f c)) := by
  have hlt := Initiator.lt_length_of_at hat
  refine List.ext_getElem (by simp) fun k hk _ => ?_
  have hk' : k < i.tags.length := by simpa using hk
  have hatk : i.at k = i.tags[k] := by simp [Initiator.at, hk']
  rw [List.getElem_map, List.getElem_set]
  split
  next h =>
    subst h
    rw [← hatk, hat, Option.map_some, if_pos rfl]
  next h =>
    cases hx : i.tags[k] with
    | none => exact Option.map_none _
    | some x =>
      have hne : x.cid ≠ c.cid := fun hc => h (honly k x (hatk.trans hx) hc).symm
      rw [Option.map_some, if_neg hne]

end

/-- What an update of the one command of an identity writes, with none detached (R140, R147). -/
theorem Part.onCmd_only {s : Part} {tag : Nat} {c : Cmd} (hat : s.ini.at tag = some c)
    (honly : ∀ k x, s.ini.at k = some x → x.cid = c.cid → k = tag) (hd : s.ini.detached = []) (f : Cmd → Cmd) :
    s.onCmd c.cid f = { s with ini.tags := s.ini.tags.set tag (some (f c)) } := by
  simp only [Part.onCmd, Initiator.map_only hat honly f, hd, List.map_nil, List.filter_nil]

/-! ### Forwarded commands -/

section
variable {s : Part} {k cid : Nat} {o : Offer} (blocks : List Block)

/-- The data-in of a forwarded command reaches the initiator (R118). -/
theorem Part.forwardData_found {c : Cmd} (h : s.port.runs k o) (hw : o.work = .forwarded cid)
    (hc : s.ini.active.find? (fun c => c.cid == cid && c.dir == .dataIn) = some c) :
    s.forwardData k blocks = (s.putTag c.tag (some { c with data := c.data ++ blocks.map toBlock })).send
      (.data c.tag (blocks.map toBlock)) := by
  simp only [Part.forwardData, show s.port.slots.getD k none = some { offer := o } from h, hw, hc]
  rfl

/-- The data-in of a command that has been dropped reaches no one (R118). -/
theorem Part.forwardData_dropped (h : s.port.runs k o) (hw : o.work = .forwarded cid)
    (hc : s.ini.active.find? (fun c => c.cid == cid && c.dir == .dataIn) = none) : s.forwardData k blocks = s := by
  simp only [Part.forwardData, show s.port.slots.getD k none = some { offer := o } from h, hw, hc]
  exact ite_self _

end

/-! ### Foreground reads -/

/-- The one segment of a READ becomes final, and its blocks are sent where it ends GOOD (R139). -/
theorem Part.fgReadFinal_one {s : Part} {tag a ph : Nat} {c : Cmd} {g : Seg} {code : DriveCode} {bs : List Block}
    (hat : s.ini.at tag = some c) (htag : c.tag = tag) (honly : ∀ k x, s.ini.at k = some x → x.cid = c.cid → k = tag)
    (hd : s.ini.detached = []) (hsegs : c.segs = [g]) (hcursor : c.cursor = 0) (hfail : c.fail = none) :
    s.fgReadFinal c.cid 0 a (some (.band ph)) code bs =
      if code = .good then { s.unpin (.band ph) with
        ini.tags := s.ini.tags.set tag (some
          { c with segs := [{ g with outcome := some true, data := fitBlocks g.n bs }], cursor := 1 })
        ini.sent := s.ini.sent ++ [.data tag (fitBlocks g.n bs)] }
      else { s.unpin (.band ph) with
        ini.tags := s.ini.tags.set tag (some
          { c with segs := [{ g with outcome := some false, data := [] }], fail := some .mediumError })
        win := if code = .mediumError then s.win
          else s.win.raise .driveLink (some .drive) none none (some a) (some (driveNum code)) } := by
  obtain ⟨base, hbase⟩ : ∃ base : Part, base = s.unpin (.band ph) := ⟨_, rfl⟩
  have hini : base.ini = s.ini := by
    rw [hbase]
    rfl
  obtain ⟨c', hc'⟩ : ∃ c', c' = c.setSeg 0 (code == .good) bs := ⟨_, rfl⟩
  obtain ⟨t, ht⟩ : ∃ t : Part, t = { base with ini.tags := s.ini.tags.set tag (some c') } := ⟨_, rfl⟩
  have hcmd : base.onCmd c.cid (·.setSeg 0 (code == .good) bs) = t := by
    rw [Part.onCmd_only (s := base) (by rw [hini]; exact hat) (by rw [hini]; exact honly) (by rw [hini]; exact hd), ht, hc',
      hini]
  have hset : c'.cid = c.cid ∧ c'.tag = tag := by
    rw [hc']
    exact ⟨rfl, htag⟩
  have hlt := Initiator.lt_length_of_at hat
  have hatt : ∀ k, t.ini.at k = if k = tag then some c' else s.ini.at k := fun k => by
    rw [ht]
    by_cases hk : k = tag
    · subst hk
      simp [Initiator.at, hlt]
    · simp [Initiator.at, List.getD_eq_getElem?_getD, List.getElem?_set_ne (Ne.symm hk), hk]
  have hself : t.ini.at tag = some c' := (hatt tag).trans (if_pos rfl)
  have htagOf : t.ini.tagOf c.cid = some tag := by
    have hfind := Initiator.active_find hself fun k x hx hxc => by
      by_cases hk : k = tag
      · exact hk
      · rw [hatt, if_neg hk] at hx
        exact honly k x hx (hxc.trans hset.1)
    rw [hset.1] at hfind
    simp only [Initiator.tagOf, hfind, Option.map_some, hset.2]
  have hfinal : s.fgReadFinal c.cid 0 a (some (.band ph)) code bs = (t.raiseReadError a code).advance tag := by
    have hini : (t.raiseReadError a code).ini = t.ini := by
      unfold Part.raiseReadError
      split <;> rfl
    have hsteps : s.fgReadFinal c.cid 0 a (some (.band ph)) code bs =
        ((base.onCmd c.cid (·.setSeg 0 (code == .good) bs)).raiseReadError a code).advanceCid c.cid := by
      rw [hbase]
      rfl
    rw [hsteps, hcmd, Part.advanceCid, hini, htagOf]
  rw [hfinal, ← hbase]
  by_cases hcode : code = .good
  · have hsend : c'.sendable = [{ g with outcome := some true, data := fitBlocks g.n bs }] := by
      rw [hc']
      simp [Cmd.sendable, Cmd.setSeg, hsegs, hcursor, hcode]
    have hread : t.raiseReadError a code = t := if_pos (.inl hcode)
    rw [hread, if_pos hcode]
    have hadvance : t.advance tag = (t.putTag tag (some { c' with cursor := c'.cursor + 1 })).send
        (.data tag (fitBlocks g.n bs)) := by
      simp only [Part.advance, hself, hsend]
      simp
    have hmine : { c' with cursor := c'.cursor + 1 } =
        { c with segs := [{ g with outcome := some true, data := fitBlocks g.n bs }], cursor := 1 } := by
      rw [hc']
      simp [Cmd.setSeg, hsegs, hcursor, hcode]
    rw [hadvance, hmine, ht]
    simp only [Part.putTag, Part.send, List.set_set, hini]
  · have hsend : c'.sendable = [] := by
      rw [hc']
      simp [Cmd.sendable, Cmd.setSeg, hsegs, hcursor, hcode]
    have hmine : c' = { c with segs := [{ g with outcome := some false, data := [] }], fail := some .mediumError } := by
      rw [hc']
      simp [Cmd.setSeg, hsegs, hcode, firstFail, hfail]
    have hread : t.raiseReadError a code = { t with
        win := if code = .mediumError then t.win
          else t.win.raise .driveLink (some .drive) none none (some a) (some (driveNum code)) } := by
      by_cases hm : code = .mediumError
      · rw [Part.raiseReadError, if_pos (.inr hm), if_pos hm]
      · rw [Part.raiseReadError, if_neg (not_or_intro hcode hm), if_neg hm]
        rfl
    have hadvance : (t.raiseReadError a code).advance tag = t.raiseReadError a code := by
      have hself' : (t.raiseReadError a code).ini.at tag = some c' := by
        rw [hread]
        exact hself
      simp only [Part.advance, hself', hsend]
      rfl
    rw [hadvance, hread, if_neg hcode, ht, hmine, hbase]
    rfl

end Sys2Proof.Machine

namespace Sys2Proof
open Sys2Proof.Machine

/-- Settles O45, by what a stale completion does not reach, a forwarded command's data and code, and the read of the one
segment of a READ. -/
theorem completionsReachTheInitiator : Obligations.CompletionsReachTheInitiator := by
  refine ⟨?stale, ?forwarded, ?foreground⟩
  case stale =>
    intro p q k code hreset
    have hnext : ∀ {s t : Machine.Part}, s = t → (.next ⟨s, q⟩ : Host.Outcome State Fault Refusal) = .next ⟨t, q⟩ :=
      fun h => congrArg (fun x => Host.Outcome.next (State.mk x q)) h
    refine ⟨by rw [exec_driveStaleCompletion, State.act_awake _ hreset]; rfl, fun bs ws => ⟨?free, ?discarded⟩⟩
    case free =>
      intro h
      rw [exec_foregroundReadComplete, exec_recordWriteComplete, exec_appendWriteComplete, exec_bandQueryComplete,
        exec_mergeReadComplete, exec_forwardedCommandComplete]
      have hact : ∀ f : Machine.Part → Machine.Part, f p = p → State.act ⟨p, q⟩ f = .next ⟨p, q⟩ := fun f hf =>
        (State.act_awake (f := f) (s := ⟨p, q⟩) hreset).trans (hnext hf)
      exact ⟨hact _ (Part.complete_free _ _ h), hact _ (Part.complete_free _ _ h), hact _ (Part.complete_free _ _ h),
        hact _ (Part.complete_free _ _ h), hact _ (Part.complete_free _ _ h), hact _ (Part.complete_free _ _ h)⟩
    case discarded =>
      intro x hx hd freed
      refine ⟨fun c i hw => ?_, fun n hw => ?_, fun b hw => ?_⟩
      · rw [exec_foregroundReadComplete, State.act_awake _ hreset]
        exact hnext (Part.complete_discarded _ hx hd (by rw [hw]))
      · rw [exec_recordWriteComplete, State.act_awake _ hreset]
        exact hnext (Part.complete_discarded _ hx hd (by rw [hw]))
      · rw [exec_bandResetComplete, State.act_awake _ hreset]
        exact hnext (Part.complete_discarded _ hx hd (by rw [hw]))
  case forwarded =>
    intro p q k o tag c blocks hreset hruns hwork hband honly hdet
    have hdata : ∀ t, p.forwardData k blocks = t → exec (.forwardedDataIn k blocks) ⟨p, q⟩ = .next ⟨t, q⟩ := fun t h => by
      rw [exec_forwardedDataIn, State.act_awake _ hreset]
      exact congrArg (fun x : Machine.Part => Host.Outcome.next (State.mk x q)) h
    refine ⟨fun hat htag hdir => hdata _ ?_, fun hat => hdata _ ?_, ?_⟩
    · have hfind : p.ini.active.find? (fun x => x.cid == c.cid && x.dir == .dataIn) = some c := by
        obtain ⟨_, as, bs, hsplit, hbefore⟩ := List.find?_eq_some_iff_append.mp (Initiator.active_find hat honly)
        refine List.find?_eq_some_iff_append.mpr ⟨by simp [hdir], as, bs, hsplit, fun x hx => ?_⟩
        simpa using Or.inl (show ¬ x.cid = c.cid by simpa using hbefore x hx)
      rw [Part.forwardData_found blocks hruns hwork hfind, htag]
      rfl
    · refine Part.forwardData_dropped blocks hruns hwork (List.find?_eq_none.mpr fun x hx => ?_)
      obtain ⟨t, ht⟩ := Initiator.mem_active.mp hx
      intro h
      have hcid : x.cid = c.cid := by simpa using (Bool.and_eq_true_iff.mp h).1
      rw [honly t x ht hcid, hat] at ht
      cases ht
    · intro hat hparts hfail ends
      have hends : ∀ code part, forwardedOutcome (finalCode code) = part →
          exec (.forwardedCommandComplete k code) ⟨p, q⟩ = ends part (firstFail none part) := fun code part hpart => by
        rw [exec_forwardedCommandComplete, State.act_awake _ hreset, Part.complete_runs _ hruns (by simp [hwork]), hband]
        simp only [hwork, Part.forwardedFinal, hpart, Part.partFinal]
        have hcmd := Part.onCmd_only (s := { p with port.slots := p.port.slots.set k none }) hat honly hdet (·.setPart 0 part)
        refine congrArg (fun x : Machine.Part => Host.Outcome.next (State.mk x q)) (hcmd.trans ?_)
        simp [Cmd.setPart, hparts, hfail]
      exact ⟨hends _ _ rfl, hends _ _ rfl, hends _ _ rfl, hends _ _ rfl⟩
  case foreground =>
    intro p q k o tag c g a ph blocks hreset hruns hwork hband hcmd hpin hat htag honly hdet hsegs hcursor hfail hout base
    have hact : ∀ code, exec (.foregroundReadComplete k code blocks) ⟨p, q⟩ =
        .next ⟨({ p with port.slots := p.port.slots.set k none } : Machine.Part).fgReadFinal c.cid 0 a (some (.band ph))
          (finalCode code) blocks, q⟩ := fun code => by
      rw [exec_foregroundReadComplete, State.act_awake _ hreset, Part.complete_runs _ hruns (by simp [hwork]), hband]
      simp only [hwork, hcmd, hpin]
      rfl
    have hone := fun code => Part.fgReadFinal_one (s := { p with port.slots := p.port.slots.set k none }) (a := a) (ph := ph)
      (code := code) (bs := blocks) hat htag honly hdet hsegs hcursor hfail
    refine ⟨?_, fun code hcode => ?_⟩
    · rw [hact, hone, if_pos (show finalCode .good = .good from rfl)]
      rfl
    · have hmedium : (finalCode code = .mediumError) = (code = .mediumError) := by
        cases code <;> simp [finalCode]
      rw [hact, hone, if_neg (finalCode_ne_good hcode)]
      simp only [hmedium]
      rfl

end Sys2Proof
end

section
/-! The first steps of mount and of FORMAT (R112, R183, R191, R193): the identification of the drive. -/

namespace Sys2Proof.Machine

/-- The runs of at most 8,192 that cover `n` from `p` on, in ascending order (R112). -/
theorem queryRuns_eq (fuel p n : Nat) (h : (n + 8191) / 8192 ≤ fuel) :
    queryRuns fuel p n =
      (List.range ((n + 8191) / 8192)).map fun j => (p + 8192 * j, min 8192 (n - 8192 * j)) := by
  induction fuel generalizing p n with
  | zero =>
    have hn : (n + 8191) / 8192 = 0 := by omega
    simp [queryRuns, hn]
  | succ fuel ih =>
    by_cases hn : n = 0
    · subst hn
      rfl
    · have hcount : (n + 8191) / 8192 = (n - min 8192 n + 8191) / 8192 + 1 := by omega
      have hcons : queryRuns (fuel + 1) p n =
          (p, min 8192 n) :: queryRuns fuel (p + min 8192 n) (n - min 8192 n) := by
        rw [queryRuns, if_neg hn]
        rfl
      rw [hcons, ih _ _ (by omega), hcount, List.range_succ_eq_map, List.map_cons, List.map_map]
      refine congrArg₂ _ (by simp) (List.map_congr_left fun j hj => ?_)
      have hlt : j < (n - min 8192 n + 8191) / 8192 := List.mem_range.mp hj
      simp only [Function.comp, Prod.mk.injEq]
      omega

theorem clearRuns_eq_queryRuns (fuel k n : Nat) : clearRuns fuel k n = queryRuns fuel k n := by
  induction fuel generalizing k n with
  | zero => rfl
  | succ fuel ih => simp only [clearRuns, queryRuns, ih]

theorem geometryOk_iff {g : DriveGeo} : geometryOk g = true ↔
    (g.bandBlocks = 16384 ∨ g.bandBlocks = 32768 ∨ g.bandBlocks = 65536) ∧ 64 ≤ g.bands ∧ g.bands ≤ 131072 ∧
      16392 ≤ g.conv := by
  have hconv : Config.logBase + 16384 = 16392 := rfl
  simp [geometryOk, bandBlocksOk, bandsOk, hconv, or_assoc, and_assoc]

theorem Port.idle_iff {p : Port} : p.idle = true ↔ ∀ x ∈ p.slots, x = none := by
  simp [Port.idle]

theorem Port.quiet_iff {p : Port} : p.quiet = true ↔
    (∀ x ∈ p.slots, x = none) ∧ p.offers = [] ∧ p.awaiting = [] ∧ p.recovering = [] := by
  simp [Port.quiet, Port.idle, and_assoc]

/-- What the failure of mount or FORMAT clears (R191, R193). -/
theorem Part.enterHalted_clears (s : Part) (h : HaltReason) :
    (s.enterHalted h).sys = { s.sys with mode := .halted, halt := h, layout := {} } ∧ (s.enterHalted h).fmt = none ∧
      (s.enterHalted h).mnt = {} ∧ (s.enterHalted h).port.offers = [] ∧ (s.enterHalted h).bands = {} ∧
      (s.enterHalted h).log = {} ∧ (s.enterHalted h).idx = {} ∧ (s.enterHalted h).mrg = {} ∧
      (s.enterHalted h).cfg = s.cfg ∧ (s.enterHalted h).ret = s.ret := by
  rw [Part.enterHalted_eq]
  exact ⟨rfl, rfl, rfl, rfl, rfl, rfl, rfl, rfl, rfl, rfl⟩

/-- The events of the failure of a FORMAT: the change of the mode, then the end of the directive (R172, R193). -/
theorem Part.enterHalted_win {s : Part} {num : BitVec 32} (h : HaltReason)
    (hd : s.win.dirPending = some { num := num, code := 12 }) :
    (s.enterHalted h).win =
      (s.win.raise .modeChange (some .mode) none none (some (haltNum h)) (some 4)).finish .failed [] := by
  have hdata : s.haltData = [] := by
    simp [Part.haltData, Part.pendingIs, hd, cleanCode, drainCode, restartCode]
  rw [Part.enterHalted_eq, hdata]
  rfl

end Sys2Proof.Machine

namespace Sys2Proof
open Sys2Proof.Machine

/-- Settles O46, by the start of mount and the end of the quiesce step, and by the DRIVE_IDENTIFY of each. -/
theorem mountAndFormatIdentifyTheDrive : Obligations.MountAndFormatIdentifyTheDrive := by
  have hnext : ∀ {s t : Machine.Part} {q : List Instr}, s = t →
      (.next ⟨s, q⟩ : Host.Outcome State Fault Refusal) = .next ⟨t, q⟩ :=
    fun {_ _ q} h => congrArg (fun x => Host.Outcome.next (State.mk x q)) h
  refine ⟨?begins, ?identified⟩
  case begins =>
    intro p q hreset ready
    have hready : (p.sys.mode = .mounting ∧ p.mnt.phase = .wait ∧ p.port.linkUp = true ∧ p.port.idle = true) = ready := by
      rw [Port.idle_iff]
    rw [exec_mountStart, State.act_awake _ hreset]
    refine ⟨fun hno => hnext (if_neg (hready ▸ hno)), fun hyes => hnext (if_pos (hready ▸ hyes)), ?_⟩
    intro f hf hstep quiet
    have hquiet : (f.step = .quiesce ∧ (f.fromHalted = true ∨ p.port.quiet = true)) ↔ quiet := by
      rw [Port.quiet_iff]
      exact and_iff_right hstep
    rw [exec_formatQuiesceDone, State.act_awake _ hreset]
    refine ⟨fun hno => hnext ?_, fun hyes => hnext ?_⟩
    · simp only [Part.formatQuiesced, hf, if_neg (mt hquiet.mp hno)]
    · simp only [Part.formatQuiesced, hf, if_pos (hquiet.mpr hyes)]
      rfl
  case identified =>
    intro p q k o bands size conv model serial hreset hruns hband hserial slots g
    obtain ⟨s, hs⟩ : ∃ s : Machine.Part, s = { p with port.slots := slots } := ⟨_, rfl⟩
    have hact : ∀ code, o.work = .mountIdentify ∨ o.work = .formatIdentify →
        exec (.driveIdentifyComplete k code bands size conv model serial) ⟨p, q⟩ =
          .next ⟨s.identifyFinal o (finalCode code) g serial, q⟩ := fun code hwork => by
      rw [exec_driveIdentifyComplete, State.act_awake _ hreset,
        Part.complete_runs _ hruns (by rcases hwork with h | h <;> simp [h]), hband, hs]
      rfl
    obtain ⟨t, ht⟩ : ∃ t : Machine.Part, t = { s with sys := { s.sys with drive := some g, serial := serial } } := ⟨_, rfl⟩
    have hdrive : s.recordDrive g serial = t := by
      rw [Part.recordDrive, fit_of_length _ _ _ hserial, ht]
    refine ⟨?mount, ?format⟩
    case mount =>
      intro hwork valid
      have hvalid : geometryOk g = true ↔ valid := geometryOk_iff
      have hfinal : ∀ code, exec (.driveIdentifyComplete k code bands size conv model serial) ⟨p, q⟩ =
          .next ⟨s.mountIdentified (finalCode code) g serial, q⟩ := fun code => by
        rw [hact code (.inl hwork)]
        simp only [Part.identifyFinal, hwork]
      refine ⟨fun hyes => ?_, fun hno => ⟨t.enterHalted .geometryMismatch, ?_, ?_⟩, fun code hcode => ?_⟩
      · rw [hfinal]
        refine hnext ?_
        simp only [Part.mountIdentified, if_pos (show finalCode .good = .good from rfl), hdrive, if_pos (hvalid.mpr hyes)]
        rw [queryRuns_eq _ _ _ (by show (bands + 8191) / 8192 ≤ bands / 8192 + 1; omega), List.map_map, ht, hs]
        simp only [Function.comp_def, Nat.zero_add]
        rfl
      · rw [hfinal]
        refine hnext ?_
        simp only [Part.mountIdentified, if_pos (show finalCode .good = .good from rfl), hdrive, if_neg (mt hvalid.mp hno)]
      · obtain ⟨hsys, _⟩ := t.enterHalted_clears .geometryMismatch
        rw [hsys, ht]
        exact ⟨rfl, rfl, rfl⟩
      · rw [hfinal]
        refine hnext ?_
        simp only [Part.mountIdentified, if_neg (finalCode_ne_good hcode)]
        rw [hs]
        rfl
    case format =>
      intro f hwork hf same runs
      have hfinal : ∀ code, exec (.driveIdentifyComplete k code bands size conv model serial) ⟨p, q⟩ =
          .next ⟨s.formatIdentified (finalCode code) g serial, q⟩ := fun code => by
        rw [hact code (.inr hwork)]
        simp only [Part.identifyFinal, hwork]
      have hft : t.fmt = some f := by rw [ht, hs]; exact hf
      have hsame : g = { bands := f.layout.bands, bandBlocks := f.layout.bandBlocks, conv := f.layout.conv } ↔ same := by
        simp only [g, DriveGeo.mk.injEq, same]
        exact ⟨fun ⟨h₁, h₂, h₃⟩ => ⟨h₁.symm, h₂.symm, h₃.symm⟩, fun ⟨h₁, h₂, h₃⟩ => ⟨h₁.symm, h₂.symm, h₃.symm⟩⟩
      refine ⟨fun hyes => ?_, fun hno => ⟨t.enterHalted .geometryMismatch, ?_, ?_⟩, fun code hcode => ?_⟩
      · rw [hfinal]
        refine hnext ?_
        simp only [Part.formatIdentified, if_pos (show finalCode .good = .good from rfl), hdrive, hft,
          if_pos (hsame.mpr hyes)]
        rw [clearRuns_eq_queryRuns, queryRuns_eq _ _ _ (by show (f.layout.logLen + 8191) / 8192 ≤ f.layout.logLen / 8192 + 1; omega), List.map_map,
          List.map_map, ht, hs]
        simp only [Function.comp_def, Nat.zero_add]
        simp only [Part.onFmt, Part.offerAll, hf, Option.map_some]
        rfl
      · rw [hfinal]
        refine hnext ?_
        simp only [Part.formatIdentified, if_pos (show finalCode .good = .good from rfl), hdrive, hft,
          if_neg (mt hsame.mp hno), Part.failFormat]
      · obtain ⟨hsys, hfmt, _, hoffers, hbands, hlog, hidx, hmrg, hcfg, hret⟩ := t.enterHalted_clears .geometryMismatch
        refine ⟨hsys.trans ?_, hfmt, hoffers, hbands, hlog, hidx, hmrg, hcfg.trans ?_, hret.trans ?_, fun num hnum =>
          (Part.enterHalted_win (s := t) (num := num) _ ?_).trans ?_⟩
        all_goals rw [ht, hs]
        · exact hnum
        · rfl
      · rw [hfinal]
        refine hnext ?_
        simp only [Part.formatIdentified, if_neg (finalCode_ne_good hcode)]
        rw [hs]
        rfl

end Sys2Proof
end

section
/-! The anchor and the band headers at mount (R184, R185, R186): what their reads write. -/

namespace Sys2Proof.Machine

/-- Replay begins: the read of the header at the durable tail is offered (R186). -/
def Part.replaying (s : Part) : Part :=
  { s with
    mnt := { s.mnt with phase := .replay, pos := s.log.tail, seq := s.mnt.tailSeq, header := none }
    port.offers := s.port.offers ++ [{ cls := .b, work := .replayHeader, cmd := .read (8 + s.log.tail) 1 }] }

theorem Part.startReplay_eq (s : Part) : s.startReplay = s.replaying := rfl

/-- The offer of the read of a band's header (R185). -/
def headerOffer (g : Layout) (n : Nat) : Offer :=
  { cls := .b, work := .mountHeader n, cmd := .read (g.conv + n * g.bandBlocks) 1 }

theorem Part.foldl_offerHeaderRead (s : Part) (ns : List Nat) :
    ns.foldl Part.offerHeaderRead s = { s with port.offers := s.port.offers ++ ns.map (headerOffer s.sys.layout) } := by
  induction ns generalizing s with
  | nil => simp
  | cons n ns ih =>
    rw [List.foldl_cons, ih]
    simp only [Part.offerHeaderRead, Part.offer, List.append_assoc, List.map_cons]
    rfl

/-- Phase HEADERS begins over bands with the write pointers `ws` (R185, R186). -/
theorem Part.startHeaders_eq {s : Part} {ws : List Nat} (hpool : s.bands.pool = ws.map fun w => { wp := w }) :
    s.startHeaders =
      let written := (List.range ws.length).filter fun n => decide (ws.getD n 0 ≠ 0)
      let t : Part := { s with
        bands := { s.bands with
          pool := ws.map fun w => { st := if w = 0 then .free else .unjudged, wp := w }
          free := (List.range ws.length).filter fun n => decide (ws.getD n 0 = 0) }
        mnt := { s.mnt with phase := .headers, headersOpen := written }
        port.offers := s.port.offers ++ written.map (headerOffer s.sys.layout) }
      if written = [] then t.replaying else t := by
  have hwp : ∀ n, (s.bands.pband n).wp = ws.getD n 0 := fun n => by
    simp only [Bands.pband, hpool, List.getD_eq_getElem?_getD, List.getElem?_map]
    cases ws[n]? <;> rfl
  have hlen : s.bands.pool.length = ws.length := by simp [hpool]
  have hmap : s.bands.pool.map (fun b => if b.wp = 0 then { b with st := PState.free } else b) =
      ws.map fun w => { st := if w = 0 then .free else .unjudged, wp := w } := by
    rw [hpool, List.map_map]
    refine List.map_congr_left fun w _ => ?_
    by_cases hw : w = 0 <;> simp [hw]
  have hempty : (fun n => (s.bands.pband n).wp == 0) = fun n => decide (ws.getD n 0 = 0) := by
    funext n
    rw [hwp]
    rfl
  have hwritten : (fun n => (s.bands.pband n).wp != 0) = fun n => decide (ws.getD n 0 ≠ 0) := by
    funext n
    rw [hwp, decide_not]
    rfl
  simp only [Part.startHeaders, hlen, hmap, hempty, hwritten, Part.foldl_offerHeaderRead, Part.startReplay_eq,
    List.isEmpty_iff]

/-- A geometry that the anchor stores and the drive has, with room for the log (R184). -/
theorem Part.geometryMatches_iff {s : Part} {a : AnchorData} : s.geometryMatches a = true ↔
    s.sys.drive = some { bands := a.layout.bands, bandBlocks := a.layout.bandBlocks, conv := a.layout.conv } ∧
      8 + a.layout.logLen ≤ a.layout.conv := by
  rw [Part.geometryMatches, Bool.and_eq_true, beq_iff_eq, decide_eq_true_iff]
  exact Iff.rfl

/-- An anchor that passes its tests loads the settings and is compared with the drive (R184). -/
theorem Part.judgeAnchor_good {s : Part} {b : Block} {a : AnchorData} (hsig : bytesAt b 0 8 = sigAnchor)
    (ha : parseAnchor b = some a) (hc : checkMatches b 205 [] = true) (hr : anchorInRange a = true) :
    s.judgeAnchor b = if s.geometryMatches a = true then ((s.loadSettings a).buildTables a).startHeaders
      else (s.loadSettings a).enterHalted .geometryMismatch := by
  have hsame : (s.loadSettings a).geometryMatches a = s.geometryMatches a := rfl
  simp only [Part.judgeAnchor, hsig, ha, hc, hr, hsame, ne_eq, not_true_eq_false, if_false, Bool.and_self, if_true]

/-- An anchor that fails a test of its own halts the part (R184). -/
theorem Part.judgeAnchor_bad {s : Part} {b : Block} (hsig : bytesAt b 0 8 = sigAnchor)
    (hbad : checkMatches b 205 [] = false ∨ ∀ a, parseAnchor b = some a → anchorInRange a = false) :
    s.judgeAnchor b = s.enterHalted .anchorBad := by
  unfold Part.judgeAnchor
  rw [if_neg (not_not_intro hsig)]
  split
  next => rfl
  next a ha =>
    rw [if_neg]
    rcases hbad with h | h
    · simp [h]
    · simp [h a ha]

/-- The completion of the anchor read of mount, in a slot whose completion is handed on (R117, R184). -/
theorem State.act_mountAnchorReadComplete {p : Part} {q : List Instr} {k : Fin 32} {o : Offer} (code : DriveCode)
    (b : Block) (hreset : p.sys.inReset = false) (hruns : p.port.runs k o) (hwork : o.work = .mountAnchor)
    (hband : o.band = none) :
    exec (.mountAnchorReadComplete k code b) ⟨p, q⟩ =
      .next ⟨({ p with port.slots := p.port.slots.set k none } : Part).anchorReadFinal (finalCode code) b, q⟩ := by
  rw [exec_mountAnchorReadComplete, State.act_awake _ hreset, Part.complete_runs _ hruns (by simp [hwork]), hband]
  rfl

end Sys2Proof.Machine

namespace Sys2Proof
open Sys2Proof.Machine

/-- Settles O47, by the judgement of the anchor block, and by the start of phase HEADERS. -/
theorem anchorDecidesTheMount : Obligations.AnchorDecidesTheMount := by
  intro p q k o b hreset hruns hwork hband haltsWith halts
  obtain ⟨s, hs⟩ : ∃ s : Machine.Part, s = { p with port.slots := p.port.slots.set k none } := ⟨_, rfl⟩
  have hact : ∀ code, exec (.mountAnchorReadComplete k code b) ⟨p, q⟩ = .next ⟨s.anchorReadFinal (finalCode code) b, q⟩ :=
    fun code => by rw [State.act_mountAnchorReadComplete code b hreset hruns hwork hband, hs]
  have hgood : exec (.mountAnchorReadComplete k .good b) ⟨p, q⟩ = .next ⟨s.judgeAnchor b, q⟩ := hact .good
  have hhalts : ∀ (t : Machine.Part) (h : HaltReason) (code : DriveCode),
      exec (.mountAnchorReadComplete k code b) ⟨p, q⟩ = .next ⟨t.enterHalted h, q⟩ →
      ∀ ranges, t.ret = { p.ret with entries := ranges } → haltsWith h code t.cfg ranges :=
    fun t h code heq ranges hranges => by
      obtain ⟨hsys, _, hmnt, hoffers, _, _, _, _, hcfg, hret⟩ := t.enterHalted_clears h
      exact ⟨_, heq, by rw [hsys], by rw [hsys], hmnt, hoffers, hcfg, hret.trans hranges⟩
  have hcfg : s.cfg = p.cfg := by rw [hs]
  have hret : s.ret = { p.ret with entries := p.ret.entries } := by rw [hs]
  have hfails : ∀ h code, exec (.mountAnchorReadComplete k code b) ⟨p, q⟩ = .next ⟨s.enterHalted h, q⟩ → halts h code :=
    fun h code heq => by
      have h := hhalts s h code heq _ hret
      rwa [hcfg] at h
  refine ⟨?blank, ?bad, ?mismatch, ?twice, ?once, ?good⟩
  case blank =>
    intro hsig
    exact hfails _ _ (by rw [hgood, Part.judgeAnchor, if_pos hsig])
  case bad =>
    intro hsig hbad
    exact hfails _ _ (by rw [hgood, Part.judgeAnchor_bad hsig hbad])
  case mismatch =>
    intro a hsig ha hc hr hno
    have hmatch : ¬ s.geometryMatches a = true := by
      rw [Part.geometryMatches_iff, hs]
      rintro ⟨hdrive, hroom⟩
      exact hno.elim (fun h => absurd hroom (Nat.not_le.mpr h)) (· hdrive)
    exact hhalts (s.loadSettings a) .geometryMismatch .good
      (by rw [hgood, Part.judgeAnchor_good hsig ha hc hr, if_neg hmatch]) a.ranges (by rw [Part.loadSettings, hs])
  case twice =>
    intro code hcode herr
    refine hfails _ _ ?_
    have hne : ¬ s.mnt.anchorErrors = 0 := by
      rw [hs]
      exact Nat.ne_of_gt herr
    rw [hact, Part.anchorReadFinal, if_neg (finalCode_ne_good hcode), if_neg hne]
  case once =>
    intro code hcode herr
    have hzero : s.mnt.anchorErrors = 0 := by
      rw [hs]
      exact herr
    rw [hact, Part.anchorReadFinal, if_neg (finalCode_ne_good hcode), if_pos hzero, hs]
    rfl
  case good =>
    intro a hsig ha hc hr hroom hdrive ws hwps hlen written
    obtain ⟨t, ht⟩ : ∃ t : Machine.Part, t = (s.loadSettings a).buildTables a := ⟨_, rfl⟩
    have hmatch : s.geometryMatches a = true := by
      rw [Part.geometryMatches_iff, hs]
      exact ⟨hdrive, hroom⟩
    have hpool : t.bands.pool = ws.map fun w => { wp := w } := by
      rw [ht, hs]
      simp only [Part.buildTables, Part.loadSettings, hwps, List.map_map]
      rfl
    have heq := Part.startHeaders_eq hpool
    rw [hlen] at heq
    rw [hgood, Part.judgeAnchor_good hsig ha hc hr, if_pos hmatch, ← ht, heq]
    obtain ⟨u, hu⟩ : ∃ u : Machine.Part, u = { t with
        bands := { t.bands with
          pool := ws.map fun w => { st := if w = 0 then .free else .unjudged, wp := w }
          free := (List.range a.layout.bands).filter fun n => decide (ws.getD n 0 = 0) }
        mnt := { t.mnt with phase := .headers, headersOpen := written }
        port.offers := t.port.offers ++ written.map (headerOffer t.sys.layout) } := ⟨_, rfl⟩
    refine ⟨if written = [] then u.replaying else u, by rw [hu], ?_⟩
    by_cases hnone : written = []
    · rw [if_pos hnone, hu, ht, hs]
      refine ⟨rfl, rfl, rfl, rfl, rfl, rfl, rfl, rfl, rfl, rfl, rfl, rfl, fun _ => ⟨rfl, rfl, rfl, ?_⟩,
        fun h => absurd hnone h⟩
      simp only [Part.replaying, hnone, List.map_nil, List.append_nil]
      rfl
    · rw [if_neg hnone, hu, ht, hs]
      exact ⟨rfl, rfl, rfl, rfl, rfl, rfl, rfl, rfl, rfl, rfl, rfl, rfl, fun h => absurd h hnone, fun _ => ⟨rfl, rfl⟩⟩

end Sys2Proof
end

section
/-! The reads of the band headers at mount (R185, R186): what their completions write. -/

namespace Sys2Proof.Machine

/-- A header read of band `n` has had its final completion: the last one begins replay (R185, R186). -/
theorem Part.headerDone_eq (s : Part) (n : Nat) :
    s.headerDone n =
      let t : Part := { s with mnt.headersOpen := s.mnt.headersOpen.filter (· != n) }
      if s.mnt.headersOpen.filter (· != n) = [] then t.replaying else t := by
  simp only [Part.headerDone, List.isEmpty_iff, Part.startReplay_eq]

/-- The completion of a header read of mount, in a slot whose completion is handed on (R117, R185). -/
theorem State.act_mountHeaderReadComplete {p : Part} {q : List Instr} {k : Fin 32} {o : Offer} {n : Nat}
    (code : DriveCode) (b : Block) (hreset : p.sys.inReset = false) (hruns : p.port.runs k o)
    (hwork : o.work = .mountHeader n) (hband : o.band = none) :
    exec (.mountHeaderReadComplete k code b) ⟨p, q⟩ =
      .next ⟨({ p with port.slots := p.port.slots.set k none } : Part).headerReadFinal n (finalCode code) b, q⟩ := by
  rw [exec_mountHeaderReadComplete, State.act_awake _ hreset, Part.complete_runs _ hruns (by simp [hwork]), hband]
  simp only [hwork]
  rfl

/-- A header that is none of a band's, or names no logical band (R185). -/
theorem Part.headerReadFinal_invalid {s : Part} {n : Nat} {b : Block} (h : s.headerCandidate n b = none) :
    s.headerReadFinal n .good b = Part.headerDone { s with
      mnt.invalid := s.mnt.invalid ++ [n]
      bands.pool := s.bands.pool.modify n fun x => { x with st := .resetPending } } n := by
  simp only [Part.headerReadFinal, if_true, h]
  rfl

/-- A header that makes its band a candidate (R185). -/
theorem Part.headerReadFinal_candidate {s : Part} {n : Nat} {b : Block} {c : Candidate}
    (h : s.headerCandidate n b = some c) :
    s.headerReadFinal n .good b = Part.headerDone { s with mnt.candidates := s.mnt.candidates ++ [c] } n := by
  simp only [Part.headerReadFinal, if_true, h]

end Sys2Proof.Machine

namespace Sys2Proof
open Sys2Proof.Machine

/-- Settles O48, by what the header says of its band, and by the first and the second error of its read. -/
theorem headersMakeCandidates : Obligations.HeadersMakeCandidates := by
  intro p q k o n b hreset hruns hwork hband slots left done
  obtain ⟨s, hs⟩ : ∃ s : Machine.Part, s = { p with port.slots := slots } := ⟨_, rfl⟩
  have hact : ∀ code, exec (.mountHeaderReadComplete k code b) ⟨p, q⟩ =
      .next ⟨s.headerReadFinal n (finalCode code) b, q⟩ := fun code => by
    rw [State.act_mountHeaderReadComplete code b hreset hruns hwork hband, hs]
  have hgood : exec (.mountHeaderReadComplete k .good b) ⟨p, q⟩ = .next ⟨s.headerReadFinal n .good b, q⟩ := hact .good
  have hinvalid : s.headerCandidate n b = none → exec (.mountHeaderReadComplete k .good b) ⟨p, q⟩ =
      .next ⟨done { p with
        port.slots := slots
        mnt.headersOpen := left
        mnt.invalid := p.mnt.invalid ++ [n]
        bands.pool := p.bands.pool.modify n fun x => { x with st := .resetPending } }, q⟩ := fun h => by
    rw [hgood, Part.headerReadFinal_invalid h, Part.headerDone_eq, hs]
    rfl
  refine ⟨fun l base mark hparse => ?valid, fun hparse => ?none, fun code hcode => ⟨fun hretried => ?twice, fun hfirst => ?once⟩⟩
  case valid =>
    by_cases hl : l < p.sys.layout.bands - p.sys.layout.spares
    · have hc : s.headerCandidate n b = some { p := n, band := l, base := base, mark := mark } := by
        rw [hs]
        simp only [Part.headerCandidate, hparse, if_pos hl]
      rw [if_pos hl, hgood, Part.headerReadFinal_candidate hc, Part.headerDone_eq, hs]
      rfl
    · rw [if_neg hl]
      refine hinvalid ?_
      rw [hs]
      simp only [Part.headerCandidate, hparse, if_neg hl]
  case none =>
    refine hinvalid ?_
    simp only [Part.headerCandidate, hparse]
  case twice =>
    have hcontains : s.mnt.headersRetried.contains n = true := by
      rw [hs]
      simpa using hretried
    rw [hact, Part.headerReadFinal, if_neg (finalCode_ne_good hcode), if_pos hcontains, Part.headerDone_eq, hs]
    rfl
  case once =>
    have hcontains : ¬ s.mnt.headersRetried.contains n = true := by
      rw [hs]
      simpa using hfirst
    rw [hact, Part.headerReadFinal, if_neg (finalCode_ne_good hcode), if_neg hcontains, hs]
    rfl

end Sys2Proof
end

section
/-! Replay (R82, R186, R187): the tests of a record, its effect, and its acceptance. -/

namespace Sys2Proof.Machine

/-! ### The tests of a record -/

/-- The position of a record that is read is the one it was read at (R186). -/
theorem parseRecord_pos {b : Block} {pos : Nat} {r : Rec} (h : parseRecord b pos = some r) : r.pos = pos := by
  unfold parseRecord at h
  split at h
  · cases h
  · split at h
    · cases h
    next k _ =>
      cases k with
      | data | commit | pad | void => cases h; rfl
      | discard =>
        dsimp only at h
        split at h
        · cases h; rfl
        · cases h

/-- The length of a record agrees with its kind (R43, R186). -/
def Rec.fits (r : Rec) (logLen : Nat) : Prop :=
  match r.kind with
  | .data => 1 ≤ r.n ∧ r.n ≤ 128 ∧ r.len = 1 + r.n
  | .pad => r.pos + r.len = logLen ∧ 1 ≤ r.len ∧ r.len ≤ 128
  | .void => 1 ≤ r.len ∧ r.len ≤ 129
  | _ => r.len = 1

theorem lengthOk_iff {n : Nat} {r : Rec} : lengthOk n r = true ↔ r.fits n := by
  unfold lengthOk Rec.fits
  cases r.kind with
  | data => exact decide_eq_true_iff
  | pad => exact decide_eq_true_iff
  | void => exact decide_eq_true_iff
  | discard => exact beq_iff_eq
  | commit => exact beq_iff_eq

/-- The fields of a record lie in their ranges (R186). -/
theorem fieldsOk_iff {g : Layout} {r : Rec} : fieldsOk g r = true ↔
    (r.kind = .data ∨ r.kind = .discard ∨ r.kind = .commit → ∃ l, r.band = some l ∧ l < g.logBands) ∧
    (r.kind = .commit → (∀ x, r.oldBand = some x ∨ r.newBand = some x → x < g.bands) ∧ r.snapSeq < r.seq ∧
      r.newFill ≤ g.dataBlocks) := by
  have hband : (r.band.any fun l => decide (l < g.logBands)) = true ↔ ∃ l, r.band = some l ∧ l < g.logBands := by
    cases r.band <;> simp
  have hall : ∀ o : Option Nat, (o.all fun x => decide (x < g.bands)) = true ↔ ∀ x, o = some x → x < g.bands := by
    intro o
    cases o <;> simp
  unfold fieldsOk
  cases hk : r.kind with
  | data => simpa using hband
  | discard => simpa using hband
  | commit =>
    simp only [Bool.and_eq_true, hband, hall, decide_eq_true_eq, reduceCtorEq, or_true, true_implies]
    constructor
    · rintro ⟨⟨⟨⟨hl, ho⟩, hn⟩, hs⟩, hf⟩
      exact ⟨hl, fun x hx => hx.elim (ho x) (hn x), hs, hf⟩
    · rintro ⟨hl, hx, hs, hf⟩
      exact ⟨⟨⟨⟨hl, fun x h => hx x (.inl h)⟩, fun x h => hx x (.inr h)⟩, hs⟩, hf⟩
  | pad => simp
  | void => simp

theorem Part.replayable_iff {s : Part} {r : Rec} : s.replayable r = true ↔
    r.seq = s.mnt.seq ∧ r.fits s.sys.layout.logLen ∧ r.pos + r.len ≤ s.sys.layout.logLen ∧
      fieldsOk s.sys.layout r = true ∧ s.mnt.blocks + r.len ≤ s.sys.layout.logLen := by
  simp only [Part.replayable, Bool.and_eq_true, beq_iff_eq, lengthOk_iff, decide_eq_true_eq, and_assoc]

/-! ### The effect of a record -/

/-- The record inserts an extent (R82). -/
abbrev Rec.inserts (r : Rec) : Prop := r.kind = .data ∨ r.kind = .discard ∧ r.full = false

/-- The extent is one that the record removes (R74, R75, R82); `d` is the size of a band. -/
abbrev Rec.removes (r : Rec) (d : Nat) (e : Extent) : Prop :=
  e.start / d = r.band.getD 0 ∧ (r.kind = .discard ∨ r.kind = .commit ∧ e.seq ≤ r.snapSeq)

/-- The extents after the record has taken effect (R82). -/
def Rec.replayExtents (r : Rec) (d : Nat) (es : List Extent) : List Extent :=
  if r.inserts then insertExtents es (r.extent d (r.band.getD 0)) else es.filter fun e => decide (¬ r.removes d e)

/-- A record of the table after the record `r` has taken effect (R72, R74, R75). -/
def Rec.replayed (x r : Rec) (d : Nat) (es : List Extent) : Rec :=
  if r.inserts then x.inserted es (r.extent d (r.band.getD 0))
  else x.lose (lengthsOf es (fun e => decide (r.removes d e)) x.seq)

/-- Mount progress after the record has taken effect (R187). -/
def Mount.noted (m : Mount) (r : Rec) : Mount :=
  { m with
    floors := if r.kind = .discard ∧ r.full = true then
        (r.band.getD 0, r.seq) :: m.floors.filter (·.1 != r.band.getD 0)
      else m.floors
    notes := if r.kind = .commit then
        { band := r.band.getD 0, newBand := r.newBand, snapSeq := r.snapSeq } ::
          m.notes.filter (·.band != r.band.getD 0)
      else m.notes }

theorem Mount.noted_of_inserts {m : Mount} {r : Rec} (h : r.inserts) : m.noted r = m := by
  rcases h with hk | ⟨hk, hf⟩
  · simp [Mount.noted, hk]
  · simp [Mount.noted, hk, hf]

/-- A record that inserts takes effect (R71, R82). -/
theorem Part.replayEffect_inserts {s : Part} {r : Rec} {l : Nat} (hi : r.inserts) (hl : r.band = some l) :
    s.replayEffect r = s.insertExtent (r.extent s.sys.layout.dataBlocks l) := by
  unfold Part.replayEffect
  rcases hi with hk | ⟨hk, hf⟩
  · simp only [hk, hl]
  · simp only [hk, hl, hf, if_neg Bool.false_ne_true]

/-- A record that removes extents takes effect (R74, R75, R82). -/
theorem Part.replayEffect_removes {s : Part} {r : Rec} {l : Nat} (hk : r.kind = .discard ∧ r.full = true ∨ r.kind = .commit)
    (hl : r.band = some l) : s.replayEffect r =
      { s.removeExtents (fun e => decide (r.removes s.sys.layout.dataBlocks e)) with mnt := s.mnt.noted r } := by
  rcases hk with ⟨hk, hf⟩ | hk
  · have hgone : (fun e : Extent => e.start / s.sys.layout.dataBlocks == l) =
        fun e => decide (r.removes s.sys.layout.dataBlocks e) := by
      funext e
      by_cases h : e.start / s.sys.layout.dataBlocks = l <;> simp [Rec.removes, hk, hl, h]
    have hnoted : s.mnt.noted r = { s.mnt with floors := (l, r.seq) :: s.mnt.floors.filter (·.1 != l) } := by
      simp [Mount.noted, hk, hf, hl]
    unfold Part.replayEffect
    simp only [hk, hl, hf, if_true, hgone, hnoted, Part.removeExtents_eq]
  · have hgone : upTo s.sys.layout.dataBlocks l r.snapSeq = fun e => decide (r.removes s.sys.layout.dataBlocks e) := by
      funext e
      rw [upTo_eq]
      simp [Rec.removes, hk, hl]
    have hnoted : s.mnt.noted r = { s.mnt with
        notes := { band := l, newBand := r.newBand, snapSeq := r.snapSeq } :: s.mnt.notes.filter (·.band != l) } := by
      simp [Mount.noted, hk, hl]
    unfold Part.replayEffect
    simp only [hk, hl, hgone, hnoted, Part.removeExtents_eq]

/-- A PAD or VOID record has no effect (R82). -/
theorem Part.replayEffect_none {s : Part} {r : Rec} (hk : r.kind = .pad ∨ r.kind = .void) : s.replayEffect r = s := by
  unfold Part.replayEffect
  rcases hk with hk | hk <;> simp only [hk]

/-- What a record of a table writes beside its own entry (R71, R72, R74, R75, R82, R187). -/
theorem Part.replayEffect_eq {s : Part} {r : Rec}
    (hband : r.kind = .data ∨ r.kind = .discard ∨ r.kind = .commit → ∃ l, r.band = some l) :
    s.replayEffect r = { s with
      idx.extents := r.replayExtents s.sys.layout.dataBlocks s.idx.extents
      log.table := s.log.table.map (·.replayed r s.sys.layout.dataBlocks s.idx.extents)
      mnt := s.mnt.noted r } := by
  have hinserts : r.inserts → ∀ l, r.band = some l → s.replayEffect r = { s with
      idx.extents := r.replayExtents s.sys.layout.dataBlocks s.idx.extents
      log.table := s.log.table.map (·.replayed r s.sys.layout.dataBlocks s.idx.extents)
      mnt := s.mnt.noted r } := fun hi l hl => by
    simp only [Part.replayEffect_inserts hi hl, Part.insertExtent_eq, Rec.replayExtents, Rec.replayed, if_pos hi,
      Mount.noted_of_inserts hi, hl, Option.getD_some]
  have hremoves : ¬ r.inserts → ∀ l, r.band = some l → r.kind = .discard ∧ r.full = true ∨ r.kind = .commit →
      s.replayEffect r = { s with
        idx.extents := r.replayExtents s.sys.layout.dataBlocks s.idx.extents
        log.table := s.log.table.map (·.replayed r s.sys.layout.dataBlocks s.idx.extents)
        mnt := s.mnt.noted r } := fun hi l hl hk => by
    simp only [Part.replayEffect_removes hk hl, Part.removeExtents_eq, Rec.replayExtents, Rec.replayed, if_neg hi,
      decide_not]
  have hnone : r.kind = .pad ∨ r.kind = .void → s.replayEffect r = { s with
      idx.extents := r.replayExtents s.sys.layout.dataBlocks s.idx.extents
      log.table := s.log.table.map (·.replayed r s.sys.layout.dataBlocks s.idx.extents)
      mnt := s.mnt.noted r } := fun hk => by
    have hi : ¬ r.inserts := by rcases hk with hk | hk <;> simp [Rec.inserts, hk]
    have hno : ∀ e, ¬ r.removes s.sys.layout.dataBlocks e := fun e => by rcases hk with hk | hk <;> simp [Rec.removes, hk]
    have hextents : r.replayExtents s.sys.layout.dataBlocks s.idx.extents = s.idx.extents := by
      rw [Rec.replayExtents, if_neg hi]
      exact List.filter_eq_self.mpr fun e _ => decide_eq_true (hno e)
    have hrec : ∀ x : Rec, x.replayed r s.sys.layout.dataBlocks s.idx.extents = x := fun x => by
      rw [Rec.replayed, if_neg hi]
      simp [Rec.lose, lengthsOf, hno]
    have hnoted : s.mnt.noted r = s.mnt := by rcases hk with hk | hk <;> simp [Mount.noted, hk]
    rw [Part.replayEffect_none hk, hextents, hnoted, (List.map_congr_left fun x _ => hrec x).trans (List.map_id _)]
  cases hk : r.kind with
  | data =>
    obtain ⟨l, hl⟩ := hband (.inl hk)
    exact hinserts (.inl hk) l hl
  | discard =>
    obtain ⟨l, hl⟩ := hband (.inr (.inl hk))
    rcases Bool.eq_false_or_eq_true r.full with hf | hf
    · exact hremoves (by simp [Rec.inserts, hk, hf]) l hl (.inl ⟨hk, hf⟩)
    · exact hinserts (.inr ⟨hk, hf⟩) l hl
  | commit =>
    obtain ⟨l, hl⟩ := hband (.inr (.inr hk))
    exact hremoves (by simp [Rec.inserts, hk]) l hl (.inr hk)
  | pad => exact hnone (.inl hk)
  | void => exact hnone (.inr hk)

end Sys2Proof.Machine
end

section
/-! Replay reads (R65, R82, R186, R187): what a record that is judged writes. -/

namespace Sys2Proof.Machine

/-- The extents after a record has taken effect, by its kind (R71, R74, R75, R82). -/
theorem Rec.replayExtents_eq {r : Rec} {d pos : Nat} {es : List Extent} (hpos : r.pos = pos) :
    r.replayExtents d es =
      if r.inserts then insertExtents es
        { start := r.band.getD 0 * d + r.off, len := r.n, kind := if r.kind = .data then .data else .zero, seq := r.seq
          lp := if r.kind = .data then pos + 1 else 0 }
      else if r.kind = .discard then es.filter (fun e => decide (e.start / d ≠ r.band.getD 0))
      else if r.kind = .commit then es.filter (fun e => decide (¬ (e.start / d = r.band.getD 0 ∧ e.seq ≤ r.snapSeq)))
      else es := by
  subst hpos
  unfold Rec.replayExtents
  by_cases hi : r.inserts
  · rw [if_pos hi, if_pos hi]
    rfl
  · rw [if_neg hi, if_neg hi]
    by_cases hd : r.kind = .discard
    · rw [if_pos hd]
      exact List.filter_congr fun e _ => by simp [Rec.removes, hd]
    · rw [if_neg hd]
      by_cases hc : r.kind = .commit
      · rw [if_pos hc]
        exact List.filter_congr fun e _ => by simp [Rec.removes, hc]
      · rw [if_neg hc]
        exact List.filter_eq_self.mpr fun e _ => by simp [Rec.removes, hd, hc]

theorem Rec.replayed_seq (x r : Rec) (d : Nat) (es : List Extent) : (x.replayed r d es).seq = x.seq := by
  unfold Rec.replayed Rec.inserted
  split
  · split <;> rfl
  · rfl

/-- A record as it enters the table at replay (R186). -/
def Rec.accepted (r : Rec) : Rec := { r with st := .settled, live := 0 }

/-- The entry of the record that took effect: its live count is that of the extent it inserted (R71). -/
theorem Rec.accepted_replayed (r : Rec) (d : Nat) (es : List Extent) :
    r.accepted.replayed r d es = { r with st := .settled, live := if r.inserts then r.n else 0 } := by
  unfold Rec.replayed
  by_cases hi : r.inserts
  · rw [if_pos hi, if_pos hi, Rec.inserted,
      if_pos (show r.accepted.seq = (r.extent d (r.band.getD 0)).seq from rfl)]
    rfl
  · rw [if_neg hi, if_neg hi]
    simp [Rec.lose, Rec.accepted]

/-- The blocks that the extents of record `q` lose to the record (R72, R74, R75). -/
def Rec.takes (r : Rec) (d : Nat) (es : List Extent) (q : Nat) : Nat :=
  ((es.filter (·.seq == q)).map fun e =>
    if r.inserts then
      min (e.start + e.len) (r.band.getD 0 * d + r.off + r.n) - max e.start (r.band.getD 0 * d + r.off)
    else if r.removes d e then e.len else 0).sum

theorem sum_map_ite (es : List Extent) (gone : Extent → Prop) [DecidablePred gone] (q : Nat) :
    lengthsOf es (fun e => decide (gone e)) q = ((es.filter (·.seq == q)).map fun e => if gone e then e.len else 0).sum := by
  rw [lengthsOf_eq es (gone := gone) fun _ => rfl]
  simp only [Bool.decide_and]
  induction es with
  | nil => rfl
  | cons e es ih =>
    by_cases hq : e.seq = q
    · by_cases hg : gone e <;> simp [hq, hg, ih]
    · simp [hq, ih]

theorem Rec.replayed_other {x r : Rec} (d : Nat) (es : List Extent) (h : x.seq ≠ r.seq) :
    x.replayed r d es = x.lose (r.takes d es x.seq) := by
  unfold Rec.replayed Rec.takes
  by_cases hi : r.inserts
  · rw [if_pos hi, Rec.inserted, if_neg (show ¬ x.seq = (r.extent d (r.band.getD 0)).seq from h)]
    simp only [if_pos hi]
    rfl
  · rw [if_neg hi, sum_map_ite]
    simp only [if_neg hi]

/-- A PAD or VOID record leaves the others as they are (R82). -/
theorem Rec.replayed_idle {x r : Rec} (d : Nat) (es : List Extent) (hk : r.kind = .pad ∨ r.kind = .void) :
    x.replayed r d es = x := by
  have hi : ¬ r.inserts := by rcases hk with hk | hk <;> simp [Rec.inserts, hk]
  have hno : ∀ e, ¬ r.removes d e := fun e => by rcases hk with hk | hk <;> simp [Rec.removes, hk]
  rw [Rec.replayed, if_neg hi]
  simp [Rec.lose, lengthsOf, hno]

/-- A part after the record `r` has been accepted, its walk not yet gone on (R186, R187). -/
def Part.replayed (s : Part) (r : Rec) : Part :=
  { s with
    idx.extents := r.replayExtents s.sys.layout.dataBlocks s.idx.extents
    log.table := (s.log.table ++ [r.accepted]).map (·.replayed r s.sys.layout.dataBlocks s.idx.extents)
    mnt := { s.mnt.noted r with
      pos := s.sys.layout.nextPos r.pos r.len, seq := s.mnt.seq + 1
      blocks := s.mnt.blocks + r.len, records := s.mnt.records + 1 } }

theorem Part.acceptRecord_eq {s : Part} {r : Rec}
    (hband : r.kind = .data ∨ r.kind = .discard ∨ r.kind = .commit → ∃ l, r.band = some l) :
    s.acceptRecord r =
      if 65536 < (r.replayExtents s.sys.layout.dataBlocks s.idx.extents).length then s.endReplayDegraded
      else if s.mnt.blocks + r.len = s.sys.layout.logLen then (s.replayed r).endReplay
      else (s.replayed r).offerReplay := by
  have heffect := Part.replayEffect_eq (s := { s with log.table := s.log.table ++ [r.accepted] }) (r := r.accepted) hband
  have haccept : s.acceptRecord r =
      (let t := ({ s with log.table := s.log.table ++ [r.accepted] } : Part).replayEffect r.accepted
      if 65536 < t.idx.extents.length then s.endReplayDegraded
      else
        let t := { t with
          mnt.pos := s.sys.layout.nextPos r.pos r.len, mnt.seq := s.mnt.seq + 1
          mnt.blocks := s.mnt.blocks + r.len, mnt.records := s.mnt.records + 1 }
        if t.mnt.blocks = s.sys.layout.logLen then t.endReplay else t.offerReplay) := rfl
  rw [haccept, heffect]
  rfl

/-- A record that is judged: its check value, then the room in the table, then the room in the index (R65, R82, R186). -/
theorem Part.judgeRecord_eq {s : Part} {b : Block} {r : Rec} (data : List Block)
    (hband : r.kind = .data ∨ r.kind = .discard ∨ r.kind = .commit → ∃ l, r.band = some l) :
    s.judgeRecord b r data =
      if checkMatches b (checkOffset r.kind) data = false then s.endReplay
      else if 32768 ≤ s.log.table.length ∨
          65536 < (r.replayExtents s.sys.layout.dataBlocks s.idx.extents).length then s.endReplayDegraded
      else if s.mnt.blocks + r.len = s.sys.layout.logLen then (s.replayed r).endReplay
      else (s.replayed r).offerReplay := by
  unfold Part.judgeRecord
  rw [Part.acceptRecord_eq hband]
  rcases Bool.eq_false_or_eq_true (checkMatches b (checkOffset r.kind) data) with hc | hc
  · rw [hc, if_neg (show ¬ (!true) = true by decide), if_neg (show ¬ true = false by decide)]
    by_cases hfull : 32768 ≤ s.log.table.length
    · rw [if_pos (show Config.recordCapacity ≤ _ from hfull), if_pos (.inl hfull)]
    · rw [if_neg (show ¬ Config.recordCapacity ≤ _ from hfull)]
      by_cases hext : 65536 < (r.replayExtents s.sys.layout.dataBlocks s.idx.extents).length
      · rw [if_pos hext, if_pos (.inr hext)]
      · rw [if_neg hext, if_neg (not_or_intro hfull hext)]
  · rw [hc, if_pos (by decide), if_pos rfl]

/-- The completion of a replay read, in a slot whose completion is handed on (R117, R186). -/
theorem State.act_replayReadComplete {p : Part} {q : List Instr} {k : Fin 32} {o : Offer} (code : DriveCode)
    (bs : List Block) (hreset : p.sys.inReset = false) (hruns : p.port.runs k o) (hwork : o.work.isReplay = true)
    (hband : o.band = none) :
    exec (.replayReadComplete k code bs) ⟨p, q⟩ =
      .next ⟨({ p with port.slots := p.port.slots.set k none } : Part).replayFinal o.work (finalCode code) bs, q⟩ := by
  rw [exec_replayReadComplete, State.act_awake _ hreset, Part.complete_runs _ hruns hwork, hband]
  rfl

end Sys2Proof.Machine

namespace Sys2Proof
open Sys2Proof.Machine

/-- Settles O49, by the tests of a record, and by what one that is judged writes. -/
theorem replayWalksTheLog : Obligations.ReplayWalksTheLog := by
  intro p q k o bs hreset hruns hband hmode hphase hreplay g d slots runs ended acceptable judged
  obtain ⟨s, hs⟩ : ∃ s : Machine.Part, s = { p with port.slots := slots } := ⟨_, rfl⟩
  have hreads : o.work.isReplay = true := by rcases hreplay with h | h <;> rw [h] <;> rfl
  have hact : ∀ code, exec (.replayReadComplete k code bs) ⟨p, q⟩ =
      .next ⟨s.replayFinal o.work (finalCode code) bs, q⟩ := fun code => by
    rw [State.act_replayReadComplete code bs hreset hruns hreads hband, hs]
  have hon : ¬ (s.sys.mode ≠ .mounting ∨ s.mnt.phase ≠ .replay) := by
    rw [hs]
    exact not_or_intro (not_not_intro hmode) (not_not_intro hphase)
  have hend : (.next ⟨s.endReplay, q⟩ : Host.Outcome State Fault Refusal) = ended false := by
    rw [hs]
    simp only [ended, Bool.or_false]
    rfl
  have hendDegraded : (.next ⟨s.endReplayDegraded, q⟩ : Host.Outcome State Fault Refusal) = ended true := by
    rw [hs]
    simp only [ended, Bool.or_true]
    rfl
  have hacceptable : ∀ r, r.pos = p.mnt.pos → (s.replayable r = true ↔ acceptable r) := fun r hpos => by
    have hfits : r.fits g.logLen ↔ (match r.kind with
        | .data => 1 ≤ r.n ∧ r.n ≤ 128 ∧ r.len = 1 + r.n
        | .pad => p.mnt.pos + r.len = g.logLen ∧ 1 ≤ r.len ∧ r.len ≤ 128
        | .void => 1 ≤ r.len ∧ r.len ≤ 129
        | _ => r.len = 1) := by
      rw [← hpos]
      exact Iff.rfl
    rw [Part.replayable_iff, fieldsOk_iff, hs]
    dsimp only
    rw [hfits, hpos]
    constructor
    · rintro ⟨hseq, hlen, hend, ⟨hfield, hcommit⟩, hroom⟩
      exact ⟨hseq, hend, hroom, hlen, hfield, hcommit⟩
    · rintro ⟨hseq, hend, hroom, hlen, hfield, hcommit⟩
      exact ⟨hseq, hlen, hend, ⟨hfield, hcommit⟩, hroom⟩
  have hjudged : ∀ b r data, r.pos = p.mnt.pos → acceptable r → runs = .next ⟨s.judgeRecord b r data, q⟩ →
      judged b r data := by
    intro b r data hpos hacc hjudge
    obtain ⟨hseq, hend', hroom, hlen, hfield, hcommit⟩ := hacc
    have hband' : r.kind = .data ∨ r.kind = .discard ∨ r.kind = .commit → ∃ l, r.band = some l := fun h =>
      (hfield h).imp fun _ => And.left
    have hextents := Rec.replayExtents_eq (r := r) (d := d) (es := p.idx.extents) hpos
    have heq := Part.judgeRecord_eq (s := s) (b := b) data hband'
    have hlens : s.log.table.length = p.log.table.length := by rw [hs]
    have hexts : r.replayExtents s.sys.layout.dataBlocks s.idx.extents = r.replayExtents d p.idx.extents := by
      rw [hs]
    rw [hlens, hexts] at heq
    refine ⟨fun hc => ?_, fun hc => ⟨fun hfull => ?_, fun htable hext => ?_⟩⟩
    · rw [hjudge, heq, if_pos hc]
      exact hend
    · rw [hjudge, heq, if_neg (by rw [hc]; decide), if_pos (by rw [hextents]; exact hfull)]
      exact hendDegraded
    · rw [← hextents] at hext
      have hgoes : s.judgeRecord b r data = if p.mnt.blocks + r.len = g.logLen then (s.replayed r).endReplay
          else (s.replayed r).offerReplay := by
        rw [heq, if_neg (by rw [hc]; decide), if_neg (not_or_intro (Nat.not_le.mpr htable) (Nat.not_lt.mpr hext)), hs]
      obtain ⟨t, ht⟩ : ∃ t : Machine.Part, t = s.replayed r := ⟨_, rfl⟩
      rw [← ht] at hgoes
      have hidx : t.idx = { p.idx with extents := r.replayExtents d p.idx.extents } := by rw [ht, hs]; rfl
      have htable' : t.log.table = (p.log.table ++ [r.accepted]).map (·.replayed r d p.idx.extents) := by rw [ht, hs]; rfl
      have hu : ∀ u : Machine.Part, u.idx = t.idx → u.log.table = t.log.table →
          u.idx = { p.idx with extents := r.replayExtents d p.idx.extents } ∧
          u.log.table.map (·.seq) = p.log.table.map (·.seq) ++ [r.seq] ∧
          u.log.table.getLast? = some { r with st := .settled, live := if r.inserts then r.n else 0 } ∧
          (r.kind = .pad ∨ r.kind = .void → u.log.table.dropLast = p.log.table) ∧
          ((∀ x ∈ p.log.table, x.seq ≠ r.seq) → u.log.table.dropLast = p.log.table.map fun x =>
            { x with live := x.live - r.takes d p.idx.extents x.seq }) := fun u hui hut => by
        rw [hui, hut, hidx, htable']
        refine ⟨rfl, ?_, ?_, fun hk => ?_, fun hne => ?_⟩
        · rw [List.map_map]
          refine (List.map_congr_left fun x _ => Rec.replayed_seq x r d _).trans ?_
          rw [List.map_append]
          rfl
        · rw [List.map_append, List.map_singleton, Rec.accepted_replayed]
          exact List.getLast?_concat
        · rw [List.map_append, List.map_singleton, List.dropLast_concat]
          exact (List.map_congr_left fun x _ => Rec.replayed_idle d _ hk).trans (List.map_id _)
        · rw [List.map_append, List.map_singleton, List.dropLast_concat]
          exact List.map_congr_left fun x hx => Rec.replayed_other d _ (hne x hx)
      have hnext : g.nextPos r.pos r.len = if p.mnt.pos + r.len = g.logLen then 0 else p.mnt.pos + r.len := by
        rw [Layout.nextPos, hpos]
      by_cases hlast : p.mnt.blocks + r.len = g.logLen
      · obtain ⟨h₁, h₂, h₃, h₄, h₅⟩ := hu t.endReplay rfl rfl
        refine ⟨t.endReplay, ?_, h₁.trans (by rw [hextents]), h₂, h₃, h₄, h₅, ?_⟩
        · rw [hjudge, hgoes, if_pos hlast]
        · simp only [if_pos hlast]
          rw [ht, hs, ← hnext]
          exact ⟨rfl, fun _ => ⟨rfl, rfl, rfl⟩, rfl, rfl, rfl, rfl⟩
      · obtain ⟨h₁, h₂, h₃, h₄, h₅⟩ := hu t.offerReplay rfl rfl
        refine ⟨t.offerReplay, ?_, h₁.trans (by rw [hextents]), h₂, h₃, h₄, h₅, ?_⟩
        · rw [hjudge, hgoes, if_neg hlast]
        · simp only [if_neg hlast]
          rw [ht, hs, ← hnext, ← hphase]
          exact ⟨rfl, fun h => absurd h hlast, rfl, rfl, rfl, rfl⟩
  refine ⟨fun code hcode => ?error, ?headerRead, ?dataRead⟩
  case error =>
    rw [hact]
    unfold Part.replayFinal
    rw [if_neg hon, if_neg (finalCode_ne_good hcode)]
    exact hendDegraded
  case headerRead =>
    intro b rest hwork hbs
    have hread : runs = .next ⟨s.replayHeaderRead b, q⟩ := by
      refine (hact .good).trans ?_
      rw [hwork, hbs, Part.replayFinal, if_neg hon]
      rfl
    have hpos : s.mnt.pos = p.mnt.pos := by rw [hs]
    refine ⟨fun hno => ?_, fun r hparse hacc => ?_⟩
    · have hnone : s.replayRecord b = none := by
        unfold Part.replayRecord
        rw [hpos]
        cases hparse : parseRecord b p.mnt.pos with
        | none => rfl
        | some r => exact if_neg fun h => hno r hparse ((hacceptable r (parseRecord_pos hparse)).mp h)
      rw [hread, Part.replayHeaderRead, hnone]
      exact hend
    · have hsome : s.replayRecord b = some r := by
        simp only [Part.replayRecord, hpos, hparse, if_pos ((hacceptable r (parseRecord_pos hparse)).mpr hacc)]
      refine ⟨fun hk => ?_, fun hk => hjudged b r [] (parseRecord_pos hparse) hacc ?_⟩
      · simp only [hread, Part.replayHeaderRead, hsome, if_pos hk]
        rw [parseRecord_pos hparse, hs]
        rfl
      · simp only [hread, Part.replayHeaderRead, hsome, if_neg hk]
  case dataRead =>
    intro b r hwork hheader hparse hacc hkind
    refine hjudged b r _ (parseRecord_pos hparse) hacc ((hact .good).trans ?_)
    have hpos : s.mnt.pos = p.mnt.pos := by rw [hs]
    have hh : s.mnt.header = some b := by rw [hs]; exact hheader
    have hsome : s.replayRecord b = some r := by
      simp only [Part.replayRecord, hpos, hparse, if_pos ((hacceptable r (parseRecord_pos hparse)).mpr hacc)]
    rw [hwork, Part.replayFinal, if_neg hon, if_pos (show finalCode .good = .good from rfl)]
    simp only [Part.replayDataRead, hh, hsome]

end Sys2Proof
end

section

/-! ## The claims on a logical band (R188)

`Candidate.beats` is the order in which `bestClaim` finds the best of its list, and `ruleThree` takes the best of the eligible
candidates: of those below the tail seq where there are any, else of all. -/

namespace Sys2Proof.Machine

/-- `w` comes before `x`, or is its equal, in the order that rule 3 of R188 takes: by base, the highest or the lowest first, and
equal bases by the lower physical band. -/
def Candidate.beats (hi : Bool) (w x : Candidate) : Prop :=
  (if hi then x.base < w.base else w.base < x.base) ∨ w.base = x.base ∧ w.p ≤ x.p

theorem Candidate.beats_refl (hi : Bool) (x : Candidate) : x.beats hi x := .inr ⟨rfl, le_rfl⟩

theorem Candidate.beats_trans {hi : Bool} {x y z : Candidate} (h : x.beats hi y) (h' : y.beats hi z) : x.beats hi z := by
  unfold Candidate.beats at *
  cases hi <;> simp only [if_true, Bool.false_eq_true, if_false] at * <;> omega

/-- The better of two candidates is one of them, and beats the other. -/
theorem betterClaim_beats (hi : Bool) (x y : Candidate) :
    betterClaim hi x y = x ∧ x.beats hi y ∨ betterClaim hi x y = y ∧ y.beats hi x := by
  unfold betterClaim Candidate.beats
  split
  next base => split <;> simp only [true_and] <;> omega
  next base =>
    cases hi <;> by_cases below : x.base < y.base <;> simp [below] <;> omega

theorem foldl_betterClaim (hi : Bool) (cs : List Candidate) (c : Candidate) :
    cs.foldl (betterClaim hi) c ∈ c :: cs ∧ ∀ x ∈ c :: cs, (cs.foldl (betterClaim hi) c).beats hi x := by
  induction cs generalizing c with
  | nil => simp [Candidate.beats_refl]
  | cons y cs ih =>
    obtain ⟨hmem, hbest⟩ := ih (betterClaim hi c y)
    have hwin := hbest _ (List.mem_cons_self ..)
    obtain ⟨he, hb⟩ | ⟨he, hb⟩ := betterClaim_beats hi c y <;> rw [List.foldl_cons] <;> rw [he] at hmem hbest hwin ⊢
    · refine ⟨List.cons_subset_cons _ (List.subset_cons_self ..) hmem, fun x hx => ?_⟩
      obtain rfl | rfl | hx := by simpa using hx
      · exact hwin
      · exact Candidate.beats_trans hwin hb
      · exact hbest x (List.mem_cons_of_mem _ hx)
    · refine ⟨List.mem_cons_of_mem _ hmem, fun x hx => ?_⟩
      obtain rfl | hx := List.mem_cons.mp hx
      · exact Candidate.beats_trans hwin hb
      · exact hbest x hx

theorem bestClaim_eq_none (hi : Bool) (cs : List Candidate) : bestClaim hi cs = none ↔ cs = [] := by
  cases cs <;> simp [bestClaim]

theorem bestClaim_best {hi : Bool} {cs : List Candidate} {w : Candidate} (h : bestClaim hi cs = some w) :
    w ∈ cs ∧ ∀ x ∈ cs, w.beats hi x := by
  cases cs with
  | nil => exact nomatch h
  | cons c cs => obtain rfl := Option.some.inj h; exact foldl_betterClaim hi cs c

/-- What rule 3 of R188 asks of a candidate, above the floor and below the next seq. -/
def Candidate.eligible (tailSeq nextSeq floor : Nat) (x : Candidate) : Prop :=
  floor ≤ x.base ∧ x.base < nextSeq ∧ (x.mark = true → x.base + 2 ≤ tailSeq)

/-- The candidates at or above the floor and below the next seq. -/
def candidatesFrom (nextSeq floor : Nat) (cs : List Candidate) : List Candidate :=
  cs.filter fun c => decide (c.base < nextSeq ∧ floor ≤ c.base)

/-- Those of them that rule 3 considers. -/
def unmarked (tailSeq : Nat) (cs : List Candidate) : List Candidate :=
  cs.filter fun c => !c.mark || decide (c.base + 2 ≤ tailSeq)

theorem mem_unmarked_candidatesFrom {tailSeq nextSeq floor : Nat} {cs : List Candidate} {x : Candidate} :
    x ∈ unmarked tailSeq (candidatesFrom nextSeq floor cs) ↔ x ∈ cs ∧ x.eligible tailSeq nextSeq floor := by
  simp only [unmarked, candidatesFrom, List.mem_filter, Candidate.eligible, Bool.or_eq_true, Bool.not_eq_true',
    decide_eq_true_eq]
  cases x.mark <;> simp <;> tauto

theorem ruleThree_eq_none {tailSeq : Nat} {cs : List Candidate} :
    ruleThree tailSeq cs = none ↔ unmarked tailSeq cs = [] := by
  unfold ruleThree
  rw [← unmarked]
  dsimp only
  split
  next none => exact bestClaim_eq_none ..
  next some =>
    refine ⟨fun h => ?_, fun h => by simp [h] at some⟩
    rw [(bestClaim_eq_none ..).mp h] at some
    exact absurd rfl some

/-- Rule 3 of R188: the highest base of those below the tail seq, or, where there is none, the lowest of all. -/
theorem ruleThree_best {tailSeq : Nat} {cs : List Candidate} {w : Candidate} (h : ruleThree tailSeq cs = some w) :
    w ∈ unmarked tailSeq cs ∧
      ((∃ x ∈ unmarked tailSeq cs, x.base < tailSeq) → w.base < tailSeq ∧
        ∀ x ∈ unmarked tailSeq cs, x.base < tailSeq → w.beats true x) ∧
      ((∀ x ∈ unmarked tailSeq cs, tailSeq ≤ x.base) → ∀ x ∈ unmarked tailSeq cs, w.beats false x) := by
  unfold ruleThree at h
  rw [← unmarked] at h
  dsimp only at h
  split at h
  next none =>
    obtain ⟨hmem, hbest⟩ := bestClaim_best h
    refine ⟨hmem, fun ⟨x, hx, hbase⟩ => ?_, fun _ => hbest⟩
    have hno := List.filter_eq_nil_iff.mp (List.isEmpty_iff.mp none) x hx
    exact absurd hbase (by simpa using hno)
  next some =>
    obtain ⟨hmem, hbest⟩ := bestClaim_best h
    obtain ⟨hw, hbase⟩ := List.mem_filter.mp hmem
    have hbase : w.base < tailSeq := by simpa using hbase
    exact ⟨hw, fun _ => ⟨hbase, fun x hx hx' => hbest x (List.mem_filter.mpr ⟨hx, by simpa using hx'⟩)⟩,
      fun hall => absurd (hall w hw) (by omega)⟩

theorem mem_losers {cs : List Candidate} {winner : Option Candidate} :
    ∀ x ∈ cs, x ∈ (cs.filter fun c => winner != some c) ↔ winner ≠ some x := by
  intro x hx
  simp [List.mem_filter, hx]

/-- With no note, or with one that names no new band, the claim is rule 3 above the floor. -/
theorem resolveClaim_byBase {tailSeq nextSeq df : Nat} {note : Option CommitNote} (cs : List Candidate) {floor : Nat}
    (hnote : (note.filter fun n => decide (df ≤ n.snapSeq)) = none ∧ df = floor ∨
      ∃ n, (note.filter fun n => decide (df ≤ n.snapSeq)) = some n ∧ n.newBand = none ∧ max df n.snapSeq = floor) :
    resolveClaim tailSeq nextSeq df note cs =
      { winner := ruleThree tailSeq (candidatesFrom nextSeq floor cs)
        faulted := false
        floor := floor
        losers := cs.filter fun c => ruleThree tailSeq (candidatesFrom nextSeq floor cs) != some c } := by
  unfold resolveClaim
  obtain ⟨hnote, rfl⟩ | ⟨n, hnote, hnew, rfl⟩ := hnote <;> rw [hnote]
  · simp [candidatesFrom]
  · simp [candidatesFrom, hnew]

/-- With a note that names a new band, the claim is the candidate on that band with the note's base. -/
theorem resolveClaim_named {tailSeq nextSeq df : Nat} {n : CommitNote} (cs : List Candidate) {ph : Nat}
    (hdf : df ≤ n.snapSeq) (hnew : n.newBand = some ph) :
    resolveClaim tailSeq nextSeq df (some n) cs =
      { winner := (candidatesFrom nextSeq n.snapSeq cs).find? fun c => c.p == ph && c.base == n.snapSeq
        faulted := ((candidatesFrom nextSeq n.snapSeq cs).find? fun c => c.p == ph && c.base == n.snapSeq).isNone
        floor := n.snapSeq
        losers := cs.filter fun c =>
          ((candidatesFrom nextSeq n.snapSeq cs).find? fun c => c.p == ph && c.base == n.snapSeq) != some c } := by
  unfold resolveClaim
  simp [Option.filter_some, hdf, hnew, candidatesFrom]

end Sys2Proof.Machine

namespace Sys2Proof
open Sys2Proof.Machine

/-- Settles O54, by the order of rule 3: the claim is `ruleThree` over the candidates above the floor, or the one candidate that
the note names. -/
theorem claimsFollowTheLog : Obligations.ClaimsFollowTheLog := by
  intro tailSeq nextSeq df cs claim byBase
  have hbyBase : ∀ (note : Option CommitNote) (floor : Nat),
      ((note.filter fun n => decide (df ≤ n.snapSeq)) = none ∧ df = floor ∨
        ∃ n, (note.filter fun n => decide (df ≤ n.snapSeq)) = some n ∧ n.newBand = none ∧ max df n.snapSeq = floor) →
      byBase floor (claim note) := by
    intro note floor hnote
    show byBase floor (resolveClaim tailSeq nextSeq df note cs)
    rw [resolveClaim_byBase cs hnote]
    refine ⟨rfl, rfl, ?none, mem_losers, fun w hw => ?some⟩
    case none =>
      refine ruleThree_eq_none.trans (List.eq_nil_iff_forall_not_mem.trans (forall_congr' fun x => ?_))
      rw [mem_unmarked_candidatesFrom, not_and]
      exact Iff.rfl
    case some =>
      obtain ⟨hmem, hold, hnew⟩ := ruleThree_best hw
      simp only [mem_unmarked_candidatesFrom] at hmem hold hnew
      refine ⟨hmem.1, hmem.2, fun ⟨x, hx, hel, hlow⟩ => ?_, fun hall x hx hel => ?_⟩
      · obtain ⟨hlow, hbest⟩ := hold ⟨x, ⟨hx, hel⟩, hlow⟩
        refine ⟨hlow, fun y hy hel' hlow' => (hbest y ⟨hy, hel'⟩ hlow').imp (fun h => by simpa using h) fun h => ⟨h.1.symm, h.2⟩⟩
      · exact (hnew (fun y hy => hall y hy.1 hy.2) x ⟨hx, hel⟩).imp (fun h => by simpa using h) id
  refine ⟨hbyBase none df (.inl ⟨rfl, rfl⟩), fun n => ⟨fun hbelow => ?below, fun hdf hnew => ?unnamed, fun ph hdf hnext hnew => ?named⟩⟩
  case below =>
    show resolveClaim tailSeq nextSeq df (some n) cs = resolveClaim tailSeq nextSeq df none cs
    unfold resolveClaim
    rw [Option.filter_some, if_neg (by simpa using hbelow)]
    rfl
  case unnamed =>
    exact hbyBase (some n) _ (.inr ⟨n, by simp [Option.filter_some, hdf], hnew, max_eq_right hdf⟩)
  case named =>
    intro c
    rw [show c = _ from resolveClaim_named cs hdf hnew]
    refine ⟨rfl, Option.isNone_iff_eq_none, ?_, mem_losers, fun w hw => ?_⟩
    · rw [List.find?_eq_none]
      constructor
      · rintro h x hx ⟨hp, hbase⟩
        refine h x (List.mem_filter.mpr ⟨hx, ?_⟩) ?_ <;> simp [hp, hbase, hnext]
      · intro h x hx hsame
        exact h x (List.mem_of_mem_filter hx) (by simpa using hsame)
    · have hmem := List.mem_of_find?_eq_some hw
      have hsame := List.find?_some hw
      exact ⟨List.mem_of_mem_filter hmem, by simpa using hsame⟩

end Sys2Proof
end

section

/-! ## Pieces, the segments of a READ and the chain of a merge

`Tiles len P` says of a list that its elements follow one another from one offset to another, and `P` of each at its offset. The
segments of a READ and the steps of a chain are built in the same way, from gaps and extents in turn, so both are shown to tile
their range; the facts about the `i`-th element follow once for both. -/

namespace Sys2Proof.Machine

/-- The elements of a list follow one another from `x` to `stop`, each at least one long and with `P` at its offset. -/
def Tiles {α : Type} (len : α → Nat) (P : Nat → α → Prop) : Nat → Nat → List α → Prop
  | x, stop, [] => x = stop
  | x, stop, s :: ss => (1 ≤ len s ∧ P x s) ∧ Tiles len P (x + len s) stop ss

section
variable {α : Type} {len : α → Nat} {P : Nat → α → Prop}

theorem Tiles.le {x stop : Nat} {ss : List α} (h : Tiles len P x stop ss) : x ≤ stop := by
  induction ss generalizing x with
  | nil => exact le_of_eq h
  | cons s ss ih => exact le_trans (Nat.le_add_right ..) (ih h.2)

theorem Tiles.append {x y stop : Nat} {ss ts : List α} (h : Tiles len P x y ss) (h' : Tiles len P y stop ts) :
    Tiles len P x stop (ss ++ ts) := by
  induction ss generalizing x with
  | nil => obtain rfl : x = y := h; exact h'
  | cons s ss ih => exact ⟨h.1, ih h.2⟩

theorem Tiles.singleton {x : Nat} {s : α} (hlen : 1 ≤ len s) (hs : P x s) : Tiles len P x (x + len s) [s] :=
  ⟨⟨hlen, hs⟩, rfl⟩

theorem Tiles.sum {x stop : Nat} {ss : List α} (h : Tiles len P x stop ss) : (ss.map len).sum = stop - x := by
  induction ss generalizing x with
  | nil => obtain rfl : x = stop := h; simp
  | cons s ss ih =>
    have hle := h.2.le
    rw [List.map_cons, List.sum_cons, ih h.2]
    omega

theorem Tiles.at {x stop : Nat} {ss : List α} (h : Tiles len P x stop ss) {i : Nat} {s : α} (hi : ss[i]? = some s) :
    P (x + ((ss.take i).map len).sum) s ∧ 1 ≤ len s ∧ x + ((ss.take i).map len).sum + len s ≤ stop := by
  induction ss generalizing x i with
  | nil => simp at hi
  | cons t ss ih =>
    cases i with
    | zero => obtain rfl : t = s := by simpa using hi
              exact ⟨by simpa using h.1.2, h.1.1, by simpa using h.2.le⟩
    | succ i =>
      have := ih h.2 (by simpa using hi)
      simpa [Nat.add_assoc] using this

end

/-! ### Pieces -/

/-- The pieces from offset `o` of band `l`: their sum, their number, and each at its place, where the fuel suffices. -/
theorem piecesFrom_spec {d : Nat} {fuel l o count : Nat} (ho : o < d) (hfuel : o + count ≤ fuel * d) :
    ((piecesFrom d fuel l o count).map (·.2.2)).sum = count ∧
    (1 ≤ count → (piecesFrom d fuel l o count).length = (o + count + d - 1) / d) ∧
    ∀ k l' o' n, (piecesFrom d fuel l o count)[k]? = some (l', o', n) →
      let before := (((piecesFrom d fuel l o count).take k).map (·.2.2)).sum
      l' = l + k ∧ o' = (if k = 0 then o else 0) ∧ n = min (count - before) (d - o') ∧ 1 ≤ n ∧
        l' * d + o' = l * d + o + before := by
  induction fuel generalizing l o count with
  | zero =>
    obtain ⟨rfl, rfl⟩ : o = 0 ∧ count = 0 := by omega
    simp [piecesFrom]
  | succ fuel ih =>
    rw [piecesFrom]
    split
    next hnone => subst hnone; simp
    next hsome =>
      have hrest : 0 + (count - min count (d - o)) ≤ fuel * d := by
        rw [Nat.succ_mul] at hfuel; omega
      obtain ⟨hsum, hlength, hat⟩ := ih (l := l + 1) (by omega) hrest
      refine ⟨by simp only [List.map_cons, List.sum_cons, hsum]; omega, fun _ => ?_, fun k l' o' n hk => ?_⟩
      · rw [List.length_cons]
        by_cases hlast : count ≤ d - o
        · rw [show min count (d - o) = count by omega, Nat.sub_self]
          cases fuel <;> simp only [piecesFrom, if_true, List.length_nil] <;>
            exact (Nat.div_eq_of_lt_le (by omega) (by omega)).symm
        · rw [hlength (by omega), show o + count + d - 1 = 0 + (count - min count (d - o)) + d - 1 + d by omega,
            Nat.add_div_right _ (by omega)]
      · cases k with
        | zero =>
          obtain ⟨rfl, rfl, rfl⟩ : l = l' ∧ o = o' ∧ min count (d - o) = n := by simpa using hk
          simp
          omega
        | succ k =>
          obtain ⟨hl, ho', hn, hone, hplace⟩ := hat k l' o' n (by simpa using hk)
          have ho' : o' = 0 := by rw [ho']; split <;> rfl
          subst hl ho'
          simp only [List.take_succ_cons, List.map_cons, List.sum_cons]
          have hle : d - o ≤ count := by
            by_contra hlt
            rw [show count - min count (d - o) = 0 by omega] at hn
            omega
          rw [Nat.succ_mul] at hplace
          refine ⟨by omega, by simp, by omega, hone, ?_⟩
          omega

/-! ### Gaps and extents -/

/-- Offsets [a, a + n) of a band whose first logical block is `base` meet no extent. -/
def Clear (base : Nat) (es : List Extent) (a n : Nat) : Prop := ∀ e ∈ es, e.stop ≤ base + a ∨ base + a + n ≤ e.start

/-- They lie within one. -/
def Extent.Holds (base : Nat) (e : Extent) (a n : Nat) : Prop := e.start ≤ base + a ∧ base + a + n ≤ e.stop

/-- What R19 gives a READ's segment at offset `a`. -/
def Seg.Sourced (g : Layout) (b : LBand) (base : Nat) (es : List Extent) (a : Nat) (s : Seg) : Prop :=
  match s.kind with
  | .log => ∃ e ∈ es, e.kind = .data ∧ e.Holds base a s.n ∧ s.pin = some (.record e.seq) ∧
      s.abs = 8 + (e.lp + (base + a - e.start))
  | .band => Clear base es a s.n ∧ a + s.n ≤ b.f ∧ ∃ ph, b.phys = some ph ∧ s.pin = some (.band ph) ∧
      s.abs = g.conv + ph * g.bandBlocks + 1 + a
  | .zero => (∃ e ∈ es, e.kind = .zero ∧ e.Holds base a s.n) ∧ s.pin = none ∧ s.data = List.replicate s.n []
  | .beyondFill => Clear base es a s.n ∧ (b.phys = none ∨ b.f ≤ a) ∧ s.pin = none ∧
      s.data = List.replicate s.n []

theorem Clear.sub {base : Nat} {es : List Extent} {x y a n : Nat} (h : Clear base es x (y - x)) (hx : x ≤ a)
    (hy : a + n ≤ y) : Clear base es a n := fun e he => by
  have := h e he
  omega

theorem Tiles.one {α : Type} {len : α → Nat} {P : Nat → α → Prop} {x y : Nat} {s : α} (hlen : len s = y - x) (hxy : x < y)
    (hs : P x s) : Tiles len P x y [s] := by
  have htile := Tiles.singleton (len := len) (P := P) (x := x) (s := s) (by omega) hs
  rwa [show x + len s = y by omega] at htile

theorem gapSegs_tiles (g : Layout) (b : LBand) {base : Nat} {es : List Extent} {x y : Nat} (hxy : x ≤ y)
    (hclear : x < y → Clear base es x (y - x)) : Tiles Seg.n (Seg.Sourced g b base es) x y (gapSegs g b x y) := by
  unfold gapSegs
  cases hph : b.phys with
  | none =>
    dsimp only
    split
    next hlt => exact Tiles.one rfl hlt ⟨hclear hlt, .inl hph, rfl, rfl⟩
    next hge => exact le_antisymm hxy (by omega)
  | some ph =>
    refine Tiles.append (y := max x (min y b.f)) ?_ ?_
    · split
      next hlt =>
        refine Tiles.one (show min y b.f - x = _ by omega) (by omega)
          ⟨(hclear (by omega)).sub le_rfl (show x + (min y b.f - x) ≤ y by omega), (show x + (min y b.f - x) ≤ b.f by omega),
            ph, hph, rfl, rfl⟩
      next hge => exact (show x = _ by omega)
    · split
      next hlt =>
        rw [show max x (min y b.f) = max x b.f by omega]
        exact Tiles.one rfl hlt ⟨(hclear (by omega)).sub (le_max_left ..) (show max x b.f + (y - max x b.f) ≤ y by omega),
          .inr (le_max_right ..), rfl, rfl⟩
      next hge => exact (show _ = y by omega)

theorem extentSeg_sourced (g : Layout) (b : LBand) {base : Nat} {es : List Extent} {e : Extent} {a y : Nat} (he : e ∈ es)
    (hin : e.Holds base a (y - a)) : (extentSeg e base a y).Sourced g b base es a := by
  unfold extentSeg
  cases hk : e.kind with
  | data => exact ⟨e, he, hk, hin, rfl, rfl⟩
  | zero => exact ⟨⟨e, he, hk, hin⟩, rfl, rfl⟩

@[simp] theorem extentSeg_n (e : Extent) (base a y : Nat) : (extentSeg e base a y).n = y - a := by
  unfold extentSeg; split <;> rfl

/-- What the segments of a READ and the steps of a chain keep over the extents: `all` holds those yet to come, and those that end
at or before offset `x`; at the end nothing is left. -/
structure Passing (base stop : Nat) (all : List Extent) (x : Nat) (es : List Extent) : Prop where
  le : x ≤ stop
  passed : x < stop → ∀ e ∈ all, e ∈ es ∨ e.stop ≤ base + x
  mem : ∀ e ∈ es, e ∈ all
  ordered : es.Pairwise fun a b => a.stop ≤ b.start
  filled : ∀ e ∈ es, 1 ≤ e.len

theorem Passing.start {base stop x : Nat} {es : List Extent} (hx : x < stop)
    (hord : es.Pairwise fun a b => a.stop ≤ b.start) (hlen : ∀ e ∈ es, 1 ≤ e.len) : Passing base stop es x es :=
  ⟨hx.le, fun _ _ he => .inl he, fun _ he => he, hord, hlen⟩

/-- Past the first extent, at its end or at the end of the range. -/
theorem Passing.next {base stop : Nat} {all : List Extent} {x : Nat} {e : Extent} {es : List Extent}
    (h : Passing base stop all x (e :: es)) (hend : base + x < e.stop) :
    Passing base stop all (min (e.stop - base) stop) es where
  le := min_le_right ..
  passed := fun hlt e' he' => by
    obtain he' | he' := h.passed (by omega) e' he'
    · obtain rfl | he' := List.mem_cons.mp he'
      · right; omega
      · exact .inl he'
    · right; omega
  mem := fun e' he' => h.mem e' (List.mem_cons_of_mem _ he')
  ordered := (List.pairwise_cons.mp h.ordered).2
  filled := fun e' he' => h.filled e' (List.mem_cons_of_mem _ he')

/-- Between `x` and the first extent nothing lies. -/
theorem Passing.clear {base stop : Nat} {all : List Extent} {x : Nat} {es : List Extent} (h : Passing base stop all x es)
    {y : Nat} (hy : y ≤ stop) (hbefore : ∀ e ∈ es.head?, base + y ≤ e.start) (hxy : x < y) : Clear base all x (y - x) := by
  intro e he
  refine (h.passed (by omega) e he).elim (fun he => .inr ?_) .inl
  cases es with
  | nil => exact absurd he List.not_mem_nil
  | cons e' es =>
    have hfirst := hbefore e' rfl
    have hlen := h.filled e' (List.mem_cons_self ..)
    obtain rfl | he := List.mem_cons.mp he
    · omega
    · have := (List.pairwise_cons.mp h.ordered).1 e he
      have : e'.stop = e'.start + e'.len := rfl
      omega

theorem segsFrom_tiles (g : Layout) (b : LBand) {base stop : Nat} {all : List Extent} {x : Nat} {es : List Extent}
    (h : Passing base stop all x es) (hx : ∀ e ∈ es, x < stop)
    (hmeet : ∀ e ∈ es, base + x < e.stop ∧ e.start < base + stop) :
    Tiles Seg.n (Seg.Sourced g b base all) x stop (segsFrom g b base stop x es) := by
  induction es generalizing x with
  | nil => exact gapSegs_tiles g b h.le (h.clear le_rfl (fun _ he => absurd he (by simp)))
  | cons e es ih =>
    have hx := hx e (List.mem_cons_self ..)
    have hfirst := (List.pairwise_cons.mp h.ordered).1
    obtain ⟨hbelow, habove⟩ := hmeet e (List.mem_cons_self ..)
    have hstop : e.stop = e.start + e.len := rfl
    have hpos := h.filled e (List.mem_cons_self ..)
    have hgap : Tiles Seg.n (Seg.Sourced g b base all) x (max x (e.start - base))
        (gapSegs g b x (max x (e.start - base))) := by
      refine gapSegs_tiles g b (le_max_left ..) fun hlt => h.clear (by omega) (fun e' he' => ?_) hlt
      obtain rfl : e = e' := Option.some.inj he'
      omega
    refine hgap.append ⟨⟨?_, extentSeg_sourced g b (h.mem e (List.mem_cons_self ..)) ?_⟩, ?_⟩
    · rw [extentSeg_n]; omega
    · unfold Extent.Holds; omega
    · rw [extentSeg_n, show max x (e.start - base) + (min (e.stop - base) stop - max x (e.start - base)) =
        min (e.stop - base) stop by omega]
      have hlater : ∀ e' ∈ es, base + min (e.stop - base) stop < e'.stop ∧ e'.start < base + stop := fun e' he' => by
        have hafter := hfirst e' he'
        have hmeet' := hmeet e' (List.mem_cons_of_mem _ he')
        have hlen' := h.filled e' (List.mem_cons_of_mem _ he')
        have hstop' : e'.stop = e'.start + e'.len := rfl
        omega
      refine ih (h.next hbelow) (fun e' he' => ?_) hlater
      have hafter := hfirst e' he'
      have hmeet' := (hmeet e' (List.mem_cons_of_mem _ he')).2
      omega

/-! ### The chain of a merge -/

/-- What R95 gives a move step at offset `a`. -/
def MoveStep.Sourced (base fill : Nat) (es : List Extent) (a : Nat) (m : MoveStep) : Prop :=
  m.off = a ∧
  match m.src with
  | .log lp seq => ∃ e ∈ es, e.kind = .data ∧ e.Holds base m.off m.n ∧ e.seq = seq ∧ lp = e.lp + (base + m.off - e.start)
  | .oldBand => Clear base es m.off m.n ∧ m.off + m.n ≤ fill
  | .zero => (∃ e ∈ es, e.kind = .zero ∧ e.Holds base m.off m.n) ∨ Clear base es m.off m.n ∧ fill ≤ m.off

theorem gapSteps_tiles (fill : Nat) {base : Nat} {es : List Extent} {x y : Nat} (hxy : x ≤ y)
    (hclear : x < y → Clear base es x (y - x)) :
    Tiles MoveStep.n (MoveStep.Sourced base fill es) x y (gapSteps fill x y) := by
  unfold gapSteps
  refine Tiles.append (y := max x (min y fill)) ?_ ?_
  · split
    next hlt =>
      exact Tiles.one (show min y fill - x = _ by omega) (by omega)
        ⟨rfl, (hclear (by omega)).sub le_rfl (show x + (min y fill - x) ≤ y by omega),
          (show x + (min y fill - x) ≤ fill by omega)⟩
    next hge => exact (show x = _ by omega)
  · split
    next hlt =>
      rw [show max x (min y fill) = max x fill by omega]
      exact Tiles.one rfl hlt ⟨rfl, .inr ⟨(hclear (by omega)).sub (le_max_left ..)
        (show max x fill + (y - max x fill) ≤ y by omega), le_max_right ..⟩⟩
    next hge => exact (show _ = y by omega)

theorem extentStep_sourced (fill : Nat) {base : Nat} {es : List Extent} {e : Extent} {a y : Nat} (he : e ∈ es)
    (hstart : e.start = base + a) (hin : e.Holds base a (y - a)) :
    (extentStep e a y).Sourced base fill es a := by
  unfold extentStep
  refine ⟨rfl, ?_⟩
  cases hk : e.kind with
  | data => exact ⟨e, he, hk, hin, rfl, by simp [hstart]⟩
  | zero => exact .inl ⟨e, he, hk, hin⟩

theorem chainFrom_tiles {base fill stop : Nat} {all : List Extent} {x : Nat} {es : List Extent}
    (h : Passing base stop all x es) (hmeet : ∀ e ∈ es, base + x ≤ e.start) :
    Tiles MoveStep.n (MoveStep.Sourced base fill all) x stop (chainFrom base fill stop x es) := by
  induction es generalizing x with
  | nil => exact gapSteps_tiles fill h.le (h.clear le_rfl (fun _ he => absurd he (by simp)))
  | cons e es ih =>
    have hbelow := hmeet e (List.mem_cons_self ..)
    have hstop : e.stop = e.start + e.len := rfl
    have hpos := h.filled e (List.mem_cons_self ..)
    have hclear : ∀ y, y ≤ stop → base + y ≤ e.start → x < y → Clear base all x (y - x) := fun y hy hend =>
      h.clear hy fun e' he' => by
        obtain rfl : e = e' := Option.some.inj he'
        exact hend
    rw [chainFrom]
    dsimp only
    split
    next hpast => exact gapSteps_tiles fill h.le (hclear stop le_rfl (by omega))
    next hwithin =>
      refine (gapSteps_tiles fill (by omega) (hclear _ (by omega) (by omega))).append
        ⟨⟨show 1 ≤ min (e.stop - base) stop - (e.start - base) by omega,
          extentStep_sourced fill (h.mem e (List.mem_cons_self ..)) (by omega) (by unfold Extent.Holds; omega)⟩, ?_⟩
      rw [show (e.start - base) + (extentStep e (e.start - base) (min (e.stop - base) stop)).n = min (e.stop - base) stop from
        (show (e.start - base) + (min (e.stop - base) stop - (e.start - base)) = _ by omega)]
      refine ih (h.next (by omega)) fun e' he' => ?_
      have := (List.pairwise_cons.mp h.ordered).1 e' he'
      omega

end Sys2Proof.Machine

namespace Sys2Proof
open Sys2Proof.Machine

/-- Settles O53, by induction over the fuel of the pieces, and over the extents of a READ's piece and of a chain: each gap and
each extent tiles its offsets, and so does the whole. -/
theorem segmentsAndChainsCoverEveryOffset : Obligations.SegmentsAndChainsCoverEveryOffset := by
  refine ⟨fun d lba count hd => ?pieces, ?covers⟩
  case pieces =>
    have hfuel : lba % d + count ≤ (count / d + 2) * d := by
      have := Nat.mod_lt lba hd
      have := Nat.lt_div_mul_add hd (a := count)
      rw [Nat.add_mul]
      omega
    obtain ⟨hsum, hlength, hat⟩ := piecesFrom_spec (l := lba / d) (Nat.mod_lt lba hd) hfuel
    refine ⟨hsum, hlength, fun k l o n hk => ?_⟩
    obtain ⟨hl, ho, hn, hone, hplace⟩ := hat k l o n hk
    refine ⟨hl, ho, hn, hone, ?_⟩
    rw [hplace, Nat.div_add_mod']
    rfl
  case covers =>
    intro base x stop es hx hord hlen clear within
    refine ⟨?segs, ?chain⟩
    case segs =>
      intro g b hmeet segs
      have htiles := segsFrom_tiles g b (Passing.start (base := base) hx hord hlen) (fun _ _ => hx) hmeet
      refine ⟨htiles.sum, fun i s hi => ?_⟩
      obtain ⟨hsource, hone, hend⟩ := htiles.at hi
      exact ⟨hone, hend, hsource⟩
    case chain =>
      intro fill hmeet chain
      have htiles := chainFrom_tiles (fill := fill) (Passing.start (base := base) hx hord hlen) hmeet
      refine ⟨htiles.sum, fun i m hi => ?_⟩
      obtain ⟨⟨hoff, hsource⟩, hone, hend⟩ := htiles.at hi
      exact ⟨hoff, hone, hoff ▸ hend, hsource⟩

end Sys2Proof
end

section

/-! ## Frames, statuses and directive blocks read back (R199, R200)

Each layout is a chain of `++`; a field of it is found by `field_append_left`, `field_append_right` and the like, and read back by
`field_le`. -/

namespace Sys2Proof.Machine

/-- A field of `w` bytes that a number of `8 * w` bits was written to. -/
theorem fieldBV_of_field {b : Block} {off w : Nat} {x : BitVec (8 * w)} (h : field b off w = x.toNat) : fieldBV b off w = x := by
  rw [fieldBV, h, BitVec.ofNat_toNat, BitVec.setWidth_eq]

theorem toNat_lt_pow (w : Nat) (x : BitVec (8 * w)) : x.toNat < 256 ^ w := by
  rw [show (256 : Nat) = 2 ^ 8 from rfl, ← Nat.pow_mul]
  exact x.isLt

theorem field_le_toNat (w : Nat) (x : BitVec (8 * w)) : field (le w x.toNat) 0 w = x.toNat := field_le (toNat_lt_pow w x)

/-! ### Frames and statuses -/

theorem tagOf_ofNat (t : Fin 32) : tagOf (BitVec.ofNat 8 t.val) = some t := by
  have := t.isLt
  have hval : (BitVec.ofNat 8 t.val).toNat = t.val := by rw [BitVec.toNat_ofNat]; omega
  simp [tagOf, hval]

section Frame

variable (t : Fin 32) (cls dir opcode : Byte) (lba : BitVec 64) (count : BitVec 32) (params : List Byte)

theorem frameBytes_length : (frameBytes t cls dir opcode lba count params).length = 32 := by simp [frameBytes]

theorem frameBytes_tag : tagOf (byteAt (frameBytes t cls dir opcode lba count params) 0) = some t := tagOf_ofNat t

theorem frameBytes_cls : byteAt (frameBytes t cls dir opcode lba count params) 1 = cls := rfl

theorem frameBytes_dir : byteAt (frameBytes t cls dir opcode lba count params) 2 = dir := rfl

theorem frameBytes_opcode : byteAt (frameBytes t cls dir opcode lba count params) 3 = opcode := rfl

theorem frameBytes_lba : fieldBV (frameBytes t cls dir opcode lba count params) 4 8 = lba := by
  refine fieldBV_of_field (w := 8) ?_
  simp [frameBytes, field_append_left, field_cons, field_le_toNat 8 lba]

theorem frameBytes_count : fieldBV (frameBytes t cls dir opcode lba count params) 12 4 = count := by
  refine fieldBV_of_field (w := 4) ?_
  simp [frameBytes, field_append_left, field_append_right, field_cons, field_le_toNat 4 count]

theorem frameBytes_params (h : params.length = 16) : bytesAt (frameBytes t cls dir opcode lba count params) 16 16 = params := by
  rw [frameBytes, bytesAt_append_right (by simp), fit_of_length _ _ _ h]
  exact bytesAt_whole h.symm

end Frame

/-- The frame of a command reads back as the command (R127, R199). -/
theorem decodeFrame_encodeFrame {i : Instr} {f : List Byte} (hwf : wellFormed i = true) (h : encodeFrame i = some f) :
    f.length = 32 ∧ decodeFrame f = some i := by
  unfold encodeFrame at h
  split at h
  case h_8 => exact nomatch h
  case h_6 t opcode params dir count =>
    obtain rfl := Option.some.inj h
    have hparams : params.length = 16 := beq_iff_eq.mp hwf
    simp only [frameBytes_length, decodeFrame, frameBytes_tag, frameBytes_cls, frameBytes_dir, frameBytes_opcode,
      frameBytes_count, frameBytes_params _ _ _ _ _ _ _ hparams, true_and]
    rfl
  case h_7 t cls =>
    obtain rfl := Option.some.inj h
    have hcls : clsOf cls = none := Option.isNone_iff_eq_none.mp hwf
    simp only [frameBytes_length, decodeFrame, frameBytes_tag, frameBytes_cls, hcls, true_and]
  all_goals
    obtain rfl := Option.some.inj h
    simp only [frameBytes_length, decodeFrame, frameBytes_tag, frameBytes_cls, frameBytes_lba, frameBytes_count, true_and]
    rfl

theorem codeOf_codeNum (c : Code) : codeOf (BitVec.ofNat 8 (codeNum c)) = some c := by cases c <;> rfl

theorem readStatus_statusBytes (tag : Fin 32) (c : Code) : readStatus (statusBytes tag c) = some (tag.val, c) := by
  have htag : tagOf (byteAt (statusBytes tag c) 0) = some tag := tagOf_ofNat tag
  have hcode : codeOf (byteAt (statusBytes tag c) 1) = some c := codeOf_codeNum c
  simp only [readStatus, htag, hcode]

/-! ### Directive blocks -/

/-- A directive block ahead of its parameters. -/
def directiveStart (num : BitVec 32) (d : Directive) : List Byte := le 4 num.toNat ++ [d.code] ++ zeros 3

theorem directiveStart_length (num : BitVec 32) (d : Directive) : (directiveStart num d).length = 8 := by
  simp [directiveStart]

/-- The parameters of a directive fit the block, an ANSWER's where its reply is at most the room there is. -/
theorem directiveParams_length {d : Directive}
    (hreply : ∀ id a c len reply, d = .answer id a c len reply → reply.length = min len.toNat 4080) :
    (directiveParams d).length ≤ 4088 := by
  cases d with
  | answer id a c len reply =>
    have := hreply _ _ _ _ _ rfl
    simp [directiveParams]
    omega
  | _ => simp [directiveParams]

section Directive

variable (num : BitVec 32) {d : Directive}

theorem byteAt_encodeDirective (h : (directiveParams d).length ≤ 4088) (i : Nat) :
    byteAt (encodeDirective num d) i = byteAt (directiveStart num d ++ directiveParams d) i :=
  byteAt_toBlock _ i (by rw [← directiveStart, List.length_append, directiveStart_length]; exact (show _ ≤ 4096 by omega))

theorem bytesAt_encodeDirective (h : (directiveParams d).length ≤ 4088) (off w : Nat) :
    bytesAt (encodeDirective num d) off w = bytesAt (directiveStart num d ++ directiveParams d) off w :=
  List.map_congr_left fun _ _ => byteAt_encodeDirective num h _

theorem directiveNum_encodeDirective (h : (directiveParams d).length ≤ 4088) : directiveNum (encodeDirective num d) = num := by
  refine fieldBV_of_field (w := 4) ?_
  rw [field, bytesAt_encodeDirective num h, ← field]
  simp [directiveStart, field_append_left, field_le_toNat 4 num]

theorem byteAt_code (h : (directiveParams d).length ≤ 4088) : byteAt (encodeDirective num d) 4 = d.code := by
  rw [byteAt_encodeDirective num h]
  simp [directiveStart, byteAt_append_right]

theorem byteAt_param (h : (directiveParams d).length ≤ 4088) {i : Nat} (hi : 8 ≤ i) :
    byteAt (encodeDirective num d) i = byteAt (directiveParams d) (i - 8) := by
  rw [byteAt_encodeDirective num h, byteAt_append_right (by rwa [directiveStart_length]), directiveStart_length]

theorem bytesAt_param (h : (directiveParams d).length ≤ 4088) {off : Nat} (ho : 8 ≤ off) (w : Nat) :
    bytesAt (encodeDirective num d) off w = bytesAt (directiveParams d) (off - 8) w := by
  rw [bytesAt_encodeDirective num h, bytesAt_append_right (by rwa [directiveStart_length]), directiveStart_length]

theorem field_param (h : (directiveParams d).length ≤ 4088) {off : Nat} (ho : 8 ≤ off) (w : Nat) :
    field (encodeDirective num d) off w = field (directiveParams d) (off - 8) w := congrArg leNat (bytesAt_param num h ho w)

end Directive

theorem decodeDirective_unknown {b : Block} (h : byteAt b 4 = 0 ∨ 13 < (byteAt b 4).toNat) :
    decodeDirective b = .unknown (byteAt b 4) := by
  have h : (byteAt b 4).toNat = 0 ∨ 13 < (byteAt b 4).toNat := h.imp_left fun h => by rw [h]; rfl
  unfold decodeDirective
  split
  case h_14 => rfl
  all_goals omega

theorem decodeDirective_encodeDirective (num : BitVec 32) {d : Directive}
    (hunknown : ∀ c, d = .unknown c → c = 0 ∨ 13 < c.toNat)
    (hreply : ∀ id a c len reply, d = .answer id a c len reply → reply.length = min len.toNat 4080) :
    decodeDirective (encodeDirective num d) = d := by
  have hlen := directiveParams_length hreply
  have hcode := byteAt_code num hlen
  cases d with
  | unknown c =>
    rw [decodeDirective_unknown (by rw [hcode]; exact hunknown c rfl), hcode]
    rfl
  | clearFlags => unfold decodeDirective; rw [hcode]; rfl
  | drain => unfold decodeDirective; rw [hcode]; rfl
  | stop => unfold decodeDirective; rw [hcode]; rfl
  | restart => unfold decodeDirective; rw [hcode]; rfl
  | setPolicy l h x g p b c t =>
    have hgap : fieldBV (encodeDirective num (.setPolicy l h x g p b c t)) 11 2 = g := by
      refine fieldBV_of_field (w := 2) ((field_param num hlen (by decide) 2).trans ?_)
      simp [directiveParams, field_append_left, field_cons, field_le_toNat 2 g]
    have hburst : fieldBV (encodeDirective num (.setPolicy l h x g p b c t)) 14 2 = b := by
      refine fieldBV_of_field (w := 2) ((field_param num hlen (by decide) 2).trans ?_)
      simp [directiveParams, field_append_left, field_append_right, field_cons, field_le_toNat 2 b]
    unfold decodeDirective
    rw [hcode]
    show Directive.setPolicy (byteAt _ 8) (byteAt _ 9) (byteAt _ 10) (fieldBV _ 11 2) (byteAt _ 13) (fieldBV _ 14 2)
      (byteAt _ 16) (byteAt _ 17) = _
    rw [hgap, hburst]
    simp [byteAt_param num hlen]
    exact ⟨rfl, rfl, rfl, rfl, rfl, rfl⟩
  | setDisposition c d =>
    unfold decodeDirective
    rw [hcode]
    show Directive.setDisposition (byteAt _ 8) (byteAt _ 9) = _
    simp [byteAt_param num hlen]
    exact ⟨rfl, rfl⟩
  | setRange i m f s l =>
    have hstart : fieldBV (encodeDirective num (.setRange i m f s l)) 16 8 = s := by
      refine fieldBV_of_field (w := 8) ((field_param num hlen (by decide) 8).trans ?_)
      simp [directiveParams, field_append_left, field_append_right, field_cons, field_le_toNat 8 s]
    have hlength : fieldBV (encodeDirective num (.setRange i m f s l)) 24 8 = l := by
      refine fieldBV_of_field (w := 8) ((field_param num hlen (by decide) 8).trans ?_)
      simp [directiveParams, field_append_right, field_cons, field_le_toNat 8 l]
    unfold decodeDirective
    rw [hcode]
    show Directive.setRange (byteAt _ 8) (byteAt _ 9) (byteAt _ 10) (fieldBV _ 16 8) (fieldBV _ 24 8) = _
    rw [hstart, hlength]
    simp [byteAt_param num hlen]
    exact ⟨rfl, rfl, rfl⟩
  | setAlerts m =>
    unfold decodeDirective
    rw [hcode]
    exact congrArg Directive.setAlerts (byteAt_param num hlen (by decide))
  | ackAlerts m =>
    unfold decodeDirective
    rw [hcode]
    exact congrArg Directive.ackAlerts (byteAt_param num hlen (by decide))
  | clean l =>
    unfold decodeDirective
    rw [hcode]
    refine congrArg Directive.clean (fieldBV_of_field (w := 4) ((field_param num hlen (by decide) 4).trans ?_))
    exact field_le_toNat 4 l
  | query a =>
    unfold decodeDirective
    rw [hcode]
    refine congrArg Directive.query (fieldBV_of_field (w := 8) ((field_param num hlen (by decide) 8).trans ?_))
    exact field_le_toNat 8 a
  | format s r l =>
    have hsize : fieldBV (encodeDirective num (.format s r l)) 8 4 = s := by
      refine fieldBV_of_field (w := 4) ((field_param num hlen (by decide) 4).trans ?_)
      simp [directiveParams, field_append_left, field_le_toNat 4 s]
    have hspares : fieldBV (encodeDirective num (.format s r l)) 12 2 = r := by
      refine fieldBV_of_field (w := 2) ((field_param num hlen (by decide) 2).trans ?_)
      simp [directiveParams, field_append_left, field_append_right, field_le_toNat 2 r]
    have hlog : fieldBV (encodeDirective num (.format s r l)) 16 4 = l := by
      refine fieldBV_of_field (w := 4) ((field_param num hlen (by decide) 4).trans ?_)
      simp [directiveParams, field_append_right, field_le_toNat 4 l]
    unfold decodeDirective
    rw [hcode]
    show Directive.format (fieldBV _ 8 4) (fieldBV _ 12 2) (fieldBV _ 16 4) = _
    rw [hsize, hspares, hlog]
  | answer id a c len reply =>
    have hid : fieldBV (encodeDirective num (.answer id a c len reply)) 8 2 = id := by
      refine fieldBV_of_field (w := 2) ((field_param num hlen (by decide) 2).trans ?_)
      simp [directiveParams, field_append_left, field_le_toNat 2 id]
    have hfield : field (encodeDirective num (.answer id a c len reply)) 12 2 = len.toNat := by
      refine (field_param num hlen (by decide) 2).trans ?_
      simp [directiveParams, field_append_left, field_append_right, field_cons, field_le_toNat 2 len]
    have hbytes : bytesAt (encodeDirective num (.answer id a c len reply)) 16 (min len.toNat (blockBytes - 16)) = reply := by
      rw [bytesAt_param num hlen (by decide), directiveParams, bytesAt_append_right (by simp)]
      exact bytesAt_whole (hreply _ _ _ _ _ rfl).symm
    unfold decodeDirective
    rw [hcode]
    show Directive.answer (fieldBV _ 8 2) (byteAt _ 10) (byteAt _ 11) (fieldBV _ 12 2)
      (bytesAt _ 16 (min (field _ 12 2) (blockBytes - 16))) = _
    rw [hfield, hbytes, hid, show fieldBV _ 12 2 = len from fieldBV_of_field (w := 2) hfield]
    simp [byteAt_param num hlen]
    exact ⟨rfl, rfl⟩

end Sys2Proof.Machine
end

section

/-! ## The anchor (R59, R198)

The anchor is its first 61 bytes, the retention entries of 18 bytes each, and the check value: each field is found in its part. -/

namespace Sys2Proof.Machine

theorem dispNum_lt (d : Disp) : dispNum d < 2 ^ 8 := by cases d <;> decide

theorem dispOf_dispNum (d : Disp) : dispOf (BitVec.ofNat 8 (dispNum d)) = some d := by cases d <;> rfl

theorem rangeOf_rangeNum (m : RangeMode) : rangeOf (BitVec.ofNat 8 (rangeNum m)) = some m := by cases m <;> rfl

theorem toNat_ofNat_of_lt {n : Nat} (h : n < 2 ^ 8) : (BitVec.ofNat 8 n).toNat = n := by
  rw [BitVec.toNat_ofNat, Nat.mod_eq_of_lt h]

@[simp] theorem sigAnchor_length : sigAnchor.length = 8 := by decide

@[simp] theorem anchorRange_length (e : RangeEntry) : (anchorRange e).length = 18 := by simp [anchorRange]

/-- The bytes of the dispositions, in the order of their classes. -/
def DispTable.bytes (t : DispTable) : List Byte :=
  [t.read, t.write, t.discard, t.flush, t.identify, t.other].map fun d => BitVec.ofNat 8 (dispNum d)

/-- The anchor ahead of its dispositions. -/
def anchorFields (a : AnchorData) : List Byte :=
  sigAnchor ++ le 4 a.layout.bandBlocks ++ le 4 a.layout.bands ++ le 2 a.layout.spares ++
  le 8 a.layout.conv ++ le 4 a.logBase ++ le 4 a.layout.logLen ++ le 4 a.tail ++ le 6 a.tailSeq ++
  le 1 a.policy.lowQ ++ le 1 a.policy.highQ ++ le 1 a.policy.hardQ ++ le 2 a.policy.gap ++
  le 1 a.policy.paceQ ++ le 2 a.policy.burst ++ le 1 a.policy.contexts ++ le 1 a.policy.timeout

/-- The anchor ahead of its retention entries. -/
def anchorStart (a : AnchorData) : List Byte := anchorFields a ++ a.disp.bytes ++ [a.enables]

theorem anchorPrefix_eq (a : AnchorData) : anchorPrefix a = anchorStart a ++ a.ranges.flatMap anchorRange := rfl

@[simp] theorem DispTable.bytes_length (t : DispTable) : t.bytes.length = 6 := rfl

@[simp] theorem anchorFields_length (a : AnchorData) : (anchorFields a).length = 54 := by simp [anchorFields]

@[simp] theorem anchorStart_length (a : AnchorData) : (anchorStart a).length = 61 := by simp [anchorStart]

/-- The bytes of the `i`-th of lists of one length, one after another. -/
theorem bytesAt_flatMap {α : Type} {f : α → List Byte} {n : Nat} (hf : ∀ x, (f x).length = n) {l : List α} {i : Nat} {x : α}
    (hx : l[i]? = some x) {off w : Nat} (h : off + w ≤ n) : bytesAt (l.flatMap f) (n * i + off) w = bytesAt (f x) off w := by
  induction l generalizing i with
  | nil => simp at hx
  | cons y l ih =>
    rw [List.flatMap_cons]
    cases i with
    | zero =>
      obtain rfl : y = x := by simpa using hx
      rw [Nat.mul_zero, Nat.zero_add, bytesAt_append_left (by rwa [hf])]
    | succ i =>
      have hoff : n * (i + 1) + off - (f y).length = n * i + off := by rw [hf, Nat.mul_succ]; omega
      rw [bytesAt_append_right (by rw [hf, Nat.mul_succ]; omega), hoff, ih (by simpa using hx)]

section Anchor

variable {a : AnchorData}

theorem anchorPrefix_length (h : a.ranges.length = 8) : (anchorPrefix a).length = 205 := by
  simp [anchorPrefix_eq, List.length_flatMap, h]

theorem anchorPrefix_fits (h : a.ranges.length = 8) : (anchorPrefix a).length + 4 ≤ blockBytes := by
  rw [anchorPrefix_length h]; decide

theorem bytesAt_anchorStart (h : a.ranges.length = 8) {off w : Nat} (hend : off + w ≤ 61) :
    bytesAt (encodeAnchor a) off w = bytesAt (anchorStart a) off w := by
  rw [encodeAnchor, bytesAt_sealed _ _ _ _ (by rw [anchorPrefix_length h]; omega) (anchorPrefix_fits h), anchorPrefix_eq,
    bytesAt_append_left (by simpa)]

theorem field_anchorStart (h : a.ranges.length = 8) {off w : Nat} (hend : off + w ≤ 61) :
    field (encodeAnchor a) off w = field (anchorStart a) off w := congrArg leNat (bytesAt_anchorStart h hend)

theorem bytesAt_anchorRange (h : a.ranges.length = 8) {i : Nat} {e : RangeEntry} (he : a.ranges[i]? = some e) {off w : Nat}
    (hend : off + w ≤ 18) : bytesAt (encodeAnchor a) (61 + 18 * i + off) w = bytesAt (anchorRange e) off w := by
  have hi : i < 8 := h ▸ (List.getElem?_eq_some_iff.mp he).1
  rw [encodeAnchor, bytesAt_sealed _ _ _ _ (by rw [anchorPrefix_length h]; omega) (anchorPrefix_fits h), anchorPrefix_eq,
    bytesAt_append_right (by simp; omega), anchorStart_length, show 61 + 18 * i + off - 61 = 18 * i + off by omega,
    bytesAt_flatMap anchorRange_length he hend]

theorem field_anchorRange (h : a.ranges.length = 8) {i : Nat} {e : RangeEntry} (he : a.ranges[i]? = some e) {off w : Nat}
    (hend : off + w ≤ 18) : field (encodeAnchor a) (61 + 18 * i + off) w = field (anchorRange e) off w :=
  congrArg leNat (bytesAt_anchorRange h he hend)

theorem byteAt_of_bytesAt {b c : Block} {off off' : Nat} (h : bytesAt b off 1 = bytesAt c off' 1) : byteAt b off = byteAt c off' := by
  simpa [bytesAt] using h

end Anchor

theorem mapM_eq_some {α β : Type} {f : α → Option β} {g : α → β} {l : List α} (h : ∀ x ∈ l, f x = some (g x)) :
    l.mapM f = some (l.map g) := by
  induction l with
  | nil => rfl
  | cons x l ih =>
    rw [List.mapM_cons, h x (List.mem_cons_self ..), ih fun y hy => h y (List.mem_cons_of_mem _ hy)]
    rfl

/-- Every field of the anchor has the width that its table gives. -/
structure AnchorData.Fits (a : AnchorData) : Prop where
  bandBlocks : a.layout.bandBlocks < 2 ^ 32
  bands : a.layout.bands < 2 ^ 32
  spares : a.layout.spares < 2 ^ 16
  conv : a.layout.conv < 2 ^ 64
  logLen : a.layout.logLen < 2 ^ 32
  logBase : a.logBase < 2 ^ 32
  tail : a.tail < 2 ^ 32
  tailSeq : a.tailSeq < 2 ^ 48
  bytes : ∀ v ∈ [a.policy.lowQ, a.policy.highQ, a.policy.hardQ, a.policy.paceQ, a.policy.contexts, a.policy.timeout], v < 2 ^ 8
  words : ∀ v ∈ [a.policy.gap, a.policy.burst], v < 2 ^ 16
  ranges : a.ranges.length = 8
  extents : ∀ e ∈ a.ranges, e.start < 2 ^ 64 ∧ e.length < 2 ^ 64

section Fields

variable {a : AnchorData} (h : a.Fits)
include h

theorem AnchorData.Fits.signature : bytesAt (encodeAnchor a) 0 8 = sigAnchor := by
  rw [bytesAt_anchorStart h.ranges (by decide)]
  simp [anchorStart, anchorFields, bytesAt_append_left, bytesAt_whole]

/-- The fields of the layout and of the log (R198). -/
theorem AnchorData.Fits.layout_fields :
    field (encodeAnchor a) 8 4 = a.layout.bandBlocks ∧ field (encodeAnchor a) 12 4 = a.layout.bands ∧
    field (encodeAnchor a) 16 2 = a.layout.spares ∧ field (encodeAnchor a) 18 8 = a.layout.conv ∧
    field (encodeAnchor a) 26 4 = a.logBase ∧ field (encodeAnchor a) 30 4 = a.layout.logLen ∧
    field (encodeAnchor a) 34 4 = a.tail ∧ field (encodeAnchor a) 38 6 = a.tailSeq := by
  refine ⟨?_, ?_, ?_, ?_, ?_, ?_, ?_, ?_⟩ <;> rw [field_anchorStart h.ranges (by decide)] <;>
    simp [anchorStart, anchorFields, field_append_left, field_append_right, field_le (w := 4) h.bandBlocks, field_le (w := 4) h.bands,
      field_le (w := 2) h.spares, field_le (w := 8) h.conv, field_le (w := 4) h.logBase, field_le (w := 4) h.logLen,
      field_le (w := 4) h.tail, field_le (w := 6) h.tailSeq]

/-- The fields of the policy (R198). -/
theorem AnchorData.Fits.policy_fields :
    field (encodeAnchor a) 44 1 = a.policy.lowQ ∧ field (encodeAnchor a) 45 1 = a.policy.highQ ∧
    field (encodeAnchor a) 46 1 = a.policy.hardQ ∧ field (encodeAnchor a) 47 2 = a.policy.gap ∧
    field (encodeAnchor a) 49 1 = a.policy.paceQ ∧ field (encodeAnchor a) 50 2 = a.policy.burst ∧
    field (encodeAnchor a) 52 1 = a.policy.contexts ∧ field (encodeAnchor a) 53 1 = a.policy.timeout := by
  have hlow := h.bytes a.policy.lowQ (by simp)
  have hhigh := h.bytes a.policy.highQ (by simp)
  have hhard := h.bytes a.policy.hardQ (by simp)
  have hpace := h.bytes a.policy.paceQ (by simp)
  have hcontexts := h.bytes a.policy.contexts (by simp)
  have htimeout := h.bytes a.policy.timeout (by simp)
  have hgap := h.words a.policy.gap (by simp)
  have hburst := h.words a.policy.burst (by simp)
  refine ⟨?_, ?_, ?_, ?_, ?_, ?_, ?_, ?_⟩ <;> rw [field_anchorStart h.ranges (by decide)] <;>
    simp [anchorStart, anchorFields, -field_one, field_append_left, field_append_right, field_le (w := 1) hlow, field_le (w := 1) hhigh,
      field_le (w := 1) hhard, field_le (w := 2) hgap, field_le (w := 1) hpace, field_le (w := 2) hburst,
      field_le (w := 1) hcontexts, field_le (w := 1) htimeout]

theorem AnchorData.Fits.disp_bytes : bytesAt (encodeAnchor a) 54 6 = a.disp.bytes := by
  rw [bytesAt_anchorStart h.ranges (by decide), anchorStart, bytesAt_append_left (by simp), bytesAt_append_right (by simp),
    anchorFields_length]
  exact bytesAt_whole rfl

theorem AnchorData.Fits.enables : byteAt (encodeAnchor a) 60 = a.enables := by
  refine byteAt_of_bytesAt (c := [a.enables]) (off' := 0) ?_
  rw [bytesAt_anchorStart h.ranges (by decide), anchorStart, bytesAt_append_right (by simp)]
  simp

/-- The bytes of the `i`-th retention entry (R198). -/
theorem AnchorData.Fits.range_fields {i : Nat} {e : RangeEntry} (he : a.ranges[i]? = some e) :
    field (encodeAnchor a) (61 + 18 * i) 8 = e.start ∧ field (encodeAnchor a) (61 + 18 * i + 8) 8 = e.length ∧
    byteAt (encodeAnchor a) (61 + 18 * i + 16) = BitVec.ofNat 8 (rangeNum e.mode) ∧
    byteAt (encodeAnchor a) (61 + 18 * i + 17) = flagByte e.fixed := by
  obtain ⟨hstart, hlength⟩ := h.extents e (List.mem_of_getElem? he)
  refine ⟨?_, ?_, ?_, ?_⟩
  · rw [show 61 + 18 * i = 61 + 18 * i + 0 from rfl, field_anchorRange h.ranges he (by decide)]
    simp [anchorRange, field_append_left, field_le (w := 8) hstart]
  · rw [field_anchorRange h.ranges he (by decide)]
    simp [anchorRange, field_append_left, field_append_right, field_le (w := 8) hlength]
  · rw [byteAt_of_bytesAt (bytesAt_anchorRange h.ranges he (off := 16) (by decide))]
    simp [anchorRange, byteAt_append_right]
  · rw [byteAt_of_bytesAt (bytesAt_anchorRange h.ranges he (off := 17) (by decide))]
    simp only [anchorRange, List.append_assoc]
    rw [byteAt_append_right (by simp), byteAt_append_right (by simp)]
    rfl

/-- The check value closes the anchor, over the bytes before it; zeros follow. -/
theorem AnchorData.Fits.check :
    field (encodeAnchor a) 205 4 = (checkValue (bytesAt (encodeAnchor a) 0 205)).toNat ∧
      ∀ k, 209 ≤ k → byteAt (encodeAnchor a) k = 0 := by
  refine ⟨?_, fun k hk => byteAt_sealed_rest [] (anchorPrefix_fits h.ranges) (by rwa [anchorPrefix_length h.ranges])⟩
  simpa [← anchorPrefix_length h.ranges, encodeAnchor] using field_sealed_check [] (anchorPrefix_fits h.ranges)

theorem AnchorData.Fits.parseDisp : parseDisp (encodeAnchor a) = some a.disp := by
  have hat : ∀ k < 6, byteAt (encodeAnchor a) (54 + k) = byteAt a.disp.bytes k := fun k hk => by
    have := congrArg (fun l => l.getD k 0) h.disp_bytes
    simpa [bytesAt, hk, byteAt] using this
  have h0 := hat 0 (by decide)
  have h1 := hat 1 (by decide)
  have h2 := hat 2 (by decide)
  have h3 := hat 3 (by decide)
  have h4 := hat 4 (by decide)
  have h5 := hat 5 (by decide)
  unfold Machine.parseDisp
  rw [h0, h1, h2, h3, h4, h5]
  simp only [DispTable.bytes, List.map_cons, byteAt, List.getD_cons_zero, List.getD_cons_succ, dispOf_dispNum]

/-- What mount reads of a retention entry: all but its activity. -/
def RangeEntry.quiet (e : RangeEntry) : RangeEntry := { e with activity := false, count := 0 }

theorem AnchorData.Fits.parseRange {i : Nat} {e : RangeEntry} (he : a.ranges[i]? = some e) :
    parseRange (encodeAnchor a) i = some e.quiet := by
  obtain ⟨hstart, hlength, hmode, hfixed⟩ := h.range_fields he
  have hflag : (flagByte e.fixed != 0) = e.fixed := by cases e.fixed <;> rfl
  simp only [Machine.parseRange, hstart, hlength, hmode, hfixed, rangeOf_rangeNum, hflag, Option.map_some]
  rfl

theorem AnchorData.Fits.parseRanges : (List.range 8).mapM (Machine.parseRange (encodeAnchor a)) =
    some (a.ranges.map RangeEntry.quiet) := by
  have hentry : ∀ i ∈ List.range 8, Machine.parseRange (encodeAnchor a) i = some (a.ranges.getD i {}).quiet := fun i hi => by
    have hi : i < a.ranges.length := h.ranges ▸ List.mem_range.mp hi
    exact h.parseRange (by rw [List.getElem?_eq_getElem hi, List.getD_eq_getElem _ _ hi])
  rw [mapM_eq_some hentry]
  refine congrArg some (List.ext_getElem (by simp [h.ranges]) fun i hi hi' => ?_)
  simp [List.getD_eq_getElem?_getD, List.getElem?_eq_getElem (show i < a.ranges.length by simpa using hi')]

theorem AnchorData.Fits.parseAnchor :
    parseAnchor (encodeAnchor a) = some { a with ranges := a.ranges.map RangeEntry.quiet } := by
  obtain ⟨hbandBlocks, hbands, hspares, hconv, hlogBase, hlogLen, htail, htailSeq⟩ := h.layout_fields
  obtain ⟨hlow, hhigh, hhard, hgap, hpace, hburst, hcontexts, htimeout⟩ := h.policy_fields
  unfold Machine.parseAnchor
  rw [h.parseDisp, h.parseRanges, hbandBlocks, hbands, hspares, hconv, hlogBase, hlogLen, htail, htailSeq, hlow, hhigh, hhard,
    hgap, hpace, hburst, hcontexts, htimeout, h.enables]

end Fields

end Sys2Proof.Machine

namespace Sys2Proof
open Sys2Proof.Machine

/-- Settles O55: a frame, a status and a directive block are read back field by field, and so is the anchor, whose parts stand one
after another. -/
theorem framesStatusesDirectivesAndAnchorsReadBack : Obligations.FramesStatusesDirectivesAndAnchorsReadBack := by
  refine ⟨fun i f hwf hf => decodeFrame_encodeFrame hwf hf, fun tag c => ⟨rfl, readStatus_statusBytes tag c⟩,
    fun num d hunknown hreply => ⟨decodeDirective_encodeDirective num hunknown hreply,
      directiveNum_encodeDirective num (directiveParams_length hreply)⟩, ?anchor⟩
  case anchor =>
    intro a g y hbandBlocks hbands hspares hconv hlogLen hlogBase htail htailSeq hbytes hwords hranges hextents b
    have h : a.Fits := ⟨hbandBlocks, hbands, hspares, hconv, hlogLen, hlogBase, htail, htailSeq, hbytes, hwords, hranges, hextents⟩
    obtain ⟨f8, f12, f16, f18, f26, f30, f34, f38⟩ := h.layout_fields
    obtain ⟨f44, f45, f46, f47, f49, f50, f52, f53⟩ := h.policy_fields
    refine ⟨h.signature, f8, f12, f16, f18, f26, f30, f34, f38, f44, f45, f46, f47, f49, f50, f52, f53, ?disp, h.enables,
      fun i e he => ?range, h.check.1, h.check.2, h.parseAnchor⟩
    case disp =>
      rw [h.disp_bytes]
      simp [DispTable.bytes, toNat_ofNat_of_lt (dispNum_lt _)]
    case range =>
      obtain ⟨hstart, hlength, hmode, hfixed⟩ := h.range_fields he
      refine ⟨hstart, ?_, ?_, ?_⟩
      · rw [show 69 + 18 * i.val = 61 + 18 * i.val + 8 by omega]
        exact hlength
      · rw [field_one, show 77 + 18 * i.val = 61 + 18 * i.val + 16 by omega, hmode]
        cases e.mode <;> rfl
      · rw [field_one, show 78 + 18 * i.val = 61 + 18 * i.val + 17 by omega, hfixed]
        cases e.fixed <;> rfl

end Sys2Proof
end

section

/-! ## The arbiter (R114 to R116)

`Part.nextGrant` is the first in the class order of the offers that are considered and have a slot; where none is, the arbiter stops.
`Part.granted` is the part that one grant leaves. -/

namespace Sys2Proof.Machine

/-- Slot `k` is free. -/
theorem Port.isFree_eq (p : Port) (k : Nat) : p.isFree k = decide (p.slots.getD k none = none) := by
  rw [Port.isFree, Bool.eq_iff_iff, Option.isNone_iff_eq_none, decide_eq_true_iff]

/-- The slots of a class, in the order in which a grant takes them (R114). -/
def ArbClass.slots (cl : ArbClass) : List Nat :=
  if cl = .a ∨ cl = .e then [28, 29, 30, 31] ++ List.range 28 else List.range 28

theorem Port.slotFor_eq (p : Port) (cl : ArbClass) :
    p.slotFor cl = cl.slots.find? fun k => decide (p.slots.getD k none = none) := by
  rw [← funext p.isFree_eq]
  cases cl
  case a => exact List.find?_append.symm
  case e => exact List.find?_append.symm
  all_goals rfl

theorem Port.slotFor_congr {p p' : Port} (h : p'.slots = p.slots) (cl : ArbClass) : p'.slotFor cl = p.slotFor cl := by
  rw [Port.slotFor_eq, Port.slotFor_eq, h]

/-- With no slot free no class has one. -/
theorem Port.slotFor_busy {p : Port} (h : ∀ k < 32, p.slots.getD k none ≠ none) (cl : ArbClass) : p.slotFor cl = none := by
  rw [Port.slotFor_eq, List.find?_eq_none]
  intro k hk
  have hk : k < 32 := by
    unfold ArbClass.slots at hk
    split at hk <;> simp at hk <;> omega
  simpa using h k hk

/-- R116, or the mode, holds the offer back. -/
def Part.Held (s : Part) (o : Offer) : Prop :=
  o.cmd.modifies = true ∧ (s.sys.mode = .degraded ∨ s.sys.mode = .halted) ∨
    o.attempt ≤ 1 ∧ ∃ b st, o.band = some (b, st) ∧ (s.bands.pband b).writeOut = true

theorem Part.considers_iff {s : Part} {o : Offer} : s.considers o = true ↔ ¬ s.Held o := by
  unfold Part.considers Part.Held
  cases hb : o.band with
  | none => cases o.cmd.modifies <;> simp
  | some b =>
    obtain ⟨b, st⟩ := b
    cases o.cmd.modifies <;> cases hout : (s.bands.pband b).writeOut <;> simp [hout]

theorem Part.considers_eq_false {s : Part} {o : Offer} (h : s.Held o) : s.considers o = false := by
  rw [Bool.eq_false_iff, Ne, Part.considers_iff]
  exact not_not_intro h

theorem mem_classOrder (l : Level) (cl : ArbClass) : cl ∈ classOrder l := by cases l <;> cases cl <;> decide

/-- What a class has for the next grant: its slot, and the place of its first offer that is considered. -/
def Part.classGrant (s : Part) (cl : ArbClass) : Option (Nat × Nat) :=
  match s.port.slotFor cl with
  | none => none
  | some k => (s.port.offers.findIdx? fun o => o.cls == cl && s.considers o).map fun i => (k, i)

theorem Part.nextGrant_eq (s : Part) : s.nextGrant = (classOrder s.pace.level).findSome? s.classGrant := rfl

/-- A class has nothing where each of its offers is held back, or has no slot. -/
theorem Part.classGrant_none {s : Part} {cl : ArbClass}
    (h : ∀ o ∈ s.port.offers, o.cls = cl → s.considers o = true → s.port.slotFor o.cls = none) : s.classGrant cl = none := by
  unfold Part.classGrant
  cases hk : s.port.slotFor cl with
  | none => rfl
  | some k =>
    rw [Option.map_eq_none_iff, List.findIdx?_eq_none_iff]
    intro o ho
    by_contra hsome
    obtain ⟨hcls, hcon⟩ : o.cls = cl ∧ s.considers o = true := by simpa using hsome
    have := h o ho hcls hcon
    rw [hcls, hk] at this
    exact nomatch this

/-- No offer that is considered has a slot: nothing is granted. -/
theorem Part.nextGrant_none {s : Part} (h : ∀ o ∈ s.port.offers, s.considers o = true → s.port.slotFor o.cls = none) :
    s.nextGrant = none := by
  rw [Part.nextGrant_eq, List.findSome?_eq_none_iff]
  exact fun _ _ => Part.classGrant_none fun o ho _ => h o ho

/-- The first in the class order of the offers that are considered and have a slot, and of its class the earliest (R115). -/
theorem Part.nextGrant_some {s : Part} {i k : Nat} {o : Offer} (ho : s.port.offers[i]? = some o) (hcon : s.considers o = true)
    (hk : s.port.slotFor o.cls = some k)
    (hfirst : ∀ j o', s.port.offers[j]? = some o' → s.considers o' = true → s.port.slotFor o'.cls ≠ none →
      (classOrder s.pace.level).idxOf o.cls < (classOrder s.pace.level).idxOf o'.cls ∨ o'.cls = o.cls ∧ i ≤ j) :
    s.nextGrant = some (k, i) := by
  obtain ⟨before, after, horder, hnot⟩ := List.eq_append_cons_of_mem (mem_classOrder s.pace.level o.cls)
  have hidx : (classOrder s.pace.level).idxOf o.cls = before.length := by
    rw [horder, List.idxOf_append_of_notMem hnot, List.idxOf_cons_self, Nat.add_zero]
  obtain ⟨hi, hio⟩ := List.getElem?_eq_some_iff.mp ho
  have hmine : (s.port.offers.findIdx? fun o' => o'.cls == o.cls && s.considers o') = some i := by
    rw [List.findIdx?_eq_some_iff_getElem]
    refine ⟨hi, by simp [hio, hcon], fun j hj => ?_⟩
    by_contra hsome
    obtain ⟨hcls, hcon'⟩ : (s.port.offers[j]).cls = o.cls ∧ s.considers s.port.offers[j] = true := by simpa using hsome
    obtain hlt | ⟨_, hle⟩ := hfirst j _ (List.getElem?_eq_getElem (by omega)) hcon' (by rw [hcls, hk]; exact nofun)
    · rw [hcls] at hlt; omega
    · omega
  have hbefore : ∀ cl ∈ before, s.classGrant cl = none := fun cl hcl => Part.classGrant_none fun o' ho' hcls hcon' => by
    by_contra hslot
    obtain ⟨j, hj⟩ := List.mem_iff_getElem?.mp ho'
    have hlt : (classOrder s.pace.level).idxOf o'.cls < before.length := by
      rw [horder, hcls, List.idxOf_append_of_mem hcl]
      exact List.idxOf_lt_length_of_mem hcl
    obtain hlt' | ⟨hsame, _⟩ := hfirst j o' hj hcon' hslot
    · omega
    · exact hnot (hsame ▸ hcls ▸ hcl)
  have hclass : s.classGrant o.cls = some (k, i) := by
    unfold Part.classGrant
    rw [hk, hmine]
    rfl
  rw [Part.nextGrant_eq, horder, List.findSome?_append, List.findSome?_eq_none_iff.mpr hbefore, Option.none_or,
    List.findSome?_cons, hclass]

/-- What a grant of slot `k` to `o` leaves, `left` being the offers that stay (R114, R116). -/
def Part.granted (s : Part) (o : Offer) (k : Nat) (left : List Offer) : Part :=
  { s with
    bands.pool := (match o.band with
      | some b => s.bands.pool.modify b.1 fun z => { z with writeOut := true }
      | none => s.bands.pool)
    port := { s.port with
      offers := left
      slots := s.port.slots.set k (some { offer := { o with order := if o.order = 0 then s.port.nextOrder else o.order } })
      nextOrder := if o.order = 0 then s.port.nextOrder + 1 else s.port.nextOrder
      sent := s.port.sent ++ [{ slot := k, cmd := o.cmd, blocks := s.writeContent o }] } }

theorem Part.writeContent_order (s : Part) (o : Offer) (n : Nat) : s.writeContent { o with order := n } = s.writeContent o := rfl

theorem Part.grant_eq (s : Part) (o : Offer) (k : Nat) (left : List Offer) :
    ({ s with port.offers := left } : Part).grant k o = s.granted o k left := by
  unfold Part.grant Part.granted
  have horder : (if o.order = 0 then { o with order := s.port.nextOrder } else o) =
      { o with order := if o.order = 0 then s.port.nextOrder else o.order } := by
    split <;> rfl
  dsimp only
  rw [horder, Part.writeContent_order]
  cases hb : o.band <;> rfl

theorem Part.grantOne_none {s : Part} (h : ∀ o ∈ s.port.offers, s.considers o = true → s.port.slotFor o.cls = none) :
    s.grantOne = none := by
  unfold Part.grantOne
  rw [Part.nextGrant_none h]
  exact ite_self _

/-- The next offer is granted, or ends with ALIGN_ERROR where it does not start at its band's write pointer (R116). -/
theorem Part.grantOne_some {s : Part} {i k : Nat} {o : Offer} (hup : s.port.linkUp = true) (hnext : s.nextGrant = some (k, i))
    (ho : s.port.offers[i]? = some o) :
    s.grantOne = some (if s.aligned o then
        s.granted o k (s.port.offers.eraseIdx i)
      else ({ s with port.offers := s.port.offers.eraseIdx i } : Part).bandWriteFinal o .alignError) := by
  unfold Part.grantOne
  rw [if_pos hup, hnext]
  dsimp only
  rw [ho]
  dsimp only
  rw [Part.grant_eq]
  rfl

theorem Part.aligned_iff {s : Part} {o : Offer} :
    s.aligned o = true ↔ ∀ b st, o.band = some (b, st) → (s.bands.pband b).wp = st := by
  unfold Part.aligned
  cases hb : o.band with
  | none => simp
  | some b => obtain ⟨b, st⟩ := b; simp

theorem Part.grantAll_none {s : Part} (h : s.grantOne = none) : s.grantAll = s := Part.repeatStep_none _ _ _ h

/-- One grant, and then no more. -/
theorem Part.grantAll_one {s t : Part} (h : s.grantOne = some t) (h' : t.grantOne = none) : s.grantAll = t := by
  unfold Part.grantAll
  rw [show 33 + s.port.offers.length = 32 + s.port.offers.length + 1 by omega, Part.repeatStep_some _ _ _ _ h,
    Part.repeatStep_none _ _ _ h']

/-- Two grants, and then no more. -/
theorem Part.grantAll_two {s t u : Part} (h : s.grantOne = some t) (h' : t.grantOne = some u) (h'' : u.grantOne = none) :
    s.grantAll = u := by
  unfold Part.grantAll
  rw [show 33 + s.port.offers.length = 31 + s.port.offers.length + 1 + 1 by omega, Part.repeatStep_some _ _ _ _ h,
    Part.repeatStep_some _ _ _ _ h', Part.repeatStep_none _ _ _ h'']

/-- The offer is considered, and starts at its band's write pointer. -/
def Part.Ready (s : Part) (o : Offer) : Prop := ¬ s.Held o ∧ ∀ b st, o.band = some (b, st) → (s.bands.pband b).wp = st

/-- A ready offer that is next is granted. -/
theorem Part.grantOne_ready {s : Part} {i k : Nat} {o : Offer} (hup : s.port.linkUp = true) (hready : s.Ready o)
    (hnext : s.nextGrant = some (k, i)) (ho : s.port.offers[i]? = some o) :
    s.grantOne = some (s.granted o k (s.port.offers.eraseIdx i)) := by
  rw [Part.grantOne_some hup hnext ho, if_pos (Part.aligned_iff.mpr hready.2)]

/-- The only offer is next where it is considered and has a slot. -/
theorem Part.nextGrant_only {s : Part} {k : Nat} {o : Offer} (ho : s.port.offers = [o]) (hheld : ¬ s.Held o)
    (hk : s.port.slotFor o.cls = some k) : s.nextGrant = some (k, 0) := by
  refine Part.nextGrant_some (by rw [ho]; rfl) (Part.considers_iff.mpr hheld) hk fun j o' hj _ _ => .inr ⟨?_, Nat.zero_le _⟩
  rw [ho, List.getElem?_singleton] at hj
  split at hj
  · rw [Option.some.inj hj]
  · exact nomatch hj

/-- The only offer, ready and with a slot, is granted. -/
theorem Part.grantAll_only {s : Part} {k : Nat} {o : Offer} (hup : s.port.linkUp = true) (ho : s.port.offers = [o])
    (hready : s.Ready o) (hk : s.port.slotFor o.cls = some k) : s.grantAll = s.granted o k [] := by
  have hone := Part.grantOne_ready hup hready (Part.nextGrant_only ho hready.1 hk) (by rw [ho]; rfl)
  rw [ho] at hone
  exact Part.grantAll_one hone (Part.grantOne_none fun _ ho' => absurd ho' (List.not_mem_nil))

end Sys2Proof.Machine
end

section

/-! ## What the grants give (R114 to R116) and what a write holds (R48, R53)

Each clause of O44 is one grant, two, or none, by the offers that are considered and the slots that are free. -/

namespace Sys2Proof.Machine

/-- A failing merge offers nothing to the drive. -/
theorem Part.failMerge_fewer (s : Part) (i : Nat) (code : DriveCode) : ∀ o ∈ (s.failMerge i code).port.offers, o ∈ s.port.offers := by
  intro o ho
  unfold Part.failMerge at ho
  extract_lets c l reset ended failed raised asked at ho
  have hreset : s.Winds reset := Part.winds_ite (fun _ => .refl _) fun _ => s.winds_toResetPendingOpt _
  have hraised : s.Winds raised := (Part.winds_raise ..).after <| Part.Winds.after (Part.winds_onL _ _ (by exact fun _ _ => id)) <|
    (Part.winds_endMerge ..).after hreset
  have hasked : asked.port = raised.port := by
    have hport : ∀ {x y : Part}, x.Asks y → y.port = x.port := fun h => by obtain ⟨_, _, _, rfl⟩ := h; rfl
    show (if _ then _ else _ : Part).port = _
    split
    · exact hport (raised.asks_offerUrgent l)
    · exact (hport (raised.asks_faultBand l)).trans rfl
  obtain ⟨w, htell, _⟩ := asked.tellMerge_eq i .failed
  rw [htell] at ho
  exact hraised.offers o (hasked ▸ ho)

theorem Part.bandWriteFinal_unit (s : Part) {o : Offer} {i u ph start a n : Nat} (hwork : o.work = .targetUnit i u)
    (hband : o.band = some (ph, start)) (hcmd : o.cmd = .write a n) (code : DriveCode) :
    s.bandWriteFinal o code = s.unitFinal i ph start n code := by
  simp only [Part.bandWriteFinal, hwork, hband, hcmd]

/-- The write of a unit ends with an error where its merge no longer copies. -/
theorem Part.unitFinal_ended {s : Part} {i p start n : Nat} {code : DriveCode} (hcode : code ≠ .good)
    (hst : (s.mrg.ctx i).st ≠ .copy) :
    s.unitFinal i p start n code = s.onCtx i fun c => { c with
      unitOut := false, ready := c.ready.filter fun r => decide (start + n - 1 ≤ r.1) } := by
  simp only [Part.unitFinal, if_neg hcode, if_neg hst]

theorem Part.unitFinal_fewer (s : Part) (i p start n : Nat) {code : DriveCode} (hcode : code ≠ .good) :
    ∀ o ∈ (s.unitFinal i p start n code).port.offers, o ∈ s.port.offers := by
  by_cases hst : (s.mrg.ctx i).st = .copy
  · rw [Part.unitFinal_failed hcode hst]
    exact Part.failMerge_fewer _ i code
  · rw [Part.unitFinal_ended hcode hst]
    exact fun _ => id

/-! ### One grant -/

theorem Part.granted_held {s : Part} {o o' : Offer} {k : Nat} {left : List Offer} (h : s.Held o') :
    (s.granted o k left).Held o' := by
  obtain hmode | ⟨hatt, b, st, hband, hout⟩ := h
  · exact .inl hmode
  · refine .inr ⟨hatt, b, st, hband, ?_⟩
    unfold Part.granted
    cases o.band with
    | none => exact hout
    | some x =>
      rw [Bands.pband, List.getD_eq_getElem?_getD] at hout ⊢
      simp only [List.getElem?_modify]
      cases hb : s.bands.pool[b]? with
      | none => rw [hb] at hout; exact hout
      | some z =>
        rw [hb] at hout
        by_cases hx : x.1 = b
        · simp [hx]
        · simpa [hx] using hout

/-- After the grant of the one slot left none is free. -/
theorem Part.granted_slots_busy {s : Part} {o : Offer} {k : Nat} {left : List Offer} (hlen : s.port.slots.length = 32)
    (hbusy : ∀ j, j < 32 → j ≠ k → s.port.slots.getD j none ≠ none) (cl : ArbClass) :
    (s.granted o k left).port.slotFor cl = none := by
  refine Port.slotFor_busy (fun j hj => ?_) cl
  show (s.port.slots.set k _).getD j none ≠ none
  rw [List.getD_eq_getElem?_getD, List.getElem?_set]
  by_cases hkj : k = j
  · simp [hkj, hlen, hj]
  · rw [if_neg hkj, ← List.getD_eq_getElem?_getD]
    exact hbusy j hj (Ne.symm hkj)

theorem Part.grantAll_down {s : Part} (h : s.port.linkUp = false) : s.grantAll = s := by
  refine Part.grantAll_none ?_
  unfold Part.grantOne
  rw [if_neg (by rw [h]; exact nofun)]

/-- The only offer is held back, or has no slot. -/
theorem Part.grantAll_waits {s : Part} {o : Offer} (ho : s.port.offers = [o]) (h : s.Held o ∨ s.port.slotFor o.cls = none) :
    s.grantAll = s := by
  refine Part.grantAll_none (Part.grantOne_none fun o' ho' hcon => ?_)
  rw [ho, List.mem_singleton] at ho'
  subst ho'
  exact h.resolve_left (Part.considers_iff.mp hcon)

/-- Two ready offers and one slot that either may take: the first in the class order has it (R115). -/
theorem Part.grantAll_first {s : Part} {x y : Offer} {k : Nat} (hup : s.port.linkUp = true) (hlen : s.port.slots.length = 32)
    (ho : s.port.offers = [x, y]) (hx : s.Ready x) (hy : s.Ready y) (hkx : s.port.slotFor x.cls = some k)
    (hky : s.port.slotFor y.cls = some k) (hbusy : ∀ j, j < 32 → j ≠ k → s.port.slots.getD j none ≠ none) :
    s.grantAll = if (classOrder s.pace.level).idxOf x.cls ≤ (classOrder s.pace.level).idxOf y.cls then s.granted x k [y]
      else s.granted y k [x] := by
  have hcls : ∀ {z w : ArbClass}, (classOrder s.pace.level).idxOf z = (classOrder s.pace.level).idxOf w → w = z := fun h =>
    (List.idxOf_inj (mem_classOrder ..)).mp h.symm
  have hplace : ∀ j o', s.port.offers[j]? = some o' → j = 0 ∧ o' = x ∨ j = 1 ∧ o' = y := fun j o' hj => by
    rw [ho] at hj
    obtain _ | _ | j := j
    · exact .inl ⟨rfl, (Option.some.inj hj).symm⟩
    · exact .inr ⟨rfl, (Option.some.inj hj).symm⟩
    · exact nomatch hj
  split
  next hle =>
    have hnext : s.nextGrant = some (k, 0) := by
      refine Part.nextGrant_some (by rw [ho]; rfl) (Part.considers_iff.mpr hx.1) hkx fun j o' hj _ _ => ?_
      obtain ⟨_, rfl⟩ | ⟨_, rfl⟩ := hplace j o' hj
      · exact .inr ⟨rfl, Nat.zero_le _⟩
      · exact (Nat.lt_or_eq_of_le hle).imp_right fun h => ⟨hcls h, Nat.zero_le _⟩
    have hone := Part.grantOne_ready hup hx hnext (by rw [ho]; rfl)
    rw [ho] at hone
    exact Part.grantAll_one hone (Part.grantOne_none fun _ _ _ => Part.granted_slots_busy hlen hbusy _)
  next hlt =>
    have hnext : s.nextGrant = some (k, 1) := by
      refine Part.nextGrant_some (by rw [ho]; rfl) (Part.considers_iff.mpr hy.1) hky fun j o' hj _ _ => ?_
      obtain ⟨_, rfl⟩ | ⟨rfl, rfl⟩ := hplace j o' hj
      · exact .inl (Nat.lt_of_not_le hlt)
      · exact .inr ⟨rfl, le_rfl⟩
    have hone := Part.grantOne_ready hup hy hnext (by rw [ho]; rfl)
    rw [ho] at hone
    exact Part.grantAll_one hone (Part.grantOne_none fun _ _ _ => Part.granted_slots_busy hlen hbusy _)

/-- An offer that is held back is passed over (R116). -/
theorem Part.grantAll_passes {s : Part} {x y : Offer} {k : Nat} (hup : s.port.linkUp = true)
    (ho : s.port.offers = [x, y] ∨ s.port.offers = [y, x]) (hx : s.Held x) (hy : s.Ready y)
    (hk : s.port.slotFor y.cls = some k) : s.grantAll = s.granted y k [x] := by
  obtain ⟨i, hi, hleft, honly⟩ : ∃ i, s.port.offers[i]? = some y ∧ s.port.offers.eraseIdx i = [x] ∧
      ∀ (j : Nat) o', s.port.offers[j]? = some o' → o' = x ∨ o' = y ∧ i = j := by
    obtain ho | ho := ho <;> rw [ho]
    · refine ⟨1, rfl, rfl, fun j o' hj => ?_⟩
      obtain _ | _ | j := j
      · exact .inl (Option.some.inj hj).symm
      · exact .inr ⟨(Option.some.inj hj).symm, rfl⟩
      · exact nomatch hj
    · refine ⟨0, rfl, rfl, fun j o' hj => ?_⟩
      obtain _ | _ | j := j
      · exact .inr ⟨(Option.some.inj hj).symm, rfl⟩
      · exact .inl (Option.some.inj hj).symm
      · exact nomatch hj
  have hnext : s.nextGrant = some (k, i) := by
    refine Part.nextGrant_some hi (Part.considers_iff.mpr hy.1) hk fun j o' hj hcon _ => ?_
    obtain rfl | ⟨rfl, rfl⟩ := honly j o' hj
    · exact absurd hx (Part.considers_iff.mp hcon)
    · exact .inr ⟨rfl, le_rfl⟩
  have hone := Part.grantOne_ready hup hy hnext hi
  rw [hleft] at hone
  refine Part.grantAll_one hone (Part.grantOne_none fun o' ho' hcon => ?_)
  obtain rfl : o' = x := List.mem_singleton.mp ho'
  exact absurd (Part.granted_held hx) (Part.considers_iff.mp hcon)

/-! ### Band writes that do not start at the write pointer (R116) -/

theorem Part.grantOne_misaligned {s : Part} {o : Offer} {k b st : Nat} (hup : s.port.linkUp = true) (ho : s.port.offers = [o])
    (hheld : ¬ s.Held o) (hk : s.port.slotFor o.cls = some k) (hband : o.band = some (b, st))
    (hwp : (s.bands.pband b).wp ≠ st) :
    s.grantOne = some (({ s with port.offers := [] } : Part).bandWriteFinal o .alignError) := by
  rw [Part.grantOne_some hup (Part.nextGrant_only ho hheld hk) (by rw [ho]; rfl), ho, if_neg]
  · rfl
  · exact fun h => hwp (Part.aligned_iff.mp h b st hband)

/-- A unit that does not start at the write pointer ends without reaching the drive. -/
theorem Part.grantAll_misaligned_unit {s : Part} {o : Offer} {k b st i u a n : Nat} (hup : s.port.linkUp = true)
    (ho : s.port.offers = [o]) (hheld : ¬ s.Held o) (hk : s.port.slotFor o.cls = some k) (hband : o.band = some (b, st))
    (hwp : (s.bands.pband b).wp ≠ st) (hwork : o.work = .targetUnit i u) (hcmd : o.cmd = .write a n) :
    s.grantAll = ({ s with port.offers := [] } : Part).unitFinal i b st n .alignError := by
  have hone := Part.grantOne_misaligned hup ho hheld hk hband hwp
  rw [Part.bandWriteFinal_unit _ hwork hband hcmd] at hone
  refine Part.grantAll_one hone (Part.grantOne_none fun o' ho' => ?_)
  exact absurd (Part.unitFinal_fewer _ i b st n (by decide) o' ho') List.not_mem_nil

end Sys2Proof.Machine
end

section

/-! ## The arbiter's grants and the writes' blocks -/

namespace Sys2Proof.Machine

/-! ### A misaligned append (R116, R34, R35) -/

/-- The general slots are the same for the classes that have no reserved ones. -/
theorem Port.slotFor_general {p : Port} {cl : ArbClass} (h : cl ≠ .a ∧ cl ≠ .e) : p.slotFor cl = p.general := by
  obtain ⟨ha, he⟩ := h
  cases cl
  case a => exact absurd rfl ha
  case e => exact absurd rfl he
  all_goals rfl

/-- The offer of a refresh query (R35). -/
def refreshOffer (b : Nat) : Offer := { cls := .f, work := .refreshQuery b, cmd := .bandQuery b 1 }

/-- The only append entry of a FILLING band fails without reaching the drive: the band is SUSPECT, and its refresh query is granted
at once. -/
theorem Part.grantAll_misaligned_append {s : Part} {o : Offer} {k b st l : Nat} {e : AppendEntry} (hup : s.port.linkUp = true)
    (ho : s.port.offers = [o]) (hheld : ¬ s.Held o) (hk : s.port.slotFor o.cls = some k) (hband : o.band = some (b, st))
    (hwp : (s.bands.pband b).wp ≠ st) (hwork : o.work = .append l b st) (hcls : o.cls = .d) (he : e.band = b) (hst : e.start = st)
    (hqueue : (s.bands.lband l).queue = [e]) (hphys : (s.bands.lband l).phys = some b)
    (hfilling : (s.bands.lband l).st = .filling) (hreqs : s.mrg.reqs = []) :
    s.grantAll = ({ s with
      bands.pool := s.bands.pool.modify b fun z => { z with refresh := true }
      bands.lbt := s.bands.lbt.modify l fun z => { z with queue := [], st := .suspect, pf := z.f }
      ini := (s.partFinal e.cid e.part (.failed .mediumError)).ini
      mrg.reqs := [{ band := l, urgent := true }]
      win := s.win.raise .bandSuspect (some .drive) (some l) (some b) none none } : Part).granted (refreshOffer b) k [] := by
  have hone := Part.grantOne_misaligned hup ho hheld hk hband hwp
  have hfinal : ({ s with port.offers := [] } : Part).bandWriteFinal o .alignError =
      ({ s with port.offers := [] } : Part).appendFail l b st := by
    simp only [Part.bandWriteFinal, hwork]
    exact if_neg (by decide)
  have hbehind : (s.bands.lband l).behind b st = [] := by simp [LBand.behind, hqueue, he, hst]
  have hsuspected : s.bands.lbt.modify l (·.suspected b) =
      s.bands.lbt.modify l fun z => { z with queue := [], st := .suspect, pf := z.f } :=
    List.modify_congr_at fun z hz => by
      have hz : s.bands.lband l = z := by simp [Bands.lband, hz]
      rw [hz] at hqueue hfilling
      simp [LBand.suspected, hqueue, he, hfilling]
  have hfail := Part.appendFail_mapped (s := { s with port.offers := [] }) (l := l) (p := b) (start := st) (e := e)
    (by rw [← he, ← hst]; exact Bands.entry_head hqueue) hphys (.inr hreqs)
  rw [hfinal, hfail, hbehind, hsuspected] at hone
  refine Part.grantAll_two hone ?_ (Part.grantOne_none fun _ ho' => absurd ho' List.not_mem_nil)
  have hslot : s.port.slotFor .f = some k := by
    rw [Port.slotFor_general (by decide), ← hk, hcls, Port.slotFor_general (by decide)]
  have hready : ∀ t : Part, t.Ready (refreshOffer b) := fun t =>
    ⟨fun h => by simp [Part.Held, refreshOffer, DriveCmd.modifies] at h, fun _ _ h => nomatch h⟩
  refine (Part.grantOne_ready (i := 0) (k := k) (o := refreshOffer b) (by exact hup) (hready _)
    (Part.nextGrant_only rfl (hready _).1 ?_) rfl).trans ?_
  · exact hslot
  · rw [hfilling]
    rfl

/-! ### Two grants -/

/-- A read without a band is ready. -/
theorem Part.ready_read (s : Part) {o : Offer} {a m : Nat} (hcmd : o.cmd = .read a m) (hband : o.band = none) : s.Ready o :=
  ⟨fun h => by simp [Part.Held, hcmd, hband, DriveCmd.modifies] at h, fun _ _ h => by rw [hband] at h; exact nomatch h⟩

/-- Two ready offers of which each has a slot: the one first in the class order is granted, and then the other. -/
theorem Part.grantAll_both {s : Part} {o o' : Offer} {k k' : Nat} (hup : s.port.linkUp = true)
    (ho : s.port.offers = [o, o'] ∨ s.port.offers = [o', o]) (hready : s.Ready o)
    (hready' : (s.granted o k [o']).Ready o') (hk : s.port.slotFor o.cls = some k)
    (hk' : (s.granted o k [o']).port.slotFor o'.cls = some k')
    (hlt : (classOrder s.pace.level).idxOf o.cls < (classOrder s.pace.level).idxOf o'.cls) :
    s.grantAll = (s.granted o k [o']).granted o' k' [] := by
  obtain ⟨i, hi, hleft, honly⟩ : ∃ i, s.port.offers[i]? = some o ∧ s.port.offers.eraseIdx i = [o'] ∧
      ∀ (j : Nat) x, s.port.offers[j]? = some x → x = o' ∨ x = o ∧ i = j := by
    obtain ho | ho := ho <;> rw [ho]
    · refine ⟨0, rfl, rfl, fun j x hj => ?_⟩
      obtain _ | _ | j := j
      · exact .inr ⟨(Option.some.inj hj).symm, rfl⟩
      · exact .inl (Option.some.inj hj).symm
      · exact nomatch hj
    · refine ⟨1, rfl, rfl, fun j x hj => ?_⟩
      obtain _ | _ | j := j
      · exact .inl (Option.some.inj hj).symm
      · exact .inr ⟨(Option.some.inj hj).symm, rfl⟩
      · exact nomatch hj
  have hnext : s.nextGrant = some (k, i) := by
    refine Part.nextGrant_some hi (Part.considers_iff.mpr hready.1) hk fun j x hj _ _ => ?_
    obtain rfl | ⟨rfl, rfl⟩ := honly j x hj
    · exact .inl hlt
    · exact .inr ⟨rfl, le_rfl⟩
  have hone := Part.grantOne_ready hup hready hnext hi
  rw [hleft] at hone
  refine Part.grantAll_two hone (Part.grantOne_ready (i := 0) hup hready' (Part.nextGrant_only rfl hready'.1 hk') rfl)
    (Part.grantOne_none fun _ ho' => absurd ho' List.not_mem_nil)

/-- A grant to an offer of no band that has not been granted before. -/
theorem Part.granted_first {s : Part} {o : Offer} {k : Nat} {left : List Offer} (hband : o.band = none) (horder : o.order = 0) :
    s.granted o k left = { s with port := { s.port with
      offers := left
      slots := s.port.slots.set k (some { offer := { o with order := s.port.nextOrder } })
      nextOrder := s.port.nextOrder + 1
      sent := s.port.sent ++ [{ slot := k, cmd := o.cmd, blocks := s.writeContent o }] } } := by
  unfold Part.granted
  rw [hband, if_pos horder, if_pos horder]

theorem Part.writeContent_fgRead {s : Part} {o : Offer} {c i : Nat} (h : o.work = .fgRead c i) : s.writeContent o = [] := by
  simp [Part.writeContent, h]

theorem Part.writeContent_mergeRead {s : Part} {o : Offer} {c i n : Nat} (h : o.work = .mergeRead c i n) : s.writeContent o = [] := by
  simp [Part.writeContent, h]

/-! ### What a write holds -/

theorem Part.commandsSound.find {s : Part} (h : s.commandsSound) {tag : Nat} {c : Cmd} (hat : s.ini.at tag = some c) :
    s.ini.find c.cid = some c := by
  obtain ⟨_, _, _, honly, _⟩ := h.1 tag c hat
  exact Initiator.find_of_at hat honly

/-- The blocks in a command's frames that lie within its data stand in their one form. -/
theorem Part.frameData_eq {s : Part} (h : s.commandsSound) {tag first n : Nat} {c : Cmd} (hat : s.ini.at tag = some c)
    (hform : ∀ b ∈ c.data, toBlock b = b) (hlen : first + n ≤ c.data.length) :
    s.ini.frameData c.cid first n = (c.data.drop first).take n := by
  unfold Initiator.frameData
  rw [h.find hat]
  exact fitBlocks_drop c.data first n hform hlen

theorem fitBlocks_exact {n : Nat} {bs : List Block} (hlen : bs.length = n) (hform : ∀ b ∈ bs, toBlock b = b) :
    fitBlocks n bs = bs := by
  simpa [← hlen] using fitBlocks_drop bs 0 bs.length hform (by omega)

/-- The blocks of a record of carry-forward are those that its read gave. -/
theorem Part.recordData_carry {s : Part} {r : Rec} {i : Nat} {z : CarryPass} {e : Extent} {before after : List Extent}
    {data : List Block} (hkind : r.kind = .data) (horigin : r.origin = .carry i) (hpass : (s.mrg.ctx i).carry = some z)
    (hlist : z.dataList = before ++ e :: after) (hbefore : ∀ w ∈ before, w.start ≠ e.start)
    (hcarries : r.carries = some (z.seq, e.start)) (hgot : z.got.find? (·.1 == before.length) = some (before.length, data))
    (hlen : data.length = r.n) (hform : ∀ b ∈ data, toBlock b = b) : s.recordData r = data := by
  have hplace : (z.dataList.findIdx fun w => some (z.seq, w.start) == r.carries) = before.length := by
    rw [hlist, hcarries, List.findIdx_append, List.findIdx_eq_length_of_false (fun w hw => by simpa using hbefore w hw),
      List.findIdx_cons]
    simp
  unfold Part.recordData
  rw [if_pos hkind, horigin]
  dsimp only
  rw [hpass]
  dsimp only
  rw [hplace, hgot]
  exact fitBlocks_exact hlen hform

end Sys2Proof.Machine
end

section

/-! ## The grants and the writes' blocks, settled -/

namespace Sys2Proof.Machine

theorem classOrder_eq (l : Level) : classOrder l =
    if l = .pressure ∨ l = .full then [.a, .e, .b, .c, .d, .f] else [.a, .b, .c, .d, .e, .f] := by
  cases l <;> rfl

theorem Port.slotFor_reserved {p : Port} {cl : ArbClass} (hcls : cl = .a ∨ cl = .e) (h : p.slots.getD 28 none = none) :
    p.slotFor cl = some 28 := by
  rw [Port.slotFor_eq, ArbClass.slots, if_pos hcls]
  exact List.find?_cons_of_pos (by simpa using h)

theorem Port.slotFor_first {p : Port} {cl : ArbClass} (hcls : ¬ (cl = .a ∨ cl = .e)) (h : p.slots.getD 0 none = none) :
    p.slotFor cl = some 0 := by
  rw [Port.slotFor_eq, ArbClass.slots, if_neg hcls, List.range_succ_eq_map]
  exact List.find?_cons_of_pos (by simpa using h)

/-- A unit that ends without reaching the drive ends as on the drive's own code (R104, R116). -/
theorem Part.grantAll_unit_aligned_error {p : Part} {q : List Instr} {x : Offer} {k : Fin 32} {b s i u a n : Nat}
    (hreset : p.sys.inReset = false) (hup : p.port.linkUp = true) (hlen : p.port.slots.length = 32) (ho : p.port.offers = [x])
    (hheld : ¬ p.Held x) (hk : p.port.slotFor x.cls = some k.val) (hband : x.band = some (b, s))
    (hout : (p.bands.pband b).writeOut = false) (hwp : (p.bands.pband b).wp ≠ s) (hwork : x.work = .targetUnit i u)
    (hcmd : x.cmd = .write a n) :
    exec .driveGrant ⟨p, q⟩ = exec (.targetUnitComplete k .alignError)
      ⟨{ p with port := { p.port with offers := [], slots := p.port.slots.set k (some { offer := x }) } }, q⟩ := by
  have hkl : (k : Nat) < p.port.slots.length := by rw [hlen]; exact k.isLt
  have hfree : p.port.slots.getD k none = none := by
    rw [Port.slotFor_eq] at hk
    simpa using List.find?_some hk
  have hslots : (p.port.slots.set k (some { offer := x })).set k none = p.port.slots := by
    rw [List.set_set]
    refine List.ext_getElem (by simp) fun j hj hj' => ?_
    rw [List.getElem_set]
    split
    next h =>
      subst h
      rw [List.getD_eq_getElem _ _ hkl] at hfree
      exact hfree.symm
    next => rfl
  have hpool : (p.bands.pool.modify b fun z => { z with writeOut := false }) = p.bands.pool := by
    refine (List.modify_congr_at (g := id) fun z hz => ?_).trans (List.modify_id b _)
    have hz : p.bands.pband b = z := by simp [Bands.pband, hz]
    rw [hz] at hout
    rw [← hout]
    rfl
  rw [exec_driveGrant, State.act_awake _ hreset,
    Part.grantAll_misaligned_unit hup ho hheld hk hband hwp hwork hcmd,
    State.act_targetUnitComplete .alignError (by exact hreset) (by exact by simp [Port.runs, hkl]) hwork hband hcmd, hpool, hslots]
  rfl

end Sys2Proof.Machine

namespace Sys2Proof
open Sys2Proof.Machine

/-- Settles O44: a grant is `Part.granted` of the first offer in the class order that is considered and has a slot; and by what
`Part.writeContent` finds at the owner of each write. -/
theorem grantsFollowTheClassOrder : Obligations.GrantsFollowTheClassOrder := by
  intro p q x y hreset
  have hexec : ∀ {u : Machine.Part}, p.grantAll = u → exec .driveGrant ⟨p, q⟩ = .next ⟨u, q⟩ := fun h => by
    rw [exec_driveGrant, State.act_awake _ hreset, h]
  refine ⟨fun hdown => hexec (Part.grantAll_down hdown), ?grants, ?both, ?only, ?records, ?append⟩
  case grants =>
    intro hup hlen high order slotFor held ready granted runs
    have hslot : ∀ {cl k}, slotFor cl = k → p.port.slotFor cl = k := fun h => (Port.slotFor_eq ..).trans h
    have horder : classOrder p.pace.level = order := classOrder_eq _
    refine ⟨fun ho hready => ⟨fun hk => ?waits, fun k hk => ?granted⟩, fun k ho hx hy hkx hky hbusy => ?first,
      fun k ho hx hy hk => ?passes, fun ho hheld k b s hk hband hout hwp => ⟨fun i u a n hwork hcmd => ?unit,
        fun l e hwork hcls he hst hl hqueue hphys hfilling hreqs => ?misplaced⟩⟩
    case waits => exact hexec (Part.grantAll_waits ho (.inr (hslot hk)))
    case granted => exact hexec (Part.grantAll_only hup ho hready (hslot hk))
    case first =>
      have hfirst := hexec (Part.grantAll_first hup hlen ho hx hy (hslot hkx) (hslot hky) hbusy)
      rw [horder] at hfirst
      refine hfirst.trans ?_
      split <;> rfl
    case passes => exact hexec (Part.grantAll_passes hup ho hx hy (hslot hk))
    case unit => exact Part.grantAll_unit_aligned_error hreset hup hlen ho hheld (hslot hk) hband hout hwp hwork hcmd
    case misplaced =>
      exact hexec ((Part.grantAll_misaligned_append hup ho hheld (hslot hk) hband hwp hwork hcls he hst hqueue hphys hfilling
        hreqs).trans rfl)
  case both =>
    intro a m a' m' hup hslots hclsx hclsy hcmdx hcmdy hbandx hbandy hordx hordy hnext ⟨cx, ix, hworkx⟩ ⟨cy, iy, ny, hworky⟩
      hoffers n run sx sy
    have hkx : ∀ {P : Port}, P.slots.getD 0 none = none → P.slotFor x.cls = some 0 := fun h =>
      Port.slotFor_first (by rw [hclsx]; decide) h
    have hky : ∀ {P : Port}, P.slots.getD 28 none = none → P.slotFor y.cls = some 28 := fun h =>
      Port.slotFor_reserved (.inr hclsy) h
    split
    next high =>
      refine hexec ((Part.grantAll_both (k := 28) (k' := 0) hup hoffers.symm (Part.ready_read _ hcmdy hbandy)
        (Part.ready_read _ hcmdx hbandx) (hky (by rw [hslots]; rfl)) (hkx ?_) ?_).trans ?_)
      · exact (congrArg (fun l => (List.set l 28 _).getD 0 none) hslots).trans rfl
      · rw [classOrder_eq, if_pos high, hclsx, hclsy]; decide
      · rw [Part.granted_first hbandx hordx, Part.granted_first hbandy hordy, Part.writeContent_mergeRead hworky,
          Part.writeContent_fgRead hworkx]
        simp only [List.append_assoc, List.singleton_append]
        rw [List.set_comm _ _ (by decide)]
    next low =>
      refine hexec ((Part.grantAll_both (k := 0) (k' := 28) hup hoffers (Part.ready_read _ hcmdx hbandx)
        (Part.ready_read _ hcmdy hbandy) (hkx (by rw [hslots]; rfl)) (hky ?_) ?_).trans ?_)
      · exact (congrArg (fun l => (List.set l 0 _).getD 28 none) hslots).trans rfl
      · rw [classOrder_eq, if_neg low, hclsx, hclsy]; decide
      · rw [Part.granted_first hbandy hordy, Part.granted_first hbandx hordx, Part.writeContent_mergeRead hworky,
          Part.writeContent_fgRead hworkx]
        simp only [List.append_assoc, List.singleton_append]
        rfl
  case only =>
    intro ho
    refine ⟨fun hheld => hexec (Part.grantAll_waits ho (.inl (hheld.imp_left And.symm))),
      fun b s i u a n hup hslots hmode hcls hband hcmd hwork hout hrelease => ?unit,
      fun tag c hup hslots hsound hdeg hhalt hat hcls hband hwork hcmd horder hnext => ?forwarded⟩
    case unit =>
      have hheld : ¬ p.Held x := by
        rintro (⟨_, hmode'⟩ | ⟨hatt, b', s', hband', hout'⟩)
        · rw [hmode] at hmode'; exact absurd hmode' (by decide)
        · obtain ⟨rfl, rfl⟩ : b = b' ∧ s = s' := by simpa [hband] using hband'
          obtain hout | hatt' := hout
          · rw [hout] at hout'; exact nomatch hout'
          · omega
      have hk : p.port.slotFor x.cls = some 28 := Port.slotFor_reserved (.inr hcls) (by rw [hslots]; rfl)
      refine ⟨fun hwp => hexec ?misaligned, fun hwp horder hnext => hexec ?aligned⟩
      case misaligned =>
        exact (Part.grantAll_misaligned_unit hup ho hheld hk hband hwp hwork hcmd).trans
          (Part.unitFinal_ended (by decide) (fun h => by exact nomatch hrelease.symm.trans h))
      case aligned =>
        have hready : p.Ready x := ⟨hheld, fun b' s' h => by
          obtain ⟨rfl, rfl⟩ : b = b' ∧ s = s' := by simpa [hband] using h
          exact hwp⟩
        rw [Part.grantAll_only hup ho hready hk]
        unfold Part.granted
        rw [hband, if_pos horder, if_pos horder, show p.writeContent x = (p.mrg.ctx i).unitBlocks u by
          simp [Part.writeContent, hwork]]
    case forwarded =>
      have hready : p.Ready x := ⟨by simp [Part.Held, hband, hdeg, hhalt], fun _ _ h => by rw [hband] at h; exact nomatch h⟩
      have hk : p.port.slotFor x.cls = some 0 := Port.slotFor_first (by rw [hcls]; decide) (by rw [hslots]; rfl)
      refine hexec ?_
      rw [Part.grantAll_only hup ho hready hk, Part.granted_first hband horder,
        show p.writeContent x = if c.dir = .dataOut then fitBlocks c.count c.data else [] by
          simp [Part.writeContent, hwork, hsound.find hat]]
  case records =>
    intro s r hr
    refine ⟨fun hwork => ?rewrite, fun hwork hkind => ?header, ?command, ?carry⟩
    case rewrite => simp [Part.writeContent, hwork, hr, voidHeader]
    case header => rw [Part.writeContent_record hwork hr, Part.recordData, if_neg hkind]
    case command =>
      intro tag k c hwork hkind hsound hat horigin hform hlen data
      rw [Part.writeContent_record hwork hr, show p.recordData r = data by
        rw [Part.recordData, if_pos hkind, horigin]
        exact Part.frameData_eq hsound hat hform hlen]
    case carry =>
      intro i z e before after data hwork hkind horigin hpass hlist hbefore hcarries hgot hlen hform
      rw [Part.writeContent_record hwork hr, Part.recordData_carry hkind horigin hpass hlist hbefore hcarries hgot hlen hform]
  case append =>
    intro tag l b s e c hwork hentry hsound hat hcid hform hlen
    simp only [Part.writeContent, hwork, hentry, Part.appendBlocks, ← hcid, Part.frameData_eq hsound hat hform hlen]

end Sys2Proof
end

section

/-! ## The last steps of FORMAT (R193)

Each completion of FORMAT goes to one of `formatCleared`, `formatReset` and `formatAnchored`, whose branches are stated once. The
anchor that FORMAT writes has its layout's fields cut to their widths. -/

namespace Sys2Proof.Machine

/-! ### FORMAT's anchor block -/

/-- A field of `w` bytes holds the number modulo their range. -/
theorem le_mod (w x : Nat) : le w (x % 256 ^ w) = le w x := by
  induction w generalizing x with
  | zero => rfl
  | succ w ih =>
    have hbyte : BitVec.ofNat 8 (x % 256 ^ (w + 1)) = BitVec.ofNat 8 x := by
      refine BitVec.eq_of_toNat_eq ?_
      rw [BitVec.toNat_ofNat, BitVec.toNat_ofNat]
      exact Nat.mod_mod_of_dvd x (by rw [Nat.pow_succ]; exact Nat.dvd_mul_left ..)
    have hrest : x % 256 ^ (w + 1) / 256 = x / 256 % 256 ^ w := by
      rw [Nat.pow_succ, Nat.mul_comm, Nat.mod_mul_right_div_self]
    rw [le, le, hbyte, hrest, ih]

/-- A layout with each number cut to the width that the anchor has for it. -/
def Layout.cut (g : Layout) : Layout where
  bandBlocks := g.bandBlocks % 256 ^ 4
  bands := g.bands % 256 ^ 4
  spares := g.spares % 256 ^ 2
  conv := g.conv % 256 ^ 8
  logLen := g.logLen % 256 ^ 4

/-- What FORMAT stores (R193). -/
def formatAnchorData (g : Layout) : AnchorData where
  layout := g
  logBase := Config.logBase
  tail := 0
  tailSeq := 1
  policy := {}
  disp := {}
  enables := 0xFF
  ranges := List.replicate 8 {}

theorem anchorPrefix_cut (g : Layout) : anchorPrefix (formatAnchorData g) = anchorPrefix (formatAnchorData g.cut) := by
  have hbandBlocks : le 4 g.cut.bandBlocks = le 4 g.bandBlocks := le_mod 4 g.bandBlocks
  have hbands : le 4 g.cut.bands = le 4 g.bands := le_mod 4 g.bands
  have hspares : le 2 g.cut.spares = le 2 g.spares := le_mod 2 g.spares
  have hconv : le 8 g.cut.conv = le 8 g.conv := le_mod 8 g.conv
  have hlogLen : le 4 g.cut.logLen = le 4 g.logLen := le_mod 4 g.logLen
  rw [anchorPrefix_eq, anchorPrefix_eq]
  simp only [anchorStart, anchorFields, formatAnchorData, hbandBlocks, hbands, hspares, hconv, hlogLen]

theorem formatAnchorBlock_cut (g : Layout) : formatAnchorBlock g = encodeAnchor (formatAnchorData g.cut) := by
  rw [encodeAnchor, ← anchorPrefix_cut, ← encodeAnchor, formatAnchorBlock, formatAnchorData]

theorem formatAnchorData_fits (g : Layout) : (formatAnchorData g.cut).Fits where
  bandBlocks := Nat.mod_lt _ (by decide)
  bands := Nat.mod_lt _ (by decide)
  spares := Nat.mod_lt _ (by decide)
  conv := Nat.mod_lt _ (by decide)
  logLen := Nat.mod_lt _ (by decide)
  logBase := show Config.logBase < 2 ^ 32 by decide
  tail := show 0 < 2 ^ 32 by decide
  tailSeq := show 1 < 2 ^ 48 by decide
  bytes := show ∀ v ∈ [128, 192, 240, 4, 2, 50], v < 2 ^ 8 by decide
  words := show ∀ v ∈ [256, 2048], v < 2 ^ 16 by decide
  ranges := rfl
  extents := fun e he => by rw [List.eq_of_mem_replicate he]; decide

/-- The retention entries of FORMAT's anchor are zeros: eight that are OFF. -/
theorem formatAnchor_ranges (g : Layout) {j : Nat} (h : 61 ≤ j) (h' : j < 205) :
    byteAt (encodeAnchor (formatAnchorData g.cut)) j = 0 := by
  have hplace : j = 61 + 18 * ((j - 61) / 18) + (j - 61) % 18 := by omega
  have hentry : (formatAnchorData g.cut).ranges[(j - 61) / 18]? = some {} := by
    simp only [formatAnchorData, List.getElem?_replicate]
    exact if_pos (by omega)
  have hzero : ∀ k < 18, byteAt (anchorRange {}) k = 0 := by decide
  rw [hplace, byteAt_of_bytesAt (bytesAt_anchorRange (formatAnchorData_fits g).ranges hentry (w := 1) (by omega))]
  exact hzero _ (Nat.mod_lt _ (by decide))

/-! ### The steps -/

section Steps

variable {s : Part} {f : Format} (hf : s.fmt = some f)
include hf

theorem Part.formatCleared_good (n m : Nat) : s.formatCleared n m .good =
    if f.clearsOpen.filter (· != n) = [] then { s with
      fmt := some { f with step := .resets, clearsOpen := [], resetsOpen := List.range f.layout.bands }
      port.offers := s.port.offers ++ (List.range f.layout.bands).map fun b =>
        { cls := .f, work := .formatReset b, cmd := .bandReset b } }
    else { s with fmt := some { f with clearsOpen := f.clearsOpen.filter (· != n) } } := by
  unfold Part.formatCleared
  rw [hf]
  dsimp only
  rw [if_pos rfl]
  by_cases hlast : f.clearsOpen.filter (· != n) = []
  · rw [if_pos hlast, hlast]
    simp only [List.isEmpty_nil, if_true, Part.startResets, Part.onFmt, Part.offerAll, hf, Option.map_some, hlast]
  · rw [if_neg hlast, if_neg (by simpa using hlast)]
    simp only [Part.onFmt, hf, Option.map_some]

theorem Part.formatCleared_failed {n m : Nat} {code : DriveCode} (hcode : code ≠ .good) : s.formatCleared n m code =
    if n ∈ f.clearsRetried then s.enterHalted .anchorBad
    else { s with
      fmt := some { f with clearsRetried := f.clearsRetried ++ [n] }
      port.offers := s.port.offers ++ [{ cls := .a, work := .formatClear n m, cmd := .write (8 + n) m }] } := by
  unfold Part.formatCleared
  rw [hf]
  dsimp only
  rw [if_neg hcode]
  by_cases hretried : n ∈ f.clearsRetried
  · rw [if_pos hretried, if_pos (List.contains_iff_mem.mpr hretried)]
    rfl
  · rw [if_neg hretried, if_neg (mt List.contains_iff_mem.mp hretried)]
    simp only [Part.onFmt, hf, Option.map_some]
    rfl

theorem Part.formatAnchored_failed {code : DriveCode} (hcode : code ≠ .good) : s.formatAnchored code =
    if f.anchorErrors = 0 then { s with
      fmt := some { f with anchorErrors := 1 }
      port.offers := s.port.offers ++ [{ cls := .a, work := .formatAnchor, cmd := .write 0 1 }] }
    else s.enterHalted .anchorBad := by
  unfold Part.formatAnchored
  rw [hf]
  dsimp only
  rw [if_neg hcode]
  simp only [Part.onFmt, hf, Option.map_some]
  rfl

/-- A reset of FORMAT ends: an error retires its band, and the last one offers the anchor. -/
theorem Part.formatReset_eq (b : Nat) (code : DriveCode) : s.formatReset b code = { s with
    fmt := some { f with
      step := if f.resetsOpen.filter (· != b) = [] then .anchor else f.step
      resetsOpen := f.resetsOpen.filter (· != b)
      retired := if code = .good then f.retired else f.retired ++ [b] }
    win := if code = .good then s.win else s.win.raise .bandRetired (some .drive) none (some b) none none
    port.offers := if f.resetsOpen.filter (· != b) = [] then
        s.port.offers ++ [{ cls := .a, work := .formatAnchor, cmd := .write 0 1 }]
      else s.port.offers } := by
  unfold Part.formatReset
  rw [hf]
  simp only [Part.onFmt, hf, Option.map_some]
  by_cases hlast : f.resetsOpen.filter (· != b) = [] <;> by_cases hcode : code = .good <;>
    simp only [hlast, hcode, List.isEmpty_iff, if_true, if_false] <;> rfl

end Steps

end Sys2Proof.Machine
end

section

/-! ## FORMAT's last steps, settled (R193) -/

namespace Sys2Proof.Machine

theorem Format.bands_eq (f : Format) : f.bands =
    { lbt := List.replicate (f.layout.bands - f.layout.spares) {}
      pool := (List.range f.layout.bands).map fun b => { st := if b ∈ f.retired then .retired else .free }
      free := (List.range f.layout.bands).filter fun b => decide (b ∉ f.retired) } := by
  simp [Format.bands]

/-- FORMAT's anchor is stored: the part is ACTIVE and empty (R193). -/
theorem Part.formatAnchored_good {s : Part} {f : Format} (hf : s.fmt = some f) (hlog : 2 ≤ f.layout.logLen) :
    s.formatAnchored .good = { s with
      sys := { s.sys with mode := .active, halt := .none, layout := f.layout }
      cfg := { loaded := true }
      ret := { s.ret with entries := List.replicate 8 {} }
      bands :=
        { lbt := List.replicate (f.layout.bands - f.layout.spares) {}
          pool := (List.range f.layout.bands).map fun b => { st := if b ∈ f.retired then .retired else .free }
          free := (List.range f.layout.bands).filter fun b => decide (b ∉ f.retired) }
      log := { nextSeq := 1 }
      idx := {}, mrg := {}, pace := {}, mnt := {}, fmt := none
      ini := { s.ini with hold := [], detached := [] }
      win := (s.win.raise .modeChange (some .mode) none none none (some 2)).finish .done [] } := by
  unfold Part.formatAnchored
  rw [hf]
  dsimp only
  rw [if_pos rfl]
  unfold Part.formatDone
  extract_lets cleared sys ret stored
  obtain ⟨t, ht⟩ : ∃ t, t = stored.enter .active .none := ⟨_, rfl⟩
  have hnext : t.nextLevel = .normal := by
    have hlayout : t.sys.layout = f.layout := by rw [ht]; rfl
    have hpolicy : t.cfg.policy = {} := by rw [ht]; rfl
    have hlow : t.tLow = f.layout.logLen * 128 / 256 := by rw [Part.tLow, hlayout, hpolicy]
    have hhigh : t.tHigh = f.layout.logLen * 192 / 256 := by rw [Part.tHigh, hlayout, hpolicy]
    have hhard : t.tHard = f.layout.logLen * 240 / 256 := by rw [Part.tHard, hlayout, hpolicy]
    refine nextLevel_normal (by rw [hlow, hhigh]; omega) (by rw [hhigh, hhard]; omega) (.inl (by rw [ht]; rfl)) ?_
    rw [hlow, show t.log.occ = 0 by rw [ht]; rfl]
    omega
  rw [← ht, Part.evalLevel_calm (by rw [ht]; rfl) hnext (.inl (by rw [ht]; rfl)), ht]
  simp only [stored, sys, ret, cleared, Format.bands_eq]
  rfl

end Sys2Proof.Machine

namespace Sys2Proof
open Sys2Proof.Machine

/-- Settles O51: the anchor's blocks are those its grant carries, field by field; the completions are `formatCleared`,
`formatReset` and `formatAnchored` in their branches. -/
theorem formatClearsResetsAndStores : Obligations.FormatClearsResetsAndStores := by
  refine ⟨fun p q f hreset hf hmode hup hslots ho => ?anchor, ?steps⟩
  case anchor =>
    have hk : p.port.slotFor .a = some 28 := Port.slotFor_reserved (.inl rfl) (by rw [hslots]; rfl)
    have hready : p.Ready { cls := .a, work := .formatAnchor, cmd := .write 0 1 } :=
      ⟨by simp [Part.Held, hmode], fun _ _ h => nomatch h⟩
    have hgrant : p.grantAll = p.granted { cls := .a, work := .formatAnchor, cmd := .write 0 1 } 28 [] :=
      Part.grantAll_only hup ho hready hk
    have hcontent : p.writeContent { cls := .a, work := .formatAnchor, cmd := .write 0 1 } =
        [encodeAnchor (formatAnchorData f.layout.cut)] := by
      simp only [Part.writeContent, hf, formatAnchorBlock_cut]
    have h := formatAnchorData_fits f.layout
    obtain ⟨f8, f12, f16, f18, f26, f30, f34, f38⟩ := h.layout_fields
    obtain ⟨f44, f45, f46, f47, f49, f50, f52, f53⟩ := h.policy_fields
    refine ⟨encodeAnchor (formatAnchorData f.layout.cut),
      p.granted { cls := .a, work := .formatAnchor, cmd := .write 0 1 } 28 [], ?_, ?_, h.signature, f8, f12, f16, f18, f26, f30, f34, f38, f44, f45, f46, f47, f49, f50, f52, f53,
      h.disp_bytes, h.enables, fun j hj hj' => formatAnchor_ranges f.layout hj hj', h.check.1⟩
    · rw [exec_driveGrant, State.act_awake _ hreset, hgrant]
    · rw [← hcontent]
      rfl
  case steps =>
    intro p q k o f hreset hruns hband hf slots fails
    obtain ⟨s, hs⟩ : ∃ s : Machine.Part, s = { p with port.slots := slots } := ⟨_, rfl⟩
    have hsf : s.fmt = some f := by rw [hs]; exact hf
    have hnext : ∀ {t u : Machine.Part}, t = u → (Host.Outcome.next ⟨t, q⟩ : Host.Outcome State Fault Refusal) = .next ⟨u, q⟩ :=
      fun h => congrArg (fun x => Host.Outcome.next (State.mk x q)) h
    have hclear : ∀ code n m, o.work = .formatClear n m → exec (.formatLogClearComplete k code) ⟨p, q⟩ =
        .next ⟨s.formatCleared n m (finalCode code), q⟩ := fun code n m hwork => by
      rw [exec_formatLogClearComplete, State.act_awake _ hreset, Part.complete_runs _ hruns (by rw [hwork]), hband, hwork, hs]
      rfl
    have hresets : ∀ code b, o.work = .formatReset b → exec (.formatBandResetComplete k code) ⟨p, q⟩ =
        .next ⟨s.formatReset b (finalCode code), q⟩ := fun code b hwork => by
      rw [exec_formatBandResetComplete, State.act_awake _ hreset, Part.complete_runs _ hruns (by rw [hwork]), hband, hwork, hs]
      rfl
    have hanchor : ∀ code, o.work = .formatAnchor → exec (.formatAnchorWriteComplete k code) ⟨p, q⟩ =
        .next ⟨s.formatAnchored (finalCode code), q⟩ := fun code hwork => by
      rw [exec_formatAnchorWriteComplete, State.act_awake _ hreset, Part.complete_runs _ hruns (by rw [hwork]; rfl), hband, hs]
      rfl
    have hfails : fails (.next ⟨s.enterHalted .anchorBad, q⟩) := by
      obtain ⟨hsys, hfmt, _, hoffers, hbands, hlog, hidx, hmrg, hcfg, hret⟩ := s.enterHalted_clears .anchorBad
      refine ⟨_, rfl, hsys.trans ?_, hfmt, hbands, hlog, hidx, hmrg, hoffers, hcfg.trans ?_, hret.trans ?_, fun num hnum =>
        (Part.enterHalted_win (s := s) (num := num) _ ?_).trans ?_⟩
      all_goals rw [hs]
      · exact hnum
      · rfl
    refine ⟨fun n m hwork hopen => ?lastClear, fun n m hwork ⟨y, hy, hne⟩ => ?clear, fun n m code hwork hcode =>
      ⟨fun hfirst => ?clearAgain, fun hretried => ?clearFails⟩, fun code hwork hcode =>
        ⟨fun hfirst => ?anchorAgain, fun hretried => ?anchorFails⟩, fun b hwork hopen => ?lastReset,
          fun b hwork ⟨y, hy, hne⟩ => ?reset, fun hwork hlen => ?done⟩
    case lastClear =>
      rw [hclear _ n m hwork, show finalCode .good = .good from rfl, Part.formatCleared_good hsf, if_pos (by simp [hopen]), hs]
    case clear =>
      rw [hclear _ n m hwork, show finalCode .good = .good from rfl, Part.formatCleared_good hsf, if_neg, hs]
      exact fun h => List.filter_eq_nil_iff.mp h y hy (by simpa using hne)
    case clearAgain => rw [hclear _ n m hwork, Part.formatCleared_failed hsf (finalCode_ne_good hcode), if_neg hfirst, hs]
    case clearFails =>
      rw [hclear _ n m hwork, Part.formatCleared_failed hsf (finalCode_ne_good hcode), if_pos hretried]
      exact hfails
    case anchorAgain => rw [hanchor _ hwork, Part.formatAnchored_failed hsf (finalCode_ne_good hcode), if_pos hfirst, hs]
    case anchorFails =>
      rw [hanchor _ hwork, Part.formatAnchored_failed hsf (finalCode_ne_good hcode), if_neg hretried]
      exact hfails
    case lastReset =>
      have hlast : f.resetsOpen.filter (· != b) = [] := by simp [hopen]
      refine ⟨?_, fun code hcode => ?_⟩
      · rw [hresets _ b hwork, Part.formatReset_eq hsf, hlast, if_pos (show finalCode .good = .good from rfl),
          if_pos (show finalCode .good = .good from rfl), hs]
        rfl
      · rw [hresets _ b hwork, Part.formatReset_eq hsf, hlast, if_neg (finalCode_ne_good hcode),
          if_neg (finalCode_ne_good hcode), hs]
        rfl
    case reset =>
      have hmore : f.resetsOpen.filter (· != b) ≠ [] := fun h =>
        List.filter_eq_nil_iff.mp h y hy (by simpa using hne)
      refine ⟨?_, fun code hcode => ?_⟩
      · rw [hresets _ b hwork, Part.formatReset_eq hsf, if_neg hmore, if_neg hmore,
          if_pos (show finalCode .good = .good from rfl), if_pos (show finalCode .good = .good from rfl), hs]
      · rw [hresets _ b hwork, Part.formatReset_eq hsf, if_neg hmore, if_neg hmore, if_neg (finalCode_ne_good hcode),
          if_neg (finalCode_ne_good hcode), hs]
    case done =>
      rw [hanchor _ hwork, show finalCode .good = .good from rfl, Part.formatAnchored_good hsf hlen, hs]

end Sys2Proof
end

section

/-! ## The commands to the control window (R167, R168, R171) -/

namespace Sys2Proof.Machine

/-- Pages past page 1 do not show the events. -/
theorem Part.page_events (s : Part) (es : List Event) {k : Nat} (h : 2 ≤ k) : ({ s with win.events := es } : Part).page k = s.page k := by
  refine congrArg toBlock ?_
  split
  case h_1 => omega
  case h_2 => omega
  all_goals rfl

theorem Part.afterPage_of_ne (s : Part) {k : Nat} (h : k ≠ 1) : s.afterPage k = s := if_neg h

theorem Part.formPages_cons (s : Part) (k n : Nat) :
    s.formPages k (n + 1) = (s.page k :: ((s.afterPage k).formPages (k + 1) n).1, ((s.afterPage k).formPages (k + 1) n).2) := rfl

/-- Pages that page 1 is not among change nothing. -/
theorem Part.formPages_past (s : Part) {k : Nat} (n : Nat) (h : 2 ≤ k) :
    s.formPages k n = ((List.range n).map fun j => s.page (k + j), s) := by
  induction n generalizing k with
  | zero => rfl
  | succ n ih =>
    rw [Part.formPages_cons, s.afterPage_of_ne (by omega), ih (by omega), List.range_succ_eq_map, List.map_cons, List.map_map]
    simp only [Function.comp_def, Nat.add_zero, Nat.succ_eq_add_one, Nat.add_assoc, Nat.add_comm 1]

/-- The part after the pages from `k` on: page 1 removes the events that its block carries. -/
def Part.afterPages (s : Part) (k n : Nat) : Part :=
  { s with win.events := if k ≤ 1 ∧ 1 < k + n then s.win.events.drop 32 else s.win.events }

/-- The pages of a READ, in order and each as it stands (R167, R168). -/
theorem Part.formPages_eq (s : Part) (k n : Nat) :
    s.formPages k n = ((List.range n).map fun j => s.page (k + j), s.afterPages k n) := by
  have hpast : ∀ {k n}, 2 ≤ k → s.afterPages k n = s := fun h => by rw [Part.afterPages, if_neg (by omega)]
  have hone : ∀ n, s.formPages 1 n = ((List.range n).map fun j => s.page (1 + j), s.afterPages 1 n) := fun n => by
    cases n with
    | zero => rfl
    | succ n =>
      have hafter : s.afterPages 1 (n + 1) = { s with win.events := s.win.events.drop 32 } := by
        rw [Part.afterPages, if_pos (by omega)]
      rw [Part.formPages_cons, Part.formPages_past _ n le_rfl, hafter, List.range_succ_eq_map, List.map_cons, List.map_map]
      refine Prod.ext (congrArg (s.page 1 :: ·) (List.map_congr_left fun j _ => ?_)) rfl
      show (s.afterPage 1).page (2 + j) = s.page (1 + (j + 1))
      rw [show 1 + (j + 1) = 2 + j by omega]
      exact s.page_events _ (by omega)
  obtain _ | _ | k := k
  · cases n with
    | zero => rfl
    | succ n =>
      have hafter : s.afterPages 0 (n + 1) = s.afterPages 1 n := by
        simp only [Part.afterPages, show (0 ≤ 1 ∧ 1 < 0 + (n + 1)) ↔ (1 ≤ 1 ∧ 1 < 1 + n) by omega]
      rw [Part.formPages_cons, s.afterPage_of_ne (by decide), hone, hafter, List.range_succ_eq_map, List.map_cons, List.map_map]
      refine Prod.ext (congrArg (s.page 0 :: ·) (List.map_congr_left fun j _ => ?_)) rfl
      exact congrArg s.page (by simp; omega)
  · exact hone n
  · rw [Part.formPages_past s n (by omega), hpast (by omega)]

/-- A READ of the window, on a FREE tag. -/
theorem Part.readFrame_window {s : Part} {tag a n : Nat} (hfree : s.ini.at tag = none) (hen : s.sys.windowEn = true) (hone : 1 ≤ n)
    (hstart : s.logBlocks ≤ a) (hend : a + n ≤ s.logBlocks + 256) :
    s.readFrame tag a n = { s.afterPages (a - s.logBlocks) n with
      ini.sent := s.ini.sent ++ [.data tag ((List.range n).map fun j => s.page (a - s.logBlocks + j)), .status tag .good] } := by
  have hcheck : s.rangeCheck .read a n = .window (a - s.logBlocks) := by
    rw [Part.rangeCheck_of_window (by omega) ⟨hen, hstart, hend⟩]
    exact if_neg (by decide)
  rw [Part.readFrame, Part.tagged_free hfree, hcheck]
  simp only [Part.windowRead, Part.formPages_eq, Part.send, Part.afterPages, List.append_assoc, List.singleton_append]

/-- A WRITE to the window, on a FREE tag. -/
theorem Part.writeFrame_window {s : Part} {tag a n : Nat} (hfree : s.ini.at tag = none) (hen : s.sys.windowEn = true) (hone : 1 ≤ n)
    (hstart : s.logBlocks ≤ a) (hend : a + n ≤ s.logBlocks + 256) :
    s.writeFrame tag a n = { s with
      ini.nextCid := s.ini.nextCid + 1
      ini.tags := s.ini.tags.set tag (some
        { cid := s.ini.nextCid, tag := tag, cls := .write, lba := a, count := n, st := .working,
          window := true, page := a - s.logBlocks })
      ini.sent := s.ini.sent ++ [.solicit tag n] } := by
  have hcheck : s.rangeCheck .write a n = .window (a - s.logBlocks) := by
    rw [Part.rangeCheck_of_window (by omega) ⟨hen, hstart, hend⟩]
    exact if_neg (by decide)
  rw [Part.writeFrame, Part.tagged_free hfree, hcheck]
  simp only [Part.windowWrite, show s.logBlocks + (a - s.logBlocks) = a by omega]
  rfl

/-- ALERT_N is low while a class is both pending and enabled (R173). -/
theorem Part.alertLow_iff (s : Part) : s.alertLow = true ↔
    s.sys.inReset = false ∧ ∃ k, k < 8 ∧ s.win.pending.getLsbD k = true ∧ s.cfg.enables.getLsbD k = true := by
  rw [Part.alertLow, Bool.and_eq_true, Bool.not_eq_true', bne_iff_ne]
  refine and_congr_right fun _ => ⟨fun hne => ?_, fun ⟨k, hk, hp, he⟩ h => ?_⟩
  · by_contra hno
    refine hne (BitVec.eq_of_getLsbD_eq fun k hk => ?_)
    show _ = (0#8).getLsbD k
    rw [BitVec.getLsbD_and, BitVec.getLsbD_zero]
    by_contra hbit
    exact hno ⟨k, hk, by simpa using hbit⟩
  · have := congrArg (fun v => v.getLsbD k) h
    simp [hp, he] at this

end Sys2Proof.Machine
end

section

/-! ## The layouts of the window's pages (R202 to R206)

Each page is a list of pieces, one after another; a field stands at the sum of the lengths of the pieces before it
(`bytesAt_flatten`). -/

namespace Sys2Proof.Machine

/-! ### Fields of pieces -/

/-- The first 4,096 bytes of a block stand as they were given. -/
theorem byteAt_toBlock_of_lt (bs : List Byte) {i : Nat} (h : i < 4096) : byteAt (toBlock bs) i = byteAt bs i := by
  have hcut : toBlock bs = toBlock (bs.take blockBytes) := by
    rw [toBlock, toBlock, List.take_take, Nat.min_self]
  rw [hcut, byteAt_toBlock _ i (List.length_take_le ..), byteAt, List.getD_eq_getElem?_getD, List.getD_eq_getElem?_getD,
    List.getElem?_take_of_lt (show i < blockBytes from h)]

theorem bytesAt_toBlock_of_le (bs : List Byte) {off w : Nat} (h : off + w ≤ 4096) : bytesAt (toBlock bs) off w = bytesAt bs off w :=
  List.map_congr_left fun k hk => byteAt_toBlock_of_lt bs (by have := List.mem_range.mp hk; omega)

theorem field_toBlock_of_le (bs : List Byte) {off w : Nat} (h : off + w ≤ 4096) : field (toBlock bs) off w = field bs off w :=
  congrArg leNat (bytesAt_toBlock_of_le bs h)

/-- The bytes of the `i`-th piece stand behind the pieces before it. -/
theorem bytesAt_flatten {ps : List (List Byte)} {i : Nat} {x : List Byte} (hx : ps[i]? = some x) {start off w : Nat}
    (hstart : ((ps.take i).map List.length).sum = start) (h : off + w ≤ x.length) :
    bytesAt ps.flatten (start + off) w = bytesAt x off w := by
  induction ps generalizing i start with
  | nil => simp at hx
  | cons y ps ih =>
    rw [List.flatten_cons]
    cases i with
    | zero =>
      obtain rfl : y = x := by simpa using hx
      obtain rfl : 0 = start := by simpa using hstart
      rw [Nat.zero_add, bytesAt_append_left h]
    | succ i =>
      rw [List.take_succ_cons, List.map_cons, List.sum_cons] at hstart
      rw [bytesAt_append_right (by omega), show start + off - y.length = start - y.length + off by omega,
        ih (by simpa using hx) (by omega)]

/-- What a field of `w` bytes reads that may be absent: the number modulo their range, or all ones (R195). -/
def optValue (w : Nat) : Option Nat → Nat
  | some n => n % 256 ^ w
  | none => 256 ^ w - 1

section Pieces

variable {ps : List (List Byte)} {lengths : List Nat} {i start : Nat} (hlengths : ps.map List.length = lengths)
  (hstart : (lengths.take i).sum = start)
include hlengths hstart

theorem sum_take_lengths : ((ps.take i).map List.length).sum = start := by rw [List.map_take, hlengths, hstart]

theorem field_flatten {x : List Byte} (hx : ps[i]? = some x) {w : Nat} (h : w ≤ x.length) :
    field ps.flatten start w = field x 0 w :=
  congrArg leNat (bytesAt_flatten (off := 0) hx (sum_take_lengths hlengths hstart) (by omega))

/-- A piece that holds a number. -/
theorem field_number {w x : Nat} (hx : ps[i]? = some (le w x)) : field ps.flatten start w = x % 256 ^ w := by
  rw [field_flatten hlengths hstart hx (by simp), field, bytesAt_whole (le_length w x).symm, leNat_le]

/-- A piece that holds a number, or all ones where it is absent (R195). -/
theorem field_optional {w : Nat} {o : Option Nat} (hx : ps[i]? = some (leOpt w o)) :
    field ps.flatten start w = optValue w o := by
  rw [field_flatten hlengths hstart hx (by simp), field, bytesAt_whole (leOpt_length w o).symm]
  cases o with
  | some n => exact leNat_le w n
  | none =>
    show leNat (List.replicate w 0xFF) = 256 ^ w - 1
    clear hx hlengths hstart
    induction w with
    | zero => rfl
    | succ w ih =>
      have hpos : 0 < 256 ^ w := Nat.pow_pos (by decide)
      rw [List.replicate_succ, leNat, ih, Nat.pow_succ]
      show 255 + 256 * (256 ^ w - 1) = _
      omega

theorem byteAt_flatten {x : List Byte} (hx : ps[i]? = some x) {k : Nat} (h : k < x.length) :
    byteAt ps.flatten (start + k) = byteAt x k :=
  byteAt_of_bytesAt (bytesAt_flatten hx (sum_take_lengths hlengths hstart) (by omega))

/-- A piece of one byte. -/
theorem byteAt_single {x : Byte} (hx : ps[i]? = some [x]) : byteAt ps.flatten start = x :=
  byteAt_flatten hlengths hstart hx (k := 0) (by simp)

/-- A byte that holds an encoded value. -/
theorem field_single {n : Nat} (hx : ps[i]? = some [BitVec.ofNat 8 n]) : field ps.flatten start 1 = n % 256 ^ 1 := by
  rw [field_one, byteAt_single hlengths hstart hx, BitVec.toNat_ofNat, Nat.pow_one]

end Pieces

/-- Padding with zeros changes no byte within the length. -/
theorem byteAt_fit {n k : Nat} (bs : List Byte) (h : k < n) : byteAt (fit n 0 bs) k = byteAt bs k := by
  unfold fit
  simp only [byteAt, List.getD_eq_getElem?_getD]
  by_cases hk : k < bs.length
  · rw [List.getElem?_append_left (by rw [List.length_take]; omega), List.getElem?_take_of_lt h]
  · rw [List.getElem?_append_right (by rw [List.length_take]; omega), List.getElem?_eq_none (l := bs) (by omega),
      List.getElem?_replicate]
    split <;> rfl

theorem field_fit {n off w : Nat} (bs : List Byte) (h : off + w ≤ n) : field (fit n 0 bs) off w = field bs off w :=
  congrArg leNat (List.map_congr_left fun k hk => byteAt_fit bs (by have := List.mem_range.mp hk; omega))

/-! ### STATUS (R202) -/

/-- The two numbers of a context: of its copy, or of its carry-forward pass. -/
def Part.ctxCounts (s : Part) (i : Nat) : Nat × Nat :=
  match (s.mrg.ctx i).carry with
  | some p =>
    (p.blocksRead, match s.log.find p.seq with
      | some r => if r.kind = RecKind.data then r.live else 0
      | none => 0)
  | none => ((s.mrg.ctx i).copied, (s.mrg.ctx i).newFill)

/-- The pieces of STATUS that read 0 in the unmounted modes, from offset 2 on. -/
def Part.middlePieces (s : Part) : List (List Byte) :=
  [[BitVec.ofNat 8 (levelNum s.pace.level)], [flagByte s.idx.pressure], le 4 s.log.occ, le 4 s.sys.layout.logLen,
    le 4 s.log.head, le 4 s.log.reclaim, le 4 s.log.tail, le 6 s.log.nextSeq, le 6 s.log.settled, le 2 s.log.table.length,
    le 4 s.bands.free.length, le 4 (s.bands.countP .resetPending), le 4 (s.bands.countP .retired),
    le 1 (s.bands.countP .target), le 1 s.mrg.reqs.length, le 4 s.idx.extents.length, le 4 s.idx.reserved,
    [BitVec.ofNat 8 (ctxNum (s.mrg.ctx 0).st)], leOpt 4 (s.mrg.ctx 0).band, le 4 (s.ctxCounts 0).1, le 4 (s.ctxCounts 0).2,
    [BitVec.ofNat 8 (ctxNum (s.mrg.ctx 1).st)], leOpt 4 (s.mrg.ctx 1).band, le 4 (s.ctxCounts 1).1, le 4 (s.ctxCounts 1).2,
    [flagByte s.mrg.drain.isSome]]

/-- The same bytes in an unmounted mode. -/
def unmountedMiddle : List Byte := zeros 59 ++ absent 4 ++ zeros 9 ++ absent 4 ++ zeros 9

/-- The bytes of STATUS from offset 2 to 86. -/
def Part.statusMiddle (s : Part) : List Byte := if s.mounted then s.middlePieces.flatten else unmountedMiddle

/-- The pieces of STATUS. -/
def Part.statusPieces (s : Part) : List (List Byte) :=
  [[BitVec.ofNat 8 (modeNum s.sys.mode)], [BitVec.ofNat 8 (haltNum s.sys.halt)], s.statusMiddle, le 4 s.ini.hold.length,
    le 1 s.ini.accept.length, le 1 s.ref.queue.length, [s.win.pending], [s.cfg.enables], leOpt 1 s.win.firstPending,
    [flagByte s.ret.latch.isSome], [flagByte s.ret.more], le 1 s.win.events.length, [flagByte s.win.overflow],
    le 2 s.win.nextEvent.toNat, [flagByte s.win.dirPending.isSome],
    le 4 (match s.win.dirPending with
      | some d => d.num.toNat
      | none => 0)]

theorem Part.statusBytes_eq (s : Part) : s.statusBytes = s.statusPieces.flatten := by
  unfold Part.statusBytes Part.statusPieces Part.statusMiddle Part.ctxStatus
  cases hm : s.mounted with
  | true =>
    simp only [if_true, Bool.true_and, Part.middlePieces, Part.ctxCounts, List.flatten_cons, List.flatten_nil, List.append_nil,
      List.append_assoc, List.cons_append, List.nil_append] <;> rfl
  | false =>
    simp only [Bool.false_eq_true, if_false, Bool.false_and, List.flatten_cons, List.flatten_nil, List.append_nil]
    simp only [List.append_assoc]
    rfl

theorem Part.statusMiddle_length (s : Part) : s.statusMiddle.length = 85 := by
  unfold Part.statusMiddle
  split
  · simp [Part.middlePieces]
  · rfl

theorem Part.middlePieces_lengths (s : Part) : s.middlePieces.map List.length =
    [1, 1, 4, 4, 4, 4, 4, 6, 6, 2, 4, 4, 4, 1, 1, 4, 4, 1, 4, 4, 4, 1, 4, 4, 4, 1] := by simp [Part.middlePieces]

theorem Part.statusPieces_lengths (s : Part) :
    s.statusPieces.map List.length = [1, 1, 85, 4, 1, 1, 1, 1, 1, 1, 1, 1, 1, 2, 1, 4] := by
  simp [Part.statusPieces, Part.statusMiddle_length]

/-- A field of the middle of STATUS. -/
theorem Part.bytesAt_statusMiddle (s : Part) {off w : Nat} (h : off + w ≤ 85) :
    bytesAt s.statusPieces.flatten (2 + off) w = bytesAt s.statusMiddle off w :=
  bytesAt_flatten (i := 2) rfl (sum_take_lengths s.statusPieces_lengths rfl) (by rwa [s.statusMiddle_length])

theorem Part.field_statusMiddle {s : Part} (hm : s.mounted = true) {off w : Nat} (h : off + w ≤ 85) :
    field s.statusPieces.flatten (2 + off) w = field s.middlePieces.flatten off w := by
  rw [field, s.bytesAt_statusMiddle h, Part.statusMiddle, if_pos hm, field]

theorem Part.byteAt_statusMiddle {s : Part} (hm : s.mounted = true) {k : Nat} (h : k < 85) :
    byteAt s.statusPieces.flatten (2 + k) = byteAt s.middlePieces.flatten k := by
  refine byteAt_of_bytesAt ((s.bytesAt_statusMiddle h).trans ?_)
  rw [Part.statusMiddle, if_pos hm]

theorem Window.firstPending_eq_none {w : Window} (h : w.pending = 0) : w.firstPending = none := by
  rw [Window.firstPending, List.find?_eq_none, h]
  intro k _
  simp

theorem Window.firstPending_eq_some {w : Window} {k : Nat} (hk : k < 8) (hset : w.pending.getLsbD k = true)
    (hfirst : ∀ j, j < k → w.pending.getLsbD j = false) : w.firstPending = some k := by
  rw [Window.firstPending, List.find?_range_eq_some]
  exact ⟨hset, by simpa using hk, fun j hj => by rw [hfirst j hj]; rfl⟩

/-! ### EVENTS, RESPONSES, REFERRALS and RANGES (R203 to R206) -/

/-- The pieces of an event record. -/
def Event.pieces (e : Event) : List (List Byte) :=
  [le 2 e.num.toNat, [BitVec.ofNat 8 (eventNum e.kind)],
    [BitVec.ofNat 8 ((if e.band.isSome then 1 else 0) + (if e.phys.isSome then 2 else 0) + (if e.count.isSome then 4 else 0) +
      (if e.code.isSome then 8 else 0))],
    leOpt 4 e.band, leOpt 4 e.phys, leOpt 6 e.count, leOpt 2 e.code]

theorem Event.bytes_eq (e : Event) : e.bytes = e.pieces.flatten := by simp [Event.bytes, Event.pieces]

theorem Event.pieces_lengths (e : Event) : e.pieces.map List.length = [2, 1, 1, 4, 4, 6, 2] := by simp [Event.pieces]

theorem Event.bytes_length (e : Event) : e.bytes.length = 20 := by simp [Event.bytes]

/-- The pieces of the EVENTS block. -/
def Part.eventsPieces (s : Part) : List (List Byte) :=
  [le 1 (s.win.events.take 32).length, [flagByte s.win.overflow], zeros 6,
    if (s.win.events.take 32).isEmpty then s.statusBytes else (s.win.events.take 32).flatMap Event.bytes]

theorem Part.eventsBytes_eq (s : Part) : s.eventsBytes = s.eventsPieces.flatten := by
  simp [Part.eventsBytes, Part.eventsPieces, Config.eventsPerBlock]

theorem Part.bytesAt_eventsBody (s : Part) {body : List Byte} (hbody : (if (s.win.events.take 32).isEmpty then s.statusBytes
      else (s.win.events.take 32).flatMap Event.bytes) = body) {off w : Nat} (h : off + w ≤ body.length) :
    bytesAt s.eventsPieces.flatten (8 + off) w = bytesAt body off w :=
  bytesAt_flatten (i := 3) (congrArg some hbody) (by simp [Part.eventsPieces]) h

/-- A field of the `i`-th event record. -/
theorem Part.bytesAt_event {s : Part} {i : Nat} {e : Event} (hi : i < 32) (he : s.win.events[i]? = some e) {off w : Nat}
    (h : off + w ≤ 20) : bytesAt (toBlock s.eventsBytes) (8 + 20 * i + off) w = bytesAt e.pieces.flatten off w := by
  have htake : (s.win.events.take 32)[i]? = some e := by rw [List.getElem?_take_of_lt hi, he]
  have hsome : (s.win.events.take 32).isEmpty = false := by
    cases hes : s.win.events.take 32 with
    | nil => rw [hes] at htake; exact nomatch htake
    | cons => rfl
  have hlen : 20 * i + off + w ≤ ((s.win.events.take 32).flatMap Event.bytes).length := by
    have := (List.getElem?_eq_some_iff.mp htake).1
    simp only [List.length_flatMap, Event.bytes_length, List.map_const', List.sum_replicate, smul_eq_mul]
    omega
  rw [bytesAt_toBlock_of_le _ (by omega), s.eventsBytes_eq, Nat.add_assoc,
    s.bytesAt_eventsBody (by rw [hsome]; rfl) hlen, bytesAt_flatMap Event.bytes_length htake h, e.bytes_eq]

/-- The pieces of a response entry. -/
def Response.pieces (r : Response) : List (List Byte) :=
  [le 4 r.num.toNat, [r.code], [BitVec.ofNat 8 (resultNum r.result)], le 2 r.data.length, fit 32 0 r.data]

theorem Response.bytes_eq (r : Response) : r.bytes = r.pieces.flatten := by simp [Response.bytes, Response.pieces]

theorem Response.pieces_lengths (r : Response) : r.pieces.map List.length = [4, 1, 1, 2, 32] := by simp [Response.pieces]

theorem Response.bytes_length (r : Response) : r.bytes.length = 40 := by simp [Response.bytes]

theorem Window.bytesAt_response {w : Window} {i : Nat} {x : Response} (hi : i < 8) (hx : w.responses[i]? = some x) {off n : Nat}
    (h : off + n ≤ 40) : bytesAt (toBlock w.responsesBytes) (8 + 40 * i + off) n = bytesAt x.pieces.flatten off n := by
  rw [bytesAt_toBlock_of_le _ (by omega), Window.responsesBytes, bytesAt_append_right (by simp; omega),
    show 8 + 40 * i + off - (le 1 w.responses.length ++ zeros 7).length = 40 * i + off by simp; omega,
    bytesAt_flatMap Response.bytes_length hx h, x.bytes_eq]

/-- The pieces of a referral entry. -/
def ReferralEntry.pieces (e : ReferralEntry) : List (List Byte) :=
  [le 2 e.id, le 1 e.tag, [BitVec.ofNat 8 (clsNum e.cls)], [BitVec.ofNat 8 (stageNum e.stage)], le 1 e.ticks,
    [BitVec.ofNat 8 (dirNum e.dir)], [e.opcode], le 8 e.lba, le 4 e.count, fit 16 0 e.params, zeros 12]

theorem ReferralEntry.bytes_eq (e : ReferralEntry) : e.bytes = e.pieces.flatten := by
  simp [ReferralEntry.bytes, ReferralEntry.pieces]

theorem ReferralEntry.pieces_lengths (e : ReferralEntry) : e.pieces.map List.length = [2, 1, 1, 1, 1, 1, 1, 8, 4, 16, 12] := by
  simp [ReferralEntry.pieces]

theorem ReferralEntry.bytes_length (e : ReferralEntry) : e.bytes.length = 48 := by simp [ReferralEntry.bytes]

/-- The pieces of the REFERRALS page ahead of its entries. -/
def Referral.pieces (r : Referral) : List (List Byte) :=
  [le 1 r.queue.length, le 1 r.expired.length, le 2 r.nextId, fit 8 0 (r.expired.flatMap (le 2)), zeros 4,
    r.queue.flatMap ReferralEntry.bytes]

theorem Referral.bytes_eq (r : Referral) : r.bytes = r.pieces.flatten := by simp [Referral.bytes, Referral.pieces]

theorem Referral.pieces_lengths (r : Referral) :
    r.pieces.map List.length = [1, 1, 2, 8, 4, (r.queue.flatMap ReferralEntry.bytes).length] := by simp [Referral.pieces]

theorem Referral.bytesAt_entry {r : Referral} {i : Nat} {e : ReferralEntry} (hi : i < 4) (he : r.queue[i]? = some e) {off w : Nat}
    (h : off + w ≤ 48) : bytesAt (toBlock r.bytes) (16 + 48 * i + off) w = bytesAt e.pieces.flatten off w := by
  have hlen : 48 * i + off + w ≤ (r.queue.flatMap ReferralEntry.bytes).length := by
    have := (List.getElem?_eq_some_iff.mp he).1
    simp only [List.length_flatMap, ReferralEntry.bytes_length, List.map_const', List.sum_replicate, smul_eq_mul]
    omega
  rw [bytesAt_toBlock_of_le _ (by omega), r.bytes_eq, Nat.add_assoc,
    bytesAt_flatten (i := 5) (start := 16) rfl (sum_take_lengths r.pieces_lengths rfl) hlen,
    bytesAt_flatMap ReferralEntry.bytes_length he h, e.bytes_eq]

/-- The ids of the expired list, four at most. -/
theorem Referral.field_expired (r : Referral) {j : Nat} (hj : j < 4) :
    field r.pieces.flatten (4 + 2 * j) 2 = r.expired.getD j 0 % 256 ^ 2 := by
  have hbytes : field r.pieces.flatten (4 + 2 * j) 2 = field (r.expired.flatMap (le 2)) (2 * j) 2 := by
    rw [field, bytesAt_flatten (i := 3) (start := 4) (off := 2 * j) (w := 2) rfl
      (sum_take_lengths r.pieces_lengths rfl) (by rw [fit_length]; omega), ← field,
      field_fit _ (by omega)]
  rw [hbytes, List.getD_eq_getElem?_getD]
  cases hx : r.expired[j]? with
  | some x =>
    rw [field, ← Nat.add_zero (2 * j), bytesAt_flatMap (le_length 2) hx le_rfl, bytesAt_whole (le_length 2 x).symm, leNat_le]
    rfl
  | none =>
    have hlen : (r.expired.flatMap (le 2)).length ≤ 2 * j := by
      have := List.getElem?_eq_none_iff.mp hx
      simp only [List.length_flatMap, le_length, List.map_const', List.sum_replicate, smul_eq_mul]
      omega
    have hzero : ∀ k, byteAt (r.expired.flatMap (le 2)) (2 * j + k) = 0 := fun k => List.getD_eq_default _ _ (by omega)
    simp [field, bytesAt, leNat, List.range_succ, hzero]

/-- The pieces of a retention entry. -/
def RangeEntry.pieces (e : RangeEntry) : List (List Byte) :=
  [le 8 e.start, le 8 e.length, [BitVec.ofNat 8 (rangeNum e.mode)], [flagByte e.fixed], [flagByte e.activity], [0], le 2 e.count,
    zeros 10]

theorem RangeEntry.bytes_eq (e : RangeEntry) : e.bytes = e.pieces.flatten := by simp [RangeEntry.bytes, RangeEntry.pieces]

theorem RangeEntry.pieces_lengths (e : RangeEntry) : e.pieces.map List.length = [8, 8, 1, 1, 1, 1, 2, 10] := by
  simp [RangeEntry.pieces]

theorem RangeEntry.bytes_length (e : RangeEntry) : e.bytes.length = 32 := by simp [RangeEntry.bytes]

theorem Retention.bytesAt_entry {r : Retention} {i : Nat} {e : RangeEntry} (hi : i < 8) (he : r.entries[i]? = some e) {off w : Nat}
    (h : off + w ≤ 32) : bytesAt (toBlock r.bytes) (32 * i + off) w = bytesAt e.pieces.flatten off w := by
  have hfit : bytesAt (fit 256 0 (r.entries.flatMap RangeEntry.bytes)) (32 * i + off) w =
      bytesAt (r.entries.flatMap RangeEntry.bytes) (32 * i + off) w :=
    List.map_congr_left fun k hk => byteAt_fit _ (by have := List.mem_range.mp hk; omega)
  rw [bytesAt_toBlock_of_le _ (by omega), Retention.bytes, bytesAt_append_left (by rw [fit_length]; omega), hfit,
    bytesAt_flatMap RangeEntry.bytes_length he h, e.bytes_eq]

/-- The pieces of the latch. -/
def Retention.latchPieces (r : Retention) (l : Latch) : List (List Byte) :=
  [fit 256 0 (r.entries.flatMap RangeEntry.bytes), [1], [flagByte r.more], le 1 l.tag, [BitVec.ofNat 8 (clsNum l.cls)],
    le 1 l.index, zeros 3, le 8 l.lba, le 4 l.count]

theorem Retention.bytes_latch {r : Retention} {l : Latch} (h : r.latch = some l) : r.bytes = (r.latchPieces l).flatten := by
  simp [Retention.bytes, Retention.latchPieces, h]

theorem Retention.latchPieces_lengths (r : Retention) (l : Latch) :
    (r.latchPieces l).map List.length = [256, 1, 1, 1, 1, 1, 3, 8, 4] := by simp [Retention.latchPieces]

end Sys2Proof.Machine
end

section

/-! ## The pages of the control window, field by field (R167 to R173, R202 to R206) -/

namespace Sys2Proof.Machine

/-- The fields that STATUS has in every mode (R202). -/
theorem Part.status_always (p : Part) :
    let b := toBlock p.statusBytes
    (field b 0 1 = modeNum p.sys.mode % 256 ^ 1 ∧ field b 1 1 = haltNum p.sys.halt % 256 ^ 1) ∧
    field b 87 4 = p.ini.hold.length % 256 ^ 4 ∧ field b 91 1 = p.ini.accept.length % 256 ^ 1 ∧
    field b 92 1 = p.ref.queue.length % 256 ^ 1 ∧ byteAt b 93 = p.win.pending ∧ byteAt b 94 = p.cfg.enables ∧
    (p.win.pending = 0 → field b 95 1 = 255 % 256 ^ 1) ∧
    (∀ k, k < 8 → p.win.pending.getLsbD k = true → (∀ j, j < k → p.win.pending.getLsbD j = false) →
      field b 95 1 = k % 256 ^ 1) ∧
    byteAt b 96 = flagByte p.ret.latch.isSome ∧ byteAt b 97 = flagByte p.ret.more ∧
    field b 98 1 = p.win.events.length % 256 ^ 1 ∧ byteAt b 99 = flagByte p.win.overflow ∧
    field b 100 2 = p.win.nextEvent.toNat % 256 ^ 2 ∧ byteAt b 102 = flagByte p.win.dirPending.isSome ∧
    field b 103 4 = ((p.win.dirPending.map (·.num.toNat)).getD 0) % 256 ^ 4 := by
  intro b
  have hfield : ∀ {off w : Nat}, off + w ≤ 4096 → field b off w = field p.statusPieces.flatten off w := fun h => by
    rw [show b = toBlock p.statusBytes from rfl, p.statusBytes_eq, field_toBlock_of_le _ h]
  have hbyte : ∀ {off : Nat}, off < 4096 → byteAt b off = byteAt p.statusPieces.flatten off := fun h => by
    rw [show b = toBlock p.statusBytes from rfl, p.statusBytes_eq, byteAt_toBlock_of_lt _ h]
  have hls := p.statusPieces_lengths
  have hfirst : ∀ {o}, p.win.firstPending = o → p.statusPieces[8]? = some (leOpt 1 o) := fun h => h ▸ rfl
  refine ⟨⟨?mode, ?halt⟩, ?hold, ?accept, ?queue, ?pending, ?enables, fun hnone => ?nonePending, fun k hk hset hlow => ?firstPending,
    ?latch, ?more, ?events, ?overflow, ?nextEvent, ?directive, ?number⟩
  case mode => exact (hfield (by decide)).trans (field_single hls (i := 0) rfl rfl)
  case halt => exact (hfield (by decide)).trans (field_single hls (i := 1) rfl rfl)
  case hold => exact (hfield (by decide)).trans (field_number hls (i := 3) rfl rfl)
  case accept => exact (hfield (by decide)).trans (field_number hls (i := 4) rfl rfl)
  case queue => exact (hfield (by decide)).trans (field_number hls (i := 5) rfl rfl)
  case pending => exact (hbyte (by decide)).trans (byteAt_single hls (i := 6) rfl rfl)
  case enables => exact (hbyte (by decide)).trans (byteAt_single hls (i := 7) rfl rfl)
  case nonePending =>
    exact (hfield (by decide)).trans (field_optional hls (i := 8) rfl (hfirst (Window.firstPending_eq_none hnone)))
  case firstPending =>
    exact (hfield (by decide)).trans (field_optional hls (i := 8) rfl (hfirst (Window.firstPending_eq_some hk hset hlow)))
  case latch => exact (hbyte (by decide)).trans (byteAt_single hls (i := 9) rfl rfl)
  case more => exact (hbyte (by decide)).trans (byteAt_single hls (i := 10) rfl rfl)
  case events => exact (hfield (by decide)).trans (field_number hls (i := 11) rfl rfl)
  case overflow => exact (hbyte (by decide)).trans (byteAt_single hls (i := 12) rfl rfl)
  case nextEvent => exact (hfield (by decide)).trans (field_number hls (i := 13) rfl rfl)
  case directive => exact (hbyte (by decide)).trans (byteAt_single hls (i := 14) rfl rfl)
  case number =>
    refine (hfield (by decide)).trans ((field_number hls (i := 15) rfl rfl).trans ?_)
    cases p.win.dirPending <;> rfl

theorem Bands.countP_eq (b : Bands) (st : PState) : b.countP st = b.pool.countP (·.st == st) := List.countP_eq_length_filter.symm

/-- The fields of STATUS of the log, the pool, the index and the merge engine, where the part is mounted (R202). -/
theorem Part.status_mounted {p : Part} (hm : p.mounted = true) :
    let b := toBlock p.statusBytes
    field b 2 1 = levelNum p.pace.level % 256 ^ 1 ∧ byteAt b 3 = flagByte p.idx.pressure ∧
    field b 4 4 = p.log.occ % 256 ^ 4 ∧ field b 8 4 = p.sys.layout.logLen % 256 ^ 4 ∧ field b 12 4 = p.log.head % 256 ^ 4 ∧
    field b 16 4 = p.log.reclaim % 256 ^ 4 ∧ field b 20 4 = p.log.tail % 256 ^ 4 ∧ field b 24 6 = p.log.nextSeq % 256 ^ 6 ∧
    field b 30 6 = p.log.settled % 256 ^ 6 ∧ field b 36 2 = p.log.table.length % 256 ^ 2 ∧
    field b 38 4 = p.bands.free.length % 256 ^ 4 ∧
    field b 42 4 = (p.bands.pool.countP (·.st == .resetPending)) % 256 ^ 4 ∧
    field b 46 4 = (p.bands.pool.countP (·.st == .retired)) % 256 ^ 4 ∧
    field b 50 1 = (p.bands.pool.countP (·.st == .target)) % 256 ^ 1 ∧ field b 51 1 = p.mrg.reqs.length % 256 ^ 1 ∧
    field b 52 4 = p.idx.extents.length % 256 ^ 4 ∧ field b 56 4 = p.idx.reserved % 256 ^ 4 ∧
    (∀ i : Fin 2,
      field b (60 + 13 * i.val) 1 = ctxNum (p.mrg.ctx i).st % 256 ^ 1 ∧
      field b (60 + 13 * i.val + 1) 4 = optValue 4 (p.mrg.ctx i).band ∧
      field b (60 + 13 * i.val + 5) 4 = (p.ctxCounts i).1 % 256 ^ 4 ∧
      field b (60 + 13 * i.val + 9) 4 = (p.ctxCounts i).2 % 256 ^ 4) ∧
    byteAt b 86 = flagByte p.mrg.drain.isSome := by
  intro b
  have hfield : ∀ {off w : Nat}, off + w ≤ 85 → field b (2 + off) w = field p.middlePieces.flatten off w := fun h => by
    rw [show b = toBlock p.statusBytes from rfl, p.statusBytes_eq, field_toBlock_of_le _ (by omega), Part.field_statusMiddle hm h]
  have hbyte : ∀ {off : Nat}, off < 85 → byteAt b (2 + off) = byteAt p.middlePieces.flatten off := fun h => by
    rw [show b = toBlock p.statusBytes from rfl, p.statusBytes_eq, byteAt_toBlock_of_lt _ (by omega), Part.byteAt_statusMiddle hm h]
  have hls := p.middlePieces_lengths
  simp only [← Bands.countP_eq]
  refine ⟨?level, ?pressure, ?occ, ?logLen, ?head, ?reclaim, ?tail, ?nextSeq, ?settled, ?table, ?free, ?resets, ?retired, ?targets,
    ?reqs, ?extents, ?reserved, fun i => ?contexts, ?drain⟩
  case level => exact (hfield (off := 0) (by decide)).trans (field_single hls (i := 0) rfl rfl)
  case pressure => exact (hbyte (off := 1) (by decide)).trans (byteAt_single hls (i := 1) rfl rfl)
  case occ => exact (hfield (off := 2) (by decide)).trans (field_number hls (i := 2) rfl rfl)
  case logLen => exact (hfield (off := 6) (by decide)).trans (field_number hls (i := 3) rfl rfl)
  case head => exact (hfield (off := 10) (by decide)).trans (field_number hls (i := 4) rfl rfl)
  case reclaim => exact (hfield (off := 14) (by decide)).trans (field_number hls (i := 5) rfl rfl)
  case tail => exact (hfield (off := 18) (by decide)).trans (field_number hls (i := 6) rfl rfl)
  case nextSeq => exact (hfield (off := 22) (by decide)).trans (field_number hls (i := 7) rfl rfl)
  case settled => exact (hfield (off := 28) (by decide)).trans (field_number hls (i := 8) rfl rfl)
  case table => exact (hfield (off := 34) (by decide)).trans (field_number hls (i := 9) rfl rfl)
  case free => exact (hfield (off := 36) (by decide)).trans (field_number hls (i := 10) rfl rfl)
  case resets => exact (hfield (off := 40) (by decide)).trans (field_number hls (i := 11) rfl rfl)
  case retired => exact (hfield (off := 44) (by decide)).trans (field_number hls (i := 12) rfl rfl)
  case targets => exact (hfield (off := 48) (by decide)).trans (field_number hls (i := 13) rfl rfl)
  case reqs => exact (hfield (off := 49) (by decide)).trans (field_number hls (i := 14) rfl rfl)
  case extents => exact (hfield (off := 50) (by decide)).trans (field_number hls (i := 15) rfl rfl)
  case reserved => exact (hfield (off := 54) (by decide)).trans (field_number hls (i := 16) rfl rfl)
  case drain => exact (hbyte (off := 84) (by decide)).trans (byteAt_single hls (i := 25) rfl rfl)
  case contexts =>
    match i with
    | 0 => exact ⟨(hfield (off := 58) (by decide)).trans (field_single hls (i := 17) rfl rfl),
        (hfield (off := 59) (by decide)).trans (field_optional hls (i := 18) rfl rfl),
        (hfield (off := 63) (by decide)).trans (field_number hls (i := 19) rfl rfl),
        (hfield (off := 67) (by decide)).trans (field_number hls (i := 20) rfl rfl)⟩
    | 1 => exact ⟨(hfield (off := 71) (by decide)).trans (field_single hls (i := 21) rfl rfl),
        (hfield (off := 72) (by decide)).trans (field_optional hls (i := 22) rfl rfl),
        (hfield (off := 76) (by decide)).trans (field_number hls (i := 23) rfl rfl),
        (hfield (off := 80) (by decide)).trans (field_number hls (i := 24) rfl rfl)⟩

/-- In the unmounted modes those fields are 0, and no context has a band (R169). -/
theorem Part.status_unmounted {p : Part} (hm : p.mounted = false) :
    let b := toBlock p.statusBytes
    (∀ k, 2 ≤ k → k < 87 → (k < 61 ∨ 64 < k) → (k < 74 ∨ 77 < k) → byteAt b k = 0) ∧
    field b 61 4 = 256 ^ 4 - 1 ∧ field b 74 4 = 256 ^ 4 - 1 := by
  intro b
  have hbytes : ∀ {off w : Nat}, off + w ≤ 85 → bytesAt b (2 + off) w = bytesAt unmountedMiddle off w := fun h => by
    rw [show b = toBlock p.statusBytes from rfl, p.statusBytes_eq, bytesAt_toBlock_of_le _ (by omega), p.bytesAt_statusMiddle h,
      Part.statusMiddle, if_neg (by rw [hm]; exact nofun)]
  have hzero : ∀ k < 85, (k < 59 ∨ 62 < k) → (k < 72 ∨ 75 < k) → byteAt unmountedMiddle k = 0 := by decide
  refine ⟨fun k hk hk' hb hb' => ?_, ?_, ?_⟩
  · have hat := byteAt_of_bytesAt (hbytes (off := k - 2) (w := 1) (by omega))
    rw [show 2 + (k - 2) = k by omega] at hat
    exact hat.trans (hzero _ (by omega) (by omega) (by omega))
  · exact (congrArg leNat (hbytes (off := 59) (w := 4) (by decide))).trans (by decide)
  · exact (congrArg leNat (hbytes (off := 72) (w := 4) (by decide))).trans (by decide)

end Sys2Proof.Machine
end

section

/-! ## The control window, settled -/

namespace Sys2Proof
open Sys2Proof.Machine

/-- Settles O13, by the pages that a READ forms and by the pieces of each page. -/
theorem windowPagesAreServed : Obligations.WindowPagesAreServed := by
  refine ⟨fun p q tag hreset hfree hen => ?eventsRead, fun p q tag lba count w k hreset hfree hen hw hw' hlba hone hend => ?window,
    Part.alertLow_iff, fun p => ?layouts⟩
  case eventsRead =>
    intro taken body block
    have hread := Part.readFrame_window (s := p) (tag := tag) (a := p.logBlocks + 1) (n := 1) hfree hen le_rfl (by omega) (by omega)
    have hblock : p.page 1 = block := by
      show toBlock p.eventsBytes = _
      rw [p.eventsBytes_eq]
      simp only [Part.eventsPieces, List.flatten_cons, List.flatten_nil, List.append_nil, List.isEmpty_iff, ← List.append_assoc]
      rfl
    rw [exec_eventsPageRead, State.act_awake _ hreset, hread, Nat.add_sub_cancel_left]
    refine congrArg (fun x : Machine.Part => Host.Outcome.next (State.mk x q)) ?_
    rw [← hblock]
    rfl
  case window =>
    intro n page
    have hlog : p.logBlocks = w := by
      rw [p.logBlocks_eq]
      split
      next hm => exact (hw hm).symm
      next hm => exact (hw' (fun h => hm (.inl h)) (fun h => hm (.inr h))).symm
    have hpage : lba.toNat - p.logBlocks = k := by omega
    refine ⟨?_, ?_⟩
    · rw [exec_read, State.act_awake _ hreset, Part.readFrame_window hfree hen hone (by omega) (by omega), hpage]
      rfl
    · rw [exec_write, State.act_awake _ hreset, Part.writeFrame_window hfree hen hone (by omega) (by omega), hpage]
  case layouts =>
    intro mounted has hasOpt flag status events responses referrals ranges
    obtain ⟨⟨smode, shalt⟩, srest⟩ := p.status_always
    refine ⟨⟨smode, shalt, fun hm => ?mounted, fun hm => ?unmounted, srest⟩, ⟨?eventsCount, ?eventsFlag, fun hnone k hk => ?noEvents,
      fun i e hi he => ?event⟩, ⟨?responsesCount, fun i x hi hx => ?response⟩, ⟨?queueLength, ?expiredLength, ?nextId,
        fun j hj => ?expired, fun i e hi he => ?referral⟩, ⟨fun i e hi he => ?range, fun hnone k hk => ?noLatch, fun l hl => ?latch⟩⟩
    case mounted =>
      obtain ⟨hlevel, hpressure, hocc, hlogLen, hhead, hreclaim, htail, hnextSeq, hsettled, htable, hfree, hresets, hretired,
        htargets, hreqs, hextents, hreserved, hcontexts, hdrain⟩ := Part.status_mounted (p.mounted_iff.mpr hm)
      refine ⟨hlevel, hpressure, hocc, hlogLen, hhead, hreclaim, htail, hnextSeq, hsettled, htable, hfree, hresets, hretired,
        htargets, hreqs, hextents, hreserved, fun i => ?_, hdrain⟩
      obtain ⟨hst, hband, hone, htwo⟩ := hcontexts i
      refine ⟨hst, hband, fun hcarry => ?_, fun x hcarry => ⟨?_, fun r hr => ?_⟩⟩
      · simp only [Part.ctxCounts, hcarry] at hone htwo
        exact ⟨hone, htwo⟩
      · simp only [Part.ctxCounts, hcarry] at hone
        exact hone
      · simp only [Part.ctxCounts, hcarry, hr] at htwo
        exact htwo
    case unmounted =>
      exact Part.status_unmounted (Bool.eq_false_iff.mpr (mt p.mounted_iff.mp hm))
    case eventsCount =>
      have hlen : (p.win.events.take 32).length = min 32 p.win.events.length := List.length_take ..
      show field (toBlock p.eventsBytes) 0 1 = _
      rw [field_toBlock_of_le _ (by decide), p.eventsBytes_eq, ← hlen]
      exact field_number (i := 0) rfl rfl rfl
    case eventsFlag =>
      show byteAt (toBlock p.eventsBytes) 1 = _
      rw [byteAt_toBlock_of_lt _ (by decide), p.eventsBytes_eq]
      exact byteAt_single (i := 1) rfl rfl rfl
    case noEvents =>
      have hempty : (p.win.events.take 32).isEmpty = true := by rw [hnone]; rfl
      have hlen : 107 = p.statusBytes.length := by
        rw [p.statusBytes_eq, List.length_flatten, p.statusPieces_lengths]
        rfl
      show byteAt (toBlock p.eventsBytes) (8 + k) = byteAt (toBlock p.statusBytes) k
      rw [byteAt_toBlock_of_lt _ (by omega), byteAt_toBlock_of_lt _ (by omega), p.eventsBytes_eq]
      exact byteAt_of_bytesAt (p.bytesAt_eventsBody (if_pos hempty) (by omega))
    case event =>
      intro o bit
      have hfield : ∀ {off w : Nat}, off + w ≤ 20 → field events (o + off) w = field e.pieces.flatten off w := fun h =>
        congrArg leNat (Part.bytesAt_event hi he h)
      have hls := e.pieces_lengths
      have hbit : ∀ (x : Option Nat) n, (if x.isSome = true then n else 0) = bit x n := fun x n => by cases x <;> rfl
      refine ⟨(hfield (off := 0) (by decide)).trans (field_number hls (i := 0) rfl rfl),
        (hfield (by decide)).trans (field_single hls (i := 1) rfl rfl), ?_,
        (hfield (by decide)).trans (field_optional hls (i := 3) rfl rfl),
        (hfield (by decide)).trans (field_optional hls (i := 4) rfl rfl),
        (hfield (by decide)).trans (field_optional hls (i := 5) rfl rfl),
        (hfield (by decide)).trans (field_optional hls (i := 6) rfl rfl)⟩
      refine (hfield (by decide)).trans (field_single hls (i := 2) rfl ?_)
      rw [← hbit, ← hbit, ← hbit, ← hbit]
      rfl
    case responsesCount =>
      show field (toBlock (le 1 p.win.responses.length ++ _ ++ _)) 0 1 = _
      rw [field_toBlock_of_le _ (by decide), List.append_assoc, field_append_left (by simp), field,
        bytesAt_whole (le_length 1 _).symm, leNat_le]
    case response =>
      intro o
      have hbytes : ∀ {off n : Nat}, off + n ≤ 40 → bytesAt responses (o + off) n = bytesAt x.pieces.flatten off n := fun h =>
        Window.bytesAt_response hi hx h
      have hls := x.pieces_lengths
      refine ⟨(congrArg leNat (hbytes (off := 0) (by decide))).trans (field_number hls (i := 0) rfl rfl),
        (byteAt_of_bytesAt (hbytes (by decide))).trans (byteAt_single hls (i := 1) rfl rfl),
        (congrArg leNat (hbytes (by decide))).trans (field_single hls (i := 2) rfl rfl),
        (congrArg leNat (hbytes (by decide))).trans (field_number hls (i := 3) rfl rfl), fun k hk => ?_⟩
      rw [Nat.add_assoc]
      exact (byteAt_of_bytesAt (hbytes (by omega))).trans
        ((byteAt_flatten hls (i := 4) (start := 8) rfl rfl (by rw [fit_length]; exact hk)).trans (byteAt_fit _ hk))
    case queueLength =>
      show field (toBlock p.ref.bytes) 0 1 = _
      rw [field_toBlock_of_le _ (by decide), p.ref.bytes_eq]
      exact field_number p.ref.pieces_lengths (i := 0) rfl rfl
    case expiredLength =>
      show field (toBlock p.ref.bytes) 1 1 = _
      rw [field_toBlock_of_le _ (by decide), p.ref.bytes_eq]
      exact field_number p.ref.pieces_lengths (i := 1) rfl rfl
    case nextId =>
      show field (toBlock p.ref.bytes) 2 2 = _
      rw [field_toBlock_of_le _ (by decide), p.ref.bytes_eq]
      exact field_number p.ref.pieces_lengths (i := 2) rfl rfl
    case expired =>
      show field (toBlock p.ref.bytes) (4 + 2 * j) 2 = _
      rw [field_toBlock_of_le _ (by omega), p.ref.bytes_eq]
      exact p.ref.field_expired hj
    case referral =>
      intro o
      have hbytes : ∀ {off n : Nat}, off + n ≤ 48 → bytesAt referrals (o + off) n = bytesAt e.pieces.flatten off n := fun h =>
        Referral.bytesAt_entry hi he h
      have hls := e.pieces_lengths
      refine ⟨(congrArg leNat (hbytes (off := 0) (by decide))).trans (field_number hls (i := 0) rfl rfl),
        (congrArg leNat (hbytes (by decide))).trans (field_number hls (i := 1) rfl rfl),
        (congrArg leNat (hbytes (by decide))).trans (field_single hls (i := 2) rfl rfl),
        (congrArg leNat (hbytes (by decide))).trans (field_single hls (i := 3) rfl rfl),
        (congrArg leNat (hbytes (by decide))).trans (field_number hls (i := 4) rfl rfl),
        (congrArg leNat (hbytes (by decide))).trans (field_single hls (i := 5) rfl rfl),
        (byteAt_of_bytesAt (hbytes (by decide))).trans (byteAt_single hls (i := 6) rfl rfl),
        (congrArg leNat (hbytes (by decide))).trans (field_number hls (i := 7) rfl rfl),
        (congrArg leNat (hbytes (by decide))).trans (field_number hls (i := 8) rfl rfl), fun k hk => ?_⟩
      rw [Nat.add_assoc]
      exact (byteAt_of_bytesAt (hbytes (by omega))).trans
        ((byteAt_flatten hls (i := 9) (start := 20) rfl rfl (by rw [fit_length]; exact hk)).trans (byteAt_fit _ hk))
    case range =>
      intro o
      have hbytes : ∀ {off n : Nat}, off + n ≤ 32 → bytesAt ranges (o + off) n = bytesAt e.pieces.flatten off n := fun h =>
        Retention.bytesAt_entry hi he h
      have hls := e.pieces_lengths
      exact ⟨(congrArg leNat (hbytes (off := 0) (by decide))).trans (field_number hls (i := 0) rfl rfl),
        (congrArg leNat (hbytes (by decide))).trans (field_number hls (i := 1) rfl rfl),
        (congrArg leNat (hbytes (by decide))).trans (field_single hls (i := 2) rfl rfl),
        (byteAt_of_bytesAt (hbytes (by decide))).trans (byteAt_single hls (i := 3) rfl rfl),
        (byteAt_of_bytesAt (hbytes (by decide))).trans (byteAt_single hls (i := 4) rfl rfl),
        (congrArg leNat (hbytes (by decide))).trans (field_number hls (i := 6) rfl rfl)⟩
    case noLatch =>
      have hbytes : p.ret.bytes = fit 256 0 (p.ret.entries.flatMap RangeEntry.bytes) := by
        simp [Retention.bytes, hnone]
      show byteAt (toBlock p.ret.bytes) k = 0
      rw [byteAt_toBlock _ _ (by rw [hbytes, fit_length]; decide), hbytes]
      exact List.getD_eq_default _ _ (by rw [fit_length]; exact hk)
    case latch =>
      have hls := p.ret.latchPieces_lengths l
      have hfield : ∀ {off w : Nat}, off + w ≤ 4096 → field ranges off w = field (p.ret.latchPieces l).flatten off w := fun h => by
        rw [show ranges = toBlock p.ret.bytes from rfl, Retention.bytes_latch hl, field_toBlock_of_le _ h]
      refine ⟨(hfield (by decide)).trans (field_single (n := 1) hls (i := 1) rfl rfl), ?_,
        (hfield (by decide)).trans (field_number hls (i := 3) rfl rfl),
        (hfield (by decide)).trans (field_single hls (i := 4) rfl rfl),
        (hfield (by decide)).trans (field_number hls (i := 5) rfl rfl),
        (hfield (by decide)).trans (field_number hls (i := 7) rfl rfl),
        (hfield (by decide)).trans (field_number hls (i := 8) rfl rfl)⟩
      show byteAt (toBlock p.ret.bytes) 257 = _
      rw [byteAt_toBlock_of_lt _ (by decide), Retention.bytes_latch hl]
      exact byteAt_single hls (i := 2) rfl rfl

end Sys2Proof
end

section

/-! ## Admission and positioning (R13, R16, R17)

`Part.positionRecord_eq` says what a record's positioning writes, its PAD included; `placeRecord` is the same for the records of a
carry-forward pass, one after another. -/

namespace Sys2Proof.Machine

/-- The offer of the write of a positioned record: a DATA record's header and blocks, another's header alone (R48). -/
def recordOffer (cls : ArbClass) (r : Rec) : Offer :=
  { cls := cls, work := .record r.seq, cmd := .write (8 + r.pos) (if r.kind = .data then r.len else 1) }

theorem Part.addRecord_eq (s : Part) (cls : ArbClass) (r : Rec) : s.addRecord cls r = { s with
    log := { s.log with
      table := s.log.table ++ [{ r with seq := s.log.nextSeq, pos := s.log.head, st := .issued }]
      nextSeq := s.log.nextSeq + 1
      head := s.sys.layout.nextPos s.log.head r.len
      occ := s.log.occ + r.len }
    port.offers := s.port.offers ++ [recordOffer cls { r with seq := s.log.nextSeq, pos := s.log.head, st := .issued }] } := rfl

/-- The records that positioning `r` adds at a head: a PAD where the record would pass the end of the log, and the record (R13). -/
def Layout.placed (g : Layout) (seq head : Nat) (r : Rec) : List Rec :=
  if r.len ≤ g.logLen - head then [{ r with seq := seq, pos := head, st := .issued }]
  else [{ seq := seq, pos := head, len := g.logLen - head, kind := .pad }, { r with seq := seq + 1, pos := 0, st := .issued }]

/-- The head behind them. -/
def Layout.headPast (g : Layout) (head : Nat) (r : Rec) : Nat :=
  if r.len ≤ g.logLen - head then g.nextPos head r.len else g.nextPos 0 r.len

/-- A record is positioned (R13). -/
theorem Part.positionRecord_eq (s : Part) (cls : ArbClass) (r : Rec) (hhead : s.log.head < s.sys.layout.logLen) :
    s.positionRecord cls r = { s with
      log := { s.log with
        table := s.log.table ++ s.sys.layout.placed s.log.nextSeq s.log.head r
        nextSeq := s.log.nextSeq + (s.sys.layout.placed s.log.nextSeq s.log.head r).length
        head := s.sys.layout.headPast s.log.head r
        occ := s.log.occ + s.sys.layout.pad s.log.head r.len + r.len }
      port.offers := s.port.offers ++ (s.sys.layout.placed s.log.nextSeq s.log.head r).map (recordOffer cls) } := by
  unfold Part.positionRecord Layout.placed Layout.headPast Layout.pad
  by_cases hfit : r.len ≤ s.sys.layout.logLen - s.log.head
  · simp only [if_pos hfit, if_true]
    rfl
  · have hnext : s.sys.layout.nextPos s.log.head (s.sys.layout.logLen - s.log.head) = 0 := if_pos (by omega)
    simp only [if_neg hfit, if_neg (show s.sys.layout.logLen - s.log.head ≠ 0 by omega), Part.addRecord_eq, hnext,
      List.append_assoc]
    rfl

/-! ### Admission (R16) -/

theorem Part.canAdmit_iff {s : Part} {e : HoldEntry} : s.canAdmit e = true ↔
    s.sys.mode = .active ∧ s.log.waiting = [] ∧
      s.log.occ + s.sys.layout.pad s.log.head e.cost + e.cost ≤ s.tHard ∧ s.log.table.length + 2 ≤ 32768 ∧
      (e.full = true ∨ s.idx.extents.length + s.idx.reserved + 2 ≤ 65536 ∧
        s.idx.count s.sys.layout.dataBlocks e.band + (s.bands.lband e.band).reserved ≤ 4094) ∧
      (e.kind ≠ .data ∨ s.pace.level ≠ .pressure ∨
        s.sys.layout.pad s.log.head e.cost + e.cost ≤ s.pace.credit) := by
  have hroom : 2 ≤ s.log.room ↔ s.log.table.length + 2 ≤ 32768 := by
    show 2 ≤ 32768 - s.log.table.length ↔ _
    omega
  have hfree : 2 ≤ s.idx.freeEntries ↔ s.idx.extents.length + s.idx.reserved + 2 ≤ 65536 := by
    show 2 ≤ 65536 - s.idx.extents.length - s.idx.reserved ↔ _
    omega
  simp only [Part.canAdmit, Bool.and_eq_true, Bool.or_eq_true, decide_eq_true_eq, beq_iff_eq, bne_iff_ne, List.isEmpty_iff, hroom,
    hfree, and_assoc, or_assoc]
  exact Iff.rfl

/-- The level an evaluation gives, as the table of R15 read from the top. -/
theorem nextLevel_eq (tLow tHigh tHard hyst : Nat) (old : Level) (occ : Nat) :
    nextLevel tLow tHigh tHard hyst old occ =
      if tHard ≤ occ then .full
      else if old = .full ∨ tHigh ≤ occ ∨ old = .pressure ∧ tHigh - hyst ≤ occ then .pressure
      else if old = .pressure ∨ tLow ≤ occ then .reclaim
      else .normal := by
  unfold nextLevel
  cases old <;> simp only [reduceCtorEq, false_or, false_and, or_false, true_and, true_or, if_true]
  case reclaim => simp only [← Nat.not_le, ite_not]
  case pressure =>
    by_cases hhard : tHard ≤ occ
    · rw [if_pos hhard, if_pos hhard]
    · rw [if_neg hhard, if_neg hhard]
      by_cases hlow : occ < tHigh - hyst
      · rw [if_pos hlow, if_neg (by omega)]
      · rw [if_neg hlow, if_pos (by omega)]
  case full => simp only [← Nat.not_le, ite_not]

/-- What the evaluation of the level tells (R15, R172). -/
def Window.toldLevel (w : Window) (old level : Level) (occ : Nat) : Window :=
  if level ≠ old ∧ level = .pressure then w.raise .levelChange (some .log) none none (some occ) (some 2)
  else if level ≠ old ∧ level = .full then w.raise .levelChange (some .log) none none (some occ) (some 3)
  else w

theorem Part.evalLevel_told {s : Part} (hlog : s.holdsLog = true) : s.evalLevel = { s with
    pace := s.pace.move s.cfg.policy.burst s.nextLevel
    win := s.win.toldLevel s.pace.level s.nextLevel s.log.occ } := by
  rw [Part.evalLevel, if_pos hlog]
  unfold Window.toldLevel
  generalize s.nextLevel = level
  by_cases hne : level = s.pace.level
  · simp only [hne, ne_eq, not_true, false_and, if_false]
  · cases level <;> simp only [ne_eq, hne, not_false_eq_true, true_and, reduceCtorEq, or_true, or_false, if_true, if_false] <;> rfl

/-- The flag of the index pressure, and CAPACITY pending at its start (R77). -/
theorem Part.evalPressure_eq (s : Part) : s.evalPressure = { s with
    idx.pressure := decide (61440 ≤ s.idx.extents.length + s.idx.reserved)
    win := if 61440 ≤ s.idx.extents.length + s.idx.reserved ∧ s.idx.pressure = false then
      { s.win with pending := s.win.pending ||| alertMask .capacity } else s.win } := by
  unfold Part.evalPressure
  have hunder : s.idx.underPressure = decide (61440 ≤ s.idx.extents.length + s.idx.reserved) := rfl
  rw [hunder]
  by_cases h : 61440 ≤ s.idx.extents.length + s.idx.reserved ∧ s.idx.pressure = false
  · rw [if_pos h, if_pos (by simpa using h)]
  · rw [if_neg h, if_neg (by simpa using h)]

/-- The part before its level and its index pressure are evaluated: the head of the hold queue is a record (R16, R18, R24, R70). -/
def Part.admitted (s : Part) (e : HoldEntry) (rest : List HoldEntry) : Part := { s with
  ini.hold := rest
  pace.credit :=
    if e.kind = .data ∧ s.pace.level = .pressure then s.pace.credit - (s.sys.layout.pad s.log.head e.cost + e.cost)
    else s.pace.credit
  idx.reserved := s.idx.reserved + if e.full = true then 0 else 2
  bands.lbt := s.bands.lbt.modify e.band fun b => { b with
    unsettled := b.unsettled + 1, reserved := b.reserved + if e.full = true then 0 else 2 }
  log := { s.log with
    table := s.log.table ++ s.sys.layout.placed s.log.nextSeq s.log.head e.toRec
    nextSeq := s.log.nextSeq + (s.sys.layout.placed s.log.nextSeq s.log.head e.toRec).length
    head := s.sys.layout.headPast s.log.head e.toRec
    occ := s.log.occ + s.sys.layout.pad s.log.head e.cost + e.cost }
  port.offers := s.port.offers ++ (s.sys.layout.placed s.log.nextSeq s.log.head e.toRec).map (recordOffer .c) }

theorem Part.admitHead_eq {s : Part} {e : HoldEntry} {rest : List HoldEntry} (hhold : s.ini.hold = e :: rest)
    (hhead : s.log.head < s.sys.layout.logLen) (hfits : s.canAdmit e = true) :
    s.admitHead = some (s.admitted e rest).evalLevel.evalPressure := by
  unfold Part.admitHead
  rw [hhold]
  dsimp only
  rw [if_pos hfits]
  refine congrArg (fun x : Part => some x.evalLevel.evalPressure) ?_
  obtain ⟨t, ht⟩ : ∃ t : Part, t = { s with
      ini.hold := rest
      pace.credit :=
        if e.kind = .data ∧ s.pace.level = .pressure then s.pace.credit - (s.sys.layout.pad s.log.head e.cost + e.cost)
        else s.pace.credit
      idx.reserved := s.idx.reserved + if e.full = true then 0 else 2
      bands.lbt := s.bands.lbt.modify e.band fun b => { b with
        unsettled := b.unsettled + 1, reserved := b.reserved + if e.full = true then 0 else 2 } } := ⟨_, rfl⟩
  refine Eq.trans (b := t.positionRecord .c e.toRec) (congrArg (fun x : Part => x.positionRecord .c e.toRec) ?_) ?_
  · rw [ht]
    by_cases hcharge : e.kind = .data ∧ s.pace.level = .pressure <;> cases hfull : e.full <;>
      simp only [hcharge, if_true, if_false, Bool.false_eq_true, Part.reserveIndex, Part.onL, List.modify_modify_eq] <;> rfl
  · rw [t.positionRecord_eq .c e.toRec (by rw [ht]; exact hhead), ht]
    rfl

theorem Part.admitHead_waits {s : Part} {e : HoldEntry} {rest : List HoldEntry} (hhold : s.ini.hold = e :: rest)
    (hfits : s.canAdmit e = false) : s.admitHead = none := by
  unfold Part.admitHead
  rw [hhold]
  dsimp only
  rw [if_neg (by rw [hfits]; exact nofun)]

theorem Part.admission_waits {s : Part} {e : HoldEntry} {rest : List HoldEntry} (hhold : s.ini.hold = e :: rest)
    (hfits : s.canAdmit e = false) : s.admission = s := Part.repeatStep_none _ _ _ (Part.admitHead_waits hhold hfits)

/-- The record behind the head is tested at the same event, on the part as it then stands. -/
theorem Part.admission_next {s t : Part} {e : HoldEntry} {rest : List HoldEntry} (hhold : s.ini.hold = e :: rest)
    (hstep : s.admitHead = some t) (hrest : t.ini.hold = rest) : s.admission = t.admission := by
  unfold Part.admission
  rw [hhold, List.length_cons, Part.repeatStep_some _ _ _ _ hstep, hrest]

end Sys2Proof.Machine
end

section

/-! ## Internal records are positioned (R17, R63, R98), and O29 -/

namespace Sys2Proof.Machine

/-- The records that positioning a list of records adds, one after another, with the next seq and the head behind them. -/
def Layout.placeAll (g : Layout) : Nat → Nat → List Rec → List Rec × Nat × Nat
  | seq, head, [] => ([], seq, head)
  | seq, head, r :: rs =>
    (g.placed seq head r ++ (g.placeAll (seq + (g.placed seq head r).length) (g.headPast head r) rs).1,
      (g.placeAll (seq + (g.placed seq head r).length) (g.headPast head r) rs).2)

section Place

variable {g : Layout}

theorem Layout.placed_sum (seq head : Nat) (r : Rec) : ((g.placed seq head r).map (·.len)).sum = g.pad head r.len + r.len := by
  unfold Layout.placed Layout.pad
  split <;> simp

variable {head : Nat} {r : Rec} (hlog : 129 < g.logLen) (hhead : head < g.logLen) (hlen : r.len ≤ 129)
include hlog hhead hlen

theorem Layout.headPast_lt : g.headPast head r < g.logLen := by
  unfold Layout.headPast Layout.nextPos
  split <;> split <;> omega

theorem Layout.headPast_eq : g.headPast head r = if g.pad head r.len = 0 then g.nextPos head r.len else r.len := by
  unfold Layout.headPast Layout.pad Layout.nextPos
  by_cases hfit : r.len ≤ g.logLen - head
  · simp only [if_pos hfit, if_true]
  · rw [if_neg hfit, if_neg hfit, if_neg (by omega), if_neg (by omega), Nat.zero_add]

end Place

/-- The blocks charged for records positioned together are those of the records they add (R17). -/
theorem Layout.groupCost_eq {g : Layout} (hlog : 129 < g.logLen) {rs : List Rec} (hrs : ∀ r ∈ rs, r.len ≤ 129) {head : Nat}
    (hhead : head < g.logLen) (seq : Nat) : g.groupCost head rs = ((g.placeAll seq head rs).1.map (·.len)).sum := by
  induction rs generalizing seq head with
  | nil => rfl
  | cons r rs ih =>
    have hlen := hrs r (List.mem_cons_self ..)
    rw [Layout.groupCost, Layout.placeAll, List.map_append, List.sum_append, Layout.placed_sum,
      ← ih (fun x hx => hrs x (List.mem_cons_of_mem _ hx)) (Layout.headPast_lt hlog hhead hlen), Layout.headPast_eq hlog hhead hlen]

/-- Records are positioned one after another (R17). -/
theorem Part.positionRecords_eq (cls : ArbClass) {rs : List Rec} (hrs : ∀ r ∈ rs, r.len ≤ 129) {s : Part}
    (hlog : 129 < s.sys.layout.logLen) (hhead : s.log.head < s.sys.layout.logLen) :
    rs.foldl (fun s r => s.positionRecord cls r) s = { s with
      log := { s.log with
        table := s.log.table ++ (s.sys.layout.placeAll s.log.nextSeq s.log.head rs).1
        nextSeq := (s.sys.layout.placeAll s.log.nextSeq s.log.head rs).2.1
        head := (s.sys.layout.placeAll s.log.nextSeq s.log.head rs).2.2
        occ := s.log.occ + ((s.sys.layout.placeAll s.log.nextSeq s.log.head rs).1.map (·.len)).sum }
      port.offers := s.port.offers ++ (s.sys.layout.placeAll s.log.nextSeq s.log.head rs).1.map (recordOffer cls) } := by
  induction rs generalizing s with
  | nil => simp only [List.foldl_nil, Layout.placeAll, List.append_nil, List.map_nil, List.sum_nil, Nat.add_zero]
  | cons r rs ih =>
    have hlen := hrs r (List.mem_cons_self ..)
    rw [List.foldl_cons, s.positionRecord_eq cls r hhead,
      ih (fun x hx => hrs x (List.mem_cons_of_mem _ hx)) (by exact hlog) (by exact Layout.headPast_lt hlog hhead hlen)]
    simp only [Layout.placeAll, List.append_assoc, List.map_append, List.sum_append, Layout.placed_sum, Nat.add_assoc]

/-- One step of the same, as a fold writes it. -/
def Layout.placeStep (g : Layout) (x : List Rec × Nat × Nat) (r : Rec) : List Rec × Nat × Nat :=
  (x.1 ++ g.placed x.2.1 x.2.2 r, x.2.1 + (g.placed x.2.1 x.2.2 r).length, g.headPast x.2.2 r)

theorem Layout.foldl_placeStep (g : Layout) (rs : List Rec) (x : List Rec × Nat × Nat) :
    rs.foldl g.placeStep x = (x.1 ++ (g.placeAll x.2.1 x.2.2 rs).1, (g.placeAll x.2.1 x.2.2 rs).2) := by
  induction rs generalizing x with
  | nil => simp only [List.foldl_nil, Layout.placeAll, List.append_nil]
  | cons r rs ih => rw [List.foldl_cons, ih]; simp only [Layout.placeStep, Layout.placeAll, List.append_assoc]

theorem Part.positionWaiting_waits {s : Part} {w : Waiting} {rest : List Waiting} (hw : s.log.waiting = w :: rest)
    (h : ¬ (s.sys.mode = .active ∧ s.log.occ + s.sys.layout.groupCost s.log.head (s.waitingRecords w) ≤ s.sys.layout.logLen ∧
      2 * (s.waitingRecords w).length ≤ s.log.room)) : s.positionInternal = s := by
  refine Part.repeatStep_none _ _ _ ?_
  unfold Part.positionWaiting
  rw [hw]
  exact if_neg h

/-- The only item that waits is positioned, all its records at one event (R17). -/
theorem Part.positionInternal_eq {s : Part} {w : Waiting} (hw : s.log.waiting = [w])
    (h : s.sys.mode = .active ∧ s.log.occ + s.sys.layout.groupCost s.log.head (s.waitingRecords w) ≤ s.sys.layout.logLen ∧
      2 * (s.waitingRecords w).length ≤ s.log.room) :
    s.positionInternal = (((s.waitingRecords w).foldl (fun s r => s.positionRecord .e r)
      ({ s with log.waiting := [] } : Part)).markPositioned (s.waitingRecords w).length w).evalLevel := by
  unfold Part.positionInternal
  have hone : s.positionWaiting = some (((s.waitingRecords w).foldl (fun s r => s.positionRecord .e r)
      ({ s with log.waiting := [] } : Part)).markPositioned (s.waitingRecords w).length w).evalLevel := by
    unfold Part.positionWaiting
    rw [hw]
    exact if_pos h
  rw [hw, List.length_singleton, Part.repeatStep_some _ _ _ _ hone]
  rfl

end Sys2Proof.Machine

namespace Sys2Proof
open Sys2Proof.Machine

/-- Settles O29, by what positioning a record writes: once for the head of the hold queue, once for a COMMIT record, and one after
another for a carry-forward pass. -/
theorem recordsAreAdmittedAndPositioned : Obligations.RecordsAreAdmittedAndPositioned := by
  refine ⟨?admission, ?commit, ?carry⟩
  case admission =>
    intro p q e rest hreset hhold c g hhead pad occ t fits
    have hcost : e.cost = c := rfl
    have hpad : p.sys.layout.pad p.log.head c = pad := rfl
    have hfits : p.canAdmit e = true ↔ fits := Part.canAdmit_iff
    rw [exec_admission, State.act_awake _ hreset]
    refine ⟨fun hno => ?waits, fun hyes => ?admits⟩
    case waits => rw [Part.admission_waits hhold (Bool.eq_false_iff.mpr (mt hfits.mp hno))]
    case admits =>
      intro seq pos reserve old level credit pressed told after
      have hactive : p.sys.mode = .active := hyes.1
      have hlevel : (p.admitted e rest).nextLevel = level := nextLevel_eq ..
      have hafter : (p.admitted e rest).evalLevel.evalPressure = after := by
        rw [Part.evalLevel_told (by simp [Part.holdsLog, Part.mounted, Part.admitted, hactive]), hlevel, Part.evalPressure_eq]
        have hpads : pad = 0 ↔ c ≤ g.logLen - p.log.head := by
          show (if _ then _ else _) = 0 ↔ _
          split <;> omega
        have hplaced : p.log.table ++ g.placed p.log.nextSeq p.log.head e.toRec = after.log.table := by
          show _ = p.log.table ++ _ ++ _
          rw [List.append_assoc]
          refine congrArg (p.log.table ++ ·) ?_
          by_cases hfit : pad = 0
          · simp only [pos, seq, hfit, if_true, Layout.placed, if_pos (show e.toRec.len ≤ _ from hpads.mp hfit)]
            rfl
          · simp only [pos, seq, hfit, if_false, Layout.placed, if_neg (show ¬ e.toRec.len ≤ _ from mt hpads.mpr hfit)]
            simp only [pad, if_neg (mt hpads.mpr hfit)]
            rfl
        have hlength : p.log.nextSeq + (g.placed p.log.nextSeq p.log.head e.toRec).length = after.log.nextSeq := by
          by_cases hfit : pad = 0
          · simp only [after, seq, hfit, if_true, Layout.placed, if_pos (show e.toRec.len ≤ _ from hpads.mp hfit)]
            rfl
          · simp only [after, seq, hfit, if_false, Layout.placed, if_neg (show ¬ e.toRec.len ≤ _ from mt hpads.mpr hfit)]
            rfl
        have hhead' : g.headPast p.log.head e.toRec = after.log.head := by
          by_cases hfit : pad = 0
          · simp only [after, pos, hfit, if_true, Layout.headPast, if_pos (show e.toRec.len ≤ _ from hpads.mp hfit)]
            rfl
          · simp only [after, pos, hfit, if_false, Layout.headPast, if_neg (show ¬ e.toRec.len ≤ _ from mt hpads.mpr hfit)]
            rfl
        have hoffers : p.port.offers ++ (g.placed p.log.nextSeq p.log.head e.toRec).map (recordOffer .c) = after.port.offers := by
          show _ = p.port.offers ++ _ ++ _
          rw [List.append_assoc]
          refine congrArg (p.port.offers ++ ·) ?_
          by_cases hfit : pad = 0
          · simp only [pos, seq, hfit, if_true, Layout.placed, if_pos (show e.toRec.len ≤ _ from hpads.mp hfit)]
            rfl
          · simp only [pos, seq, hfit, if_false, Layout.placed, if_neg (show ¬ e.toRec.len ≤ _ from mt hpads.mpr hfit)]
            rfl
        have hpace : (p.admitted e rest).pace.move p.cfg.policy.burst level = after.pace := rfl
        simp only [Part.admitted] at hpace ⊢
        rw [hplaced, hlength, hhead', hoffers, hpace]
        rfl
      have hstep := Part.admitHead_eq hhold hhead (hfits.mpr hyes)
      rw [hafter] at hstep
      have hnext := Part.admission_next hhold hstep rfl
      refine ⟨?_, fun hrest => ?_⟩
      · rw [exec_admission, State.act_awake _ (by exact hreset), hnext]
      · subst hrest
        rw [hnext]
        rfl
  case commit =>
    intro p q i hreset hactive hwaiting hhead c fits
    have hpad : p.sys.layout.pad p.log.head 1 = 0 := if_pos (by omega)
    have hcost : p.sys.layout.groupCost p.log.head (p.waitingRecords (.commit i)) = 1 := by
      show p.sys.layout.pad p.log.head 1 + 1 + 0 = 1
      rw [hpad]
    have hroom : 2 * (p.waitingRecords (.commit i)).length ≤ p.log.room ↔ p.log.table.length + 2 ≤ 32768 := by
      show 2 * 1 ≤ 32768 - p.log.table.length ↔ _
      omega
    rw [exec_internalRecordPosition, State.act_awake _ hreset]
    refine ⟨fun hno => ?_, fun ⟨hocc, htable⟩ => ?_⟩
    · rw [Part.positionWaiting_waits hwaiting]
      rw [hcost, hroom]
      exact fun h => hno h.2
    · rw [Part.positionInternal_eq hwaiting (by rw [hcost, hroom]; exact ⟨hactive, hocc, htable⟩)]
      have hplaced : p.sys.layout.placed p.log.nextSeq p.log.head (c.commitRec i) =
          [{ c.commitRec i with seq := p.log.nextSeq, pos := p.log.head, st := .issued }] := if_pos (by exact (show 1 ≤ _ by omega))
      have hpast : p.sys.layout.headPast p.log.head (c.commitRec i) =
          if p.log.head + 1 = p.sys.layout.logLen then 0 else p.log.head + 1 := if_pos (by exact (show 1 ≤ _ by omega))
      refine congrArg (fun x : Machine.Part => Host.Outcome.next (State.mk x.evalLevel q)) ?_
      show (Part.positionRecord { p with log.waiting := [] } .e (c.commitRec i)).onCtx i _ = _
      rw [Part.positionRecord_eq _ _ _ (by exact hhead)]
      simp only [hplaced, hpast, hpad, show (c.commitRec i).len = 1 from rfl]
      rfl
  case carry =>
    intro p q i l m hreset hactive hwaiting hi hcarry hband hlens g hlog hhead record after place x occ fits
    have hrecords : p.waitingRecords (.carry i) = m.list.map record := by
      simp only [Part.waitingRecords, hcarry, hband]
      rfl
    have hrs : ∀ r ∈ m.list.map record, r.len ≤ 129 := by
      intro r hr
      obtain ⟨e, he, rfl⟩ := List.mem_map.mp hr
      have := hlens e he
      show (if e.kind = .data then 1 + e.len else 1) ≤ 129
      split <;> omega
    have hx : x = g.placeAll p.log.nextSeq p.log.head (m.list.map record) := by
      have hfold := g.foldl_placeStep (m.list.map record) ([], p.log.nextSeq, p.log.head)
      rw [List.nil_append] at hfold
      refine (List.foldl_ext _ _ _ fun a r hr => ?_).trans hfold
      obtain ⟨e, he, rfl⟩ := List.mem_map.mp hr
      show (if _ then _ else _) = Layout.placeStep _ _ _
      unfold Layout.placeStep Layout.placed Layout.headPast
      split <;> rfl
    have hcost : p.log.occ + g.groupCost p.log.head (m.list.map record) = occ := by
      rw [Layout.groupCost_eq hlog hrs hhead p.log.nextSeq, ← hx]
    have hfits : (p.sys.mode = .active ∧ p.log.occ + g.groupCost p.log.head (p.waitingRecords (.carry i)) ≤ g.logLen ∧
        2 * (p.waitingRecords (.carry i)).length ≤ p.log.room) ↔ fits := by
      rw [hrecords, hcost, List.length_map]
      exact ⟨fun h => h.2, fun h => ⟨hactive, h⟩⟩
    rw [exec_internalRecordPosition, State.act_awake _ hreset]
    refine ⟨fun hno => ?_, fun hyes => ?_⟩
    · rw [Part.positionWaiting_waits hwaiting (mt hfits.mp hno)]
    · rw [Part.positionInternal_eq hwaiting (hfits.mpr hyes), hrecords]
      refine congrArg (fun x : Machine.Part => Host.Outcome.next (State.mk x.evalLevel q)) ?_
      rw [Part.positionRecords_eq .e hrs (by exact hlog) (by exact hhead)]
      have hmodify : p.mrg.ctxs.modify i (fun c =>
          { c with positioned := true, carry := c.carry.map fun y => { y with left := (m.list.map record).length } }) =
          p.mrg.ctxs.modify i fun c => { c with positioned := true, carry := some { m with left := m.list.length } } :=
        List.modify_congr_at fun c hc => by
          have hctx : p.mrg.ctx i = c := by simp [Merge.ctx, hc]
          rw [hctx] at hcarry
          simp [hcarry]
      rw [show (({ p with log.waiting := [] } : Machine.Part)).sys.layout.placeAll p.log.nextSeq p.log.head (m.list.map record) = x
        from hx.symm]
      exact congrArg (fun ctxs => ({ p with
        mrg.ctxs := ctxs
        log := { p.log with
          waiting := [], table := p.log.table ++ x.1, nextSeq := x.2.1, head := x.2.2, occ := occ }
        port.offers := p.port.offers ++ x.1.map (recordOffer .e) } : Machine.Part)) hmodify

end Sys2Proof
end

section

/-! ## The last block of a WRITE (R8 to R12, R31, R135)

`Part.placedBy` is what the placement of one piece writes outside its command, and `Part.placePiece_eq` adds the parts that the command
gains; a command of two pieces is placed by two uses of it. -/

namespace Sys2Proof.Machine

/-- The parts of a piece: one append, or a record for each 128 blocks (R12). -/
def Placement.parts (k : Placement) (n : Nat) : Nat :=
  match k with
  | .staged => (n + 127) / 128
  | _ => 1

/-- What the placement of a piece writes, but for the command's parts (R9 to R12, R28, R31). -/
def Part.placedBy (s : Part) (k : Placement) (cid l o n part first : Nat) : Part :=
  let ph := (s.bands.free.drop s.mrg.waitBand.length).headD 0
  let free := s.bands.free.filter (· != ph)
  match k with
  | .direct =>
    { s with bands.lbt := s.bands.lbt.modify l fun b => { b with
        pf := o + n
        queue := b.queue ++
          [{ allocate := false, band := b.phys.getD 0, start := 1 + b.pf, gap := o - b.pf, off := o,
             n := n, cid := cid, part := part, first := first, base := 0 }] } }
  | .allocate =>
    { s with
      win.pending := if free.length ≤ 2 then s.win.pending ||| alertMask .capacity else s.win.pending
      bands := { s.bands with
        free := free
        pool := s.bands.pool.modify ph fun x => { x with st := .mapped, owner := some l }
        lbt := s.bands.lbt.modify l fun b => { b with
          st := .filling, phys := some ph, f := 0, pf := o + n
          queue := b.queue ++
            [{ allocate := true, band := ph, start := 0, gap := o, off := o, n := n, cid := cid,
               part := part, first := first, base := b.floor }] } } }
  | .staged => { s with ini.hold := s.ini.hold ++ stagedEntries cid l o n part first }

/-- The part with another command on a tag. -/
def Part.withCmd (s : Part) (tag : Nat) (c : Cmd) : Part := { s with ini.tags := s.ini.tags.set tag (some c) }

theorem Part.withCmd_withCmd (s : Part) (tag : Nat) (c c' : Cmd) : (s.withCmd tag c).withCmd tag c' = s.withCmd tag c' := by
  simp only [Part.withCmd, List.set_set]

theorem Part.placedBy_withCmd (s : Part) (tag : Nat) (c : Cmd) (k : Placement) (cid l o n part first : Nat) :
    (s.withCmd tag c).placedBy k cid l o n part first = (s.placedBy k cid l o n part first).withCmd tag c := by
  cases k <;> rfl

/-- The command stands alone on its tag: no other has its identity (R140, R147). -/
structure Part.Alone (s : Part) (tag : Nat) (c : Cmd) : Prop where
  at_tag : s.ini.at tag = some c
  only : ∀ k x, s.ini.at k = some x → x.cid = c.cid → k = tag
  detached : s.ini.detached = []

theorem Part.Alone.withCmd {s : Part} {tag : Nat} {c c' : Cmd} (h : s.Alone tag c) (hcid : c'.cid = c.cid) :
    (s.withCmd tag c').Alone tag c' where
  at_tag := Initiator.at_set_self s.ini tag _ (Initiator.lt_length_of_at h.at_tag)
  only := fun k x hk hx => by
    obtain ⟨rfl, _⟩ | ⟨_, hat⟩ := Initiator.at_set_imp hk
    · rfl
    · exact h.only k x hat (hx.trans hcid)
  detached := h.detached

/-- A placement touches no command. -/
theorem Part.Alone.placedBy {s : Part} {tag : Nat} {c : Cmd} (h : s.Alone tag c) (k : Placement) (cid l o n part first : Nat) :
    (s.placedBy k cid l o n part first).Alone tag c := by
  cases k <;> exact ⟨h.at_tag, h.only, h.detached⟩

theorem Part.Alone.addParts {s : Part} {tag : Nat} {c : Cmd} (h : s.Alone tag c) (k : Nat) :
    s.addParts c.cid k = s.withCmd tag { c with parts := c.parts ++ List.replicate k .pending } :=
  Part.onCmd_only h.at_tag h.only h.detached _

theorem Part.Alone.partCount {s : Part} {tag : Nat} {c : Cmd} (h : s.Alone tag c) : s.ini.partCount c.cid = c.parts.length := by
  rw [Initiator.partCount, Initiator.find_of_at h.at_tag h.only]

theorem Part.takeFree_eq (s : Part) (ph : Nat) : s.takeFree ph = { s with
    bands.free := s.bands.free.filter (· != ph)
    win.pending := if (s.bands.free.filter (· != ph)).length ≤ 2 then s.win.pending ||| alertMask .capacity
      else s.win.pending } := by
  unfold Part.takeFree
  by_cases hfew : (s.bands.free.filter (· != ph)).length ≤ 2
  · rw [if_pos hfew]
    exact if_pos hfew
  · rw [if_neg hfew]
    exact if_neg hfew

/-- A piece is placed by the decision about it, and its command gains its parts. -/
theorem Part.placePiece_eq {s : Part} {tag : Nat} {c : Cmd} (h : s.Alone tag c) {k : Placement} {l o n : Nat}
    (hk : s.decidePiece l o n = k) (first : Nat) :
    s.placePiece c.cid first l o n = (s.placedBy k c.cid l o n c.parts.length first).withCmd tag
      { c with parts := c.parts ++ List.replicate (k.parts n) .pending } := by
  rw [← (h.placedBy k c.cid l o n c.parts.length first).addParts]
  unfold Part.placePiece
  rw [h.partCount, hk]
  cases k with
  | direct =>
    refine congrArg (fun lbt => Part.addParts { s with bands := { s.bands with lbt := lbt } } c.cid 1) ?_
    exact List.modify_congr_at fun b hb => by
      have hb : s.bands.lband l = b := by simp [Bands.lband, hb]
      rw [hb]
  | allocate =>
    refine congrArg (fun x : Part => x.addParts c.cid 1) ?_
    have hlbt : ∀ ph, s.bands.lbt.modify l (fun b => { b with
        st := .filling, phys := some ph, f := 0, pf := o + n
        queue := b.queue ++ [{ allocate := true, band := ph, start := 0, gap := o, off := o, n := n, cid := c.cid
                               part := c.parts.length, first := first, base := (s.bands.lband l).floor }] }) =
        s.bands.lbt.modify l fun b => { b with
          st := .filling, phys := some ph, f := 0, pf := o + n
          queue := b.queue ++ [{ allocate := true, band := ph, start := 0, gap := o, off := o, n := n, cid := c.cid
                                 part := c.parts.length, first := first, base := b.floor }] } := fun ph =>
      List.modify_congr_at fun b hb => by
        have hb : s.bands.lband l = b := by simp [Bands.lband, hb]
        rw [hb]
    rw [Part.takeFree_eq]
    simp only [Part.placedBy, ← hlbt]
    rfl
  | staged =>
    show Part.addParts _ _ (stagedEntries c.cid l o n c.parts.length first).length = _
    rw [stagedEntries_length]
    rfl

/-- A status leaves its context FREE. -/
theorem Initiator.at_cleared {i : Initiator} {tag : Nat} (h : tag < i.tags.length) (f : Cmd → Cmd) (sent : List InitOut) :
    ({ i with sent := sent, tags := (i.tags.set tag none).map (Option.map f) } : Initiator).at tag = none := by
  simp [Initiator.at, h]

/-- The tests of R8, in their order, and the placement of the pieces. -/
theorem Part.placeWrite_eq (s : Part) (tag : Nat) (c : Cmd) {ps : List (Nat × Nat × Nat)}
    (hps : pieces s.sys.layout.dataBlocks c.lba c.count = ps) :
    (s.anyFaulted ps = true → s.placeWrite tag c = s.finish tag .mediumError) ∧
    (¬ s.anyFaulted ps = true → s.sys.mode = .degraded → s.placeWrite tag c = s.finish tag .readOnly) ∧
    (¬ s.anyFaulted ps = true → ¬ s.sys.mode = .degraded →
      s.placeWrite tag c = (s.placePieces c.cid 0 ps).deadlockCheck) := by
  unfold Part.placeWrite
  rw [hps]
  refine ⟨fun h => if_pos h, fun h hm => ?_, fun h hm => ?_⟩ <;> dsimp only <;> rw [if_neg h]
  · exact if_pos hm
  · exact if_neg hm

end Sys2Proof.Machine

namespace Sys2Proof
open Sys2Proof.Machine

/-- Settles O26, by the placement of each piece in turn. -/
theorem lastBlockPlacesTheWrite : Obligations.LastBlockPlacesTheWrite := by
  intro p q tag block c hreset _ hat honly hdetached hwindow hst hcls hparts hone hlast d l o hl ended done parts placed faulted
  have halone : p.Alone tag c := ⟨hat, honly, hdetached⟩
  obtain ⟨c', hc'⟩ : ∃ c' : Cmd, c' = { c with data := c.data ++ [toBlock block], st := .working } := ⟨_, rfl⟩
  have hcid : c'.cid = c.cid := by rw [hc']
  have hnone : c'.parts = [] := by rw [hc']; exact hparts
  obtain ⟨t, ht⟩ : ∃ t : Machine.Part, t = p.withCmd tag c' := ⟨_, rfl⟩
  have halone' : t.Alone tag c' := ht ▸ halone.withCmd hcid
  have hexec : exec (.writeDataBlock tag block) ⟨p, q⟩ = .next ⟨t.placeWrite tag c', q⟩ := by
    have hfull : ¬ (c.data ++ [toBlock block]).length < c.count := by simp; omega
    rw [exec_writeDataBlock, State.act_awake _ hreset, Part.dataBlock_receiving block hat hwindow hst]
    unfold Part.receiveBlock
    dsimp only
    rw [if_neg hfull, if_pos hcls, ht, hc']
    rfl
  have hended : ∀ {code : Code}, t.placeWrite tag c' = t.finish tag code → ended code := fun {code} h => by
    have hini : t.ini.finish tag code = p.ini.finish tag code := by rw [ht]; exact Initiator.finish_set hat hcid code
    refine ⟨{ p with ini := p.ini.finish tag code }, ?_, Initiator.finish_sent .., ?_, rfl⟩
    · rw [hexec, h, Part.finish, hini, ht]
      rfl
    · rw [Initiator.finish_of hat]
      exact Initiator.at_cleared (Initiator.lt_length_of_at hat) _ _
  have hplaced : ∀ k (s : Machine.Part) l o n part first, placed k l o n part first s = s.placedBy k c.cid l o n part first :=
    fun k s l o n part first => by cases k <;> rfl
  have hpieces : c'.lba = c.lba ∧ c'.count = c.count := by rw [hc']; exact ⟨rfl, rfl⟩
  have hdone : ∀ {m s}, t.placeWrite tag c' = (s.withCmd tag { c' with parts := List.replicate m .pending }).deadlockCheck →
      s.ini.tags = p.ini.tags → done m s := fun {m s} h htags => by
    show exec _ _ = _
    rw [hexec, h, hc', Part.withCmd, htags]
  have hfirst : ∀ l o n k, t.decidePiece l o n = k → t.placePiece c'.cid 0 l o n =
      (p.placedBy k c.cid l o n 0 0).withCmd tag { c' with parts := List.replicate (k.parts n) .pending } := fun l o n k hk => by
    rw [Part.placePiece_eq halone' hk, ht, Part.placedBy_withCmd, Part.withCmd_withCmd, hcid, hnone]
    rfl
  have htags : ∀ k (s : Machine.Part) l o n part first, (s.placedBy k c.cid l o n part first).ini.tags = s.ini.tags :=
    fun k s l o n part first => by cases k <;> rfl
  refine ⟨fun hfit => ?within, fun hacross hend hl' => ?across⟩
  case within =>
    have hps : pieces t.sys.layout.dataBlocks c'.lba c'.count = [(l, o, c.count)] := by
      rw [ht, hpieces.1, hpieces.2]
      exact pieces_one d c.lba c.count hone hfit
    have hfaulted : t.anyFaulted [(l, o, c.count)] = true ↔ faulted l := by rw [Part.anyFaulted_one, ht]; exact Iff.rfl
    have hplace := t.placeWrite_eq tag c' hps
    refine ⟨fun hf => hended (hplace.1 (hfaulted.mpr hf)), fun hf hmode => hended (hplace.2.1 (mt hfaulted.mp hf) ?_),
      fun hf hmode k hk => hdone ((hplace.2.2 (mt hfaulted.mp hf) ?_).trans ?_) ?_⟩
    · rw [ht]; exact hmode
    · rw [ht]; exact fun h => by rw [show p.sys.mode = .degraded from h] at hmode; exact nomatch hmode
    · have hparts : parts k c.count = k.parts c.count := by cases k <;> rfl
      rw [Part.placePieces, Part.placePieces, hfirst l o c.count k (by rw [ht]; exact hk), hplaced, hparts]
    · rw [hplaced, htags]
  case across =>
    intro n m
    have hps : pieces t.sys.layout.dataBlocks c'.lba c'.count = [(l, o, n), (l + 1, 0, m)] := by
      rw [ht, hpieces.1, hpieces.2]
      exact pieces_two hacross hend
    have hfaulted : t.anyFaulted [(l, o, n), (l + 1, 0, m)] = true ↔ faulted l ∨ faulted (l + 1) := by
      rw [ht]
      simp only [Part.anyFaulted, List.any_cons, List.any_nil, Bool.or_false, Bool.or_eq_true, beq_iff_eq]
      exact Iff.rfl
    have hplace := t.placeWrite_eq tag c' hps
    refine ⟨fun hf => hended (hplace.1 (hfaulted.mpr hf)),
      fun hf hf' hmode => hended (hplace.2.1 (mt hfaulted.mp (not_or.mpr ⟨hf, hf'⟩)) ?_),
      fun hf hf' hmode k k' hk => ?_⟩
    · rw [ht]; exact hmode
    · intro s hk'
      have hs : s = p.placedBy k c.cid l o n 0 0 := hplaced ..
      have hparts : ∀ k n, parts k n = k.parts n := fun k n => by cases k <;> rfl
      obtain ⟨c₁, hc₁⟩ : ∃ c₁ : Cmd, c₁ = { c' with parts := List.replicate (k.parts n) .pending } := ⟨_, rfl⟩
      have hcid₁ : c₁.cid = c.cid := by rw [hc₁]; exact hcid
      have halone₁ : (s.withCmd tag c₁).Alone tag c₁ := (hs ▸ halone.placedBy ..).withCmd hcid₁
      refine hdone ((hplace.2.2 (mt hfaulted.mp (not_or.mpr ⟨hf, hf'⟩)) ?_).trans ?_) ?_
      · rw [ht]; exact fun h => by rw [show p.sys.mode = .degraded from h] at hmode; exact nomatch hmode
      · rw [Part.placePieces, Part.placePieces, Part.placePieces, hfirst l o n k (by rw [ht]; exact hk), ← hs, ← hc₁, hcid, ← hcid₁,
          Part.placePiece_eq halone₁ (k := k') (by exact hk'), Part.placedBy_withCmd, Part.withCmd_withCmd, hplaced, hcid₁]
        refine congrArg Part.deadlockCheck ?_
        rw [hc₁, hparts, hparts, Nat.zero_add]
        simp only [List.length_replicate, List.replicate_append_replicate]
      · rw [hplaced, htags, hs, htags]

end Sys2Proof
end

section

/-! ## The drive link (R120 to R125)

With the link up again, each command that awaits recovery is handled by its kind (`Part.linkUp_one`); in DEGRADED a withdrawn record
becomes a barrier, which ends the parts of the records at or above it (`Part.barrierParts_ends`). -/

namespace Sys2Proof.Machine

/-! ### What a barrier ends (R54, R55, R137) -/

theorem Part.barrierPart_ini (s : Part) (low : Nat) (low54 : Option Nat) (r : Rec) :
    s.barrierPart low low54 r = { s with ini := (s.barrierPart low low54 r).ini } ∧
      (s.barrierPart low low54 r).ini.sent = s.ini.sent ∧ (s.barrierPart low low54 r).ini.hold = s.ini.hold := by
  unfold Part.barrierPart
  split
  · split <;> exact ⟨rfl, rfl, rfl⟩
  · exact ⟨rfl, rfl, rfl⟩

/-- The parts that barriers end are the commands' alone. -/
theorem Part.barrierParts_ini (s : Part) :
    s.barrierParts = { s with ini := s.barrierParts.ini } ∧ s.barrierParts.ini.sent = s.ini.sent ∧
      s.barrierParts.ini.hold = s.ini.hold := by
  unfold Part.barrierParts
  split
  · exact ⟨rfl, rfl, rfl⟩
  · next low _ =>
    refine List.foldlRecOn (motive := fun t : Part =>
      t = { s with ini := t.ini } ∧ t.ini.sent = s.ini.sent ∧ t.ini.hold = s.ini.hold) _ _ ⟨rfl, rfl, rfl⟩ ?_
    rintro t ⟨ht, hsent, hhold⟩ r _
    obtain ⟨heq, hsent', hhold'⟩ := t.barrierPart_ini low (s.log.lowestBarrier fun b => b == .r54) r
    refine ⟨?_, hsent'.trans hsent, hhold'.trans hhold⟩
    rw [heq, ht]

/-- The record of a command whose part a barrier at `low` ends. -/
def Rec.EndedAt (r : Rec) (low : Nat) : Prop := low ≤ r.seq ∧ (r.st = .completed ∨ (r.st = .issued ∧ r.barrier.isSome = true))

/-- The tag holds the command `cid`, whose part `k` waits or has ended with `code`. -/
def Part.Ending (s : Part) (tag cid k : Nat) (code : Code) : Prop :=
  ∃ c, s.ini.at tag = some c ∧ c.cid = cid ∧ (c.parts.getD k .done = .pending ∨ c.parts.getD k .done = .failed code)

/-- The tag holds the command `cid`, whose part `k` has ended with `code`. -/
def Part.Ended (s : Part) (tag cid k : Nat) (code : Code) : Prop :=
  ∃ c, s.ini.at tag = some c ∧ c.cid = cid ∧ c.parts.getD k .done = .failed code

theorem Initiator.at_onCmd {s : Part} {tag : Nat} {c : Cmd} (hat : s.ini.at tag = some c) (cid : Nat) (f : Cmd → Cmd) :
    (s.onCmd cid f).ini.at tag = some (if c.cid = cid then f c else c) := by
  have hlt := Initiator.lt_length_of_at hat
  have htag : s.ini.tags[tag] = some c := by
    simpa [Initiator.at, hlt] using hat
  simp [Initiator.at, Part.onCmd, hlt, htag]

theorem Cmd.setPart_getD (c : Cmd) (i k : Nat) (p : PartState) :
    (c.setPart i p).parts.getD k .done = if i = k ∧ c.parts.getD i .done = .pending then p else c.parts.getD k .done := by
  unfold Cmd.setPart
  by_cases hp : c.parts.getD i .done = .pending
  · have hi : i < c.parts.length := by
      by_contra h
      rw [List.getD_eq_getElem?_getD, List.getElem?_eq_none (Nat.le_of_not_lt h)] at hp
      cases hp
    rw [if_pos hp]
    by_cases hik : i = k
    · subst hik
      rw [if_pos ⟨rfl, hp⟩]
      simp [hi]
    · rw [if_neg fun h => hik h.1]
      simp [List.getD_eq_getElem?_getD, List.getElem?_set_ne hik]
  · rw [if_neg hp, if_neg fun h => hp h.2]

/-- A part that ends with `code` leaves every command's parts waiting or ended with it. -/
theorem Part.Ending.partFinal {s : Part} {tag cid k : Nat} {code : Code} (h : s.Ending tag cid k code) (d i : Nat) :
    (s.partFinal d i (.failed code)).Ending tag cid k code ∧
      (d = cid → i = k → (s.partFinal d i (.failed code)).Ended tag cid k code) ∧
      (s.Ended tag cid k code → (s.partFinal d i (.failed code)).Ended tag cid k code) := by
  obtain ⟨c, hat, hcid, hpart⟩ := h
  have hat' : (s.partFinal d i (.failed code)).ini.at tag = some (if c.cid = d then c.setPart i (.failed code) else c) :=
    Initiator.at_onCmd hat d _
  have hset := c.setPart_getD i k (.failed code)
  have hsame : (c.setPart i (.failed code)).cid = c.cid := (c.setPart_same i (.failed code)).1
  have hwait : ∀ {x : PartState}, x = .pending ∨ x = .failed code → (if i = k ∧ c.parts.getD i .done = .pending then
      .failed code else x) = .pending ∨ (if i = k ∧ c.parts.getD i .done = .pending then
      .failed code else x) = .failed code := fun {x} hx => by
    by_cases hi : i = k ∧ c.parts.getD i .done = .pending
    · rw [if_pos hi]
      exact .inr rfl
    · rwa [if_neg hi]
  refine ⟨⟨_, hat', ?_, ?_⟩, fun hd hi => ⟨_, hat', ?_, ?_⟩, fun ⟨x, hx, hxc, hxp⟩ => ⟨_, hat', ?_, ?_⟩⟩
  · split <;> simp [hsame, hcid]
  · split
    · rw [hset]
      exact hwait hpart
    · exact hpart
  · split <;> simp [hsame, hcid]
  · rw [if_pos (hcid.trans hd.symm), hset]
    by_cases hp : c.parts.getD i .done = .pending
    · rw [if_pos ⟨hi, hp⟩]
    · rw [if_neg fun h => hp h.2]
      exact hpart.resolve_left (hi ▸ hp)
  · split <;> simp [hsame, hcid]
  · obtain rfl : c = x := Option.some.inj (hat.symm.trans hx)
    split
    · rw [hset, hxp]
      exact ite_self _
    · exact hxp

/-- A record that a barrier ends has its command's part end with the barrier's code. -/
theorem Part.barrierParts_ends {s : Part} {low tag cid k : Nat} {code : Code} {r : Rec}
    (hlow : s.log.lowestBarrier (fun _ => true) = some low)
    (hcode : ∀ x ∈ s.log.table, low ≤ x.seq →
      (if (s.log.lowestBarrier fun b => b == .r54).any (fun q => decide (q ≤ x.seq)) then Code.mediumError else .readOnly) = code)
    (hr : r ∈ s.log.table) (hended : r.EndedAt low) (horigin : r.origin = .cmd cid k) (h : s.Ending tag cid k code) :
    s.barrierParts.Ended tag cid k code := by
  have hstep : ∀ (t : Part) (x : Rec), x ∈ s.log.table → t.Ending tag cid k code →
      (t.barrierPart low (s.log.lowestBarrier fun b => b == .r54) x).Ending tag cid k code ∧
      (x = r ∨ t.Ended tag cid k code →
        (t.barrierPart low (s.log.lowestBarrier fun b => b == .r54) x).Ended tag cid k code) := fun t x hx ht => by
    unfold Part.barrierPart
    split
    · next d i hd =>
      split
      · next hen =>
        rw [hcode x hx hen.1]
        obtain ⟨hing, hthis, hkept⟩ := ht.partFinal d i
        refine ⟨hing, fun hor => hor.elim (fun heq => ?_) hkept⟩
        rw [heq, horigin] at hd
        cases hd
        exact hthis rfl rfl
      · next hen => exact ⟨ht, fun hor => hor.resolve_left fun heq => hen (heq ▸ hended)⟩
    · next hno => exact ⟨ht, fun hor => hor.resolve_left fun heq => hno _ _ (heq ▸ horigin)⟩
  have hfold : ∀ (l : List Rec) (t : Part), (∀ x ∈ l, x ∈ s.log.table) → t.Ending tag cid k code →
      r ∈ l ∨ t.Ended tag cid k code →
      (l.foldl (fun t x => t.barrierPart low (s.log.lowestBarrier fun b => b == .r54) x) t).Ended tag cid k code := fun l => by
    induction l with
    | nil => exact fun t _ _ hor => hor.resolve_left (by simp)
    | cons x l ih =>
      intro t hl ht hor
      obtain ⟨hing, hed⟩ := hstep t x (hl x (by simp)) ht
      refine ih _ (fun y hy => hl y (by simp [hy])) hing ?_
      obtain (rfl | hmem) | hend := hor.imp_left List.mem_cons.mp
      · exact .inr (hed (.inl rfl))
      · exact .inl hmem
      · exact .inr (hed (.inr hend))
  rw [Part.barrierParts, hlow]
  exact hfold _ s (fun x hx => hx) h (.inl hr)

/-- The part with a barrier at record `seq`. -/
def Part.barred (s : Part) (seq : Nat) (b : Barrier) : Part := s.onRec seq fun r => { r with barrier := some b }

/-- Where no other record is a barrier, the one at `seq` is the lowest. -/
theorem Part.barred_lowest {s : Part} {seq : Nat} {b : Barrier} (hnone : s.log.table.all (fun r => r.barrier.isNone) = true)
    {r : Rec} (hr : r ∈ s.log.table) (hseq : r.seq = seq) (f : Barrier → Bool) :
    (s.barred seq b).log.lowestBarrier f = if f b then some seq else none := by
  have hmem : ∀ x ∈ (s.barred seq b).log.table, x.barrier.any f = true → f b = true ∧ x.seq = seq := fun x hx hf => by
    obtain ⟨y, hy, rfl⟩ := List.mem_map.mp hx
    by_cases hys : y.seq = seq
    · simp only [hys, if_true, Option.any_some] at hf ⊢
      exact ⟨hf, trivial⟩
    · have hb := List.all_eq_true.mp hnone y hy
      simp only [Option.isNone_iff_eq_none] at hb
      simp only [hys, if_false, hb, Option.any_none] at hf
      cases hf
  unfold Log.lowestBarrier
  by_cases hf : f b = true
  · rw [if_pos hf]
    have hsome : ((s.barred seq b).log.table.find? fun r => r.barrier.any f).isSome = true :=
      List.find?_isSome.mpr ⟨{ r with barrier := some b }, List.mem_map.mpr ⟨r, hr, by simp [hseq]⟩, hf⟩
    obtain ⟨x, hx⟩ := Option.isSome_iff_exists.mp hsome
    rw [hx]
    exact congrArg some (hmem x (List.mem_of_find?_eq_some hx) (List.find?_some (p := fun r : Rec => r.barrier.any f) hx)).2
  · rw [if_neg hf, List.find?_eq_none.mpr fun x hx h => hf (hmem x hx h).1]
    rfl

/-! ### The link comes up -/

/-- The part as its link comes up, with nothing left that awaits recovery. -/
def Part.linked (s : Part) : Part := { s with port.linkUp := true, port.timer := none, port.awaiting := [] }

theorem Part.linkUp_eq {s : Part} (hdown : s.port.linkUp = false) (hmode : s.sys.mode ≠ .offline) :
    s.linkUp = ((s.port.awaiting.foldl (fun l o => placeOffer o l) []).foldl Part.recover s.linked).barrierParts := by
  unfold Part.linkUp
  rw [if_neg (by rw [hdown]; exact Bool.false_ne_true), if_neg hmode]
  rfl

/-- One command that awaits recovery is handled alone. -/
theorem Part.linkUp_one {s : Part} {o : Offer} (hdown : s.port.linkUp = false) (hmode : s.sys.mode ≠ .offline)
    (hone : s.port.awaiting = [o]) : s.linkUp = (s.linked.recover o).barrierParts := by
  rw [Part.linkUp_eq hdown hmode, hone]
  rfl

/-- A recovered offer goes ahead of offers none of which was aborted (R121). -/
theorem Part.rejoin_first {s : Part} (h : ∀ y ∈ s.port.offers, y.recovered = false) (x : Offer) :
    s.rejoin [x] = { s with port.offers := x :: s.port.offers } := by
  have hold : s.port.offers.filter (·.recovered) = [] := List.filter_eq_nil_iff.mpr fun y hy => by simp [h y hy]
  have hrest : s.port.offers.filter (fun o => !o.recovered) = s.port.offers :=
    List.filter_eq_self.mpr fun y hy => by simp [h y hy]
  rw [Part.rejoin, hold, hrest]
  rfl

/-- A recovered offer goes behind a recovered one of an earlier first grant (R121). -/
theorem Part.rejoin_second {s : Part} {y : Offer} {ys : List Offer} (hs : s.port.offers = y :: ys) (hy : y.recovered = true)
    (h : ∀ z ∈ ys, z.recovered = false) {x : Offer} (hxy : y.order ≤ x.order) :
    s.rejoin [x] = { s with port.offers := y :: x :: ys } := by
  have hold : s.port.offers.filter (·.recovered) = [y] := by
    rw [hs, List.filter_cons_of_pos hy, List.filter_eq_nil_iff.mpr fun z hz => by simp [h z hz]]
  have hrest : s.port.offers.filter (fun o => !o.recovered) = ys := by
    rw [hs, List.filter_cons_of_neg (by simp [hy]), List.filter_eq_self.mpr fun z hz => by simp [h z hz]]
  rw [Part.rejoin, hold, hrest]
  simp [placeOffer, Nat.not_lt.mpr hxy]

/-- The offer of a command that is tried again. -/
def Offer.again (o : Offer) : Offer := { o with attempt := o.attempt + 1 }

/-- A command whose kind is issued again as it is (R121). -/
theorem Part.recover_plain {s : Part} {o : Offer} (hl : o.cmd.limited = false) (hb : o.band = none)
    (hm : s.sys.mode ≠ .degraded ∨ o.cmd.modifies = false) : s.recover o = s.rejoin [o.again] := by
  unfold Part.recover
  rw [if_neg (by rw [hl]; exact Bool.false_ne_true), hb]
  have hno : ¬ (s.sys.mode = .degraded ∧ o.cmd.modifies = true) := fun ⟨hdeg, hmod⟩ =>
    hm.elim (fun hn => hn hdeg) fun hn => by rw [hn] at hmod; exact nomatch hmod
  rw [Offer.again, hb]
  exact if_neg hno

/-- A band write's place is taken by its recovery query (R122). -/
theorem Part.recover_band {s : Part} {o : Offer} {b w : Nat} (hl : o.cmd.limited = false) (hb : o.band = some (b, w)) :
    s.recover o = ({ s with port.recovering := s.port.recovering ++ [{ offer := o }] } : Part).rejoin
      [{ queryOffer (.recoveryQuery b) b 1 with order := o.order, standsIn := true }] := by
  unfold Part.recover
  rw [if_neg (by rw [hl]; exact Bool.false_ne_true), hb]

/-- In DEGRADED a write or reset is withdrawn (R124). -/
theorem Part.recover_withdrawn {s : Part} {o : Offer} (hl : o.cmd.limited = false) (hb : o.band = none)
    (hm : s.sys.mode = .degraded) (hmod : o.cmd.modifies = true) : s.recover o = s.reportWithdrawn o := by
  unfold Part.recover
  rw [if_neg (by rw [hl]; exact Bool.false_ne_true), hb]
  exact if_pos ⟨hm, hmod⟩

/-- A read or forwarded command is tried twice at most (R121). -/
theorem Part.recover_limited {s : Part} {o : Offer} (hl : o.cmd.limited = true) :
    (2 ≤ o.attempt → s.recover o = s.abortedFinal o) ∧
      (¬ 2 ≤ o.attempt → s.recover o = (s.retractData o.work).rejoin [o.again]) := by
  unfold Part.recover
  rw [if_pos hl]
  exact ⟨fun h => if_pos h, fun h => if_neg h⟩

theorem DriveCmd.not_limited_of_modifies {c : DriveCmd} (h : c.modifies = true) : c.limited = false := by
  cases c <;> simp_all [DriveCmd.limited, DriveCmd.modifies]

/-- The data-in of an aborted attempt is taken back where there is any (R118). -/
theorem Part.retractData_none {s : Part} {w : Work}
    (h : ∀ c ∈ s.ini.active, w = .forwarded c.cid → c.dir = .dataIn → c.data = []) : s.retractData w = s := by
  unfold Part.retractData
  split
  · next cid =>
    rw [List.find?_eq_none.mpr fun c hc hx => ?_]
    simp only [Bool.and_eq_true, beq_iff_eq, Bool.not_eq_true', List.isEmpty_eq_false_iff] at hx
    obtain ⟨⟨hcid, hdir⟩, hdata⟩ := hx
    exact hdata (h c hc (by rw [hcid]) hdir)
  · rfl

theorem Part.retractData_some {s : Part} {tag : Nat} {c : Cmd} (h : s.commandsSound) (hat : s.ini.at tag = some c)
    (hdir : c.dir = .dataIn) (hdata : c.data ≠ []) :
    s.retractData (.forwarded c.cid) = { s with
      ini.tags := s.ini.tags.set tag (some { c with data := [] }), ini.sent := s.ini.sent ++ [.retract tag] } := by
  obtain ⟨htag, _, _, honly, _⟩ := h.1 tag c hat
  have hfind : s.ini.active.find? (fun x => x.cid == c.cid && x.dir == .dataIn && !x.data.isEmpty) = some c := by
    obtain ⟨_, as, bs, hsplit, hbefore⟩ := List.find?_eq_some_iff_append.mp (Initiator.active_find hat honly)
    refine List.find?_eq_some_iff_append.mpr ⟨by simp [hdir, hdata], as, bs, hsplit, fun x hx => ?_⟩
    have hne : ¬ x.cid = c.cid := by simpa using hbefore x hx
    simp [hne]
  simp only [Part.retractData, hfind, htag]
  rfl

/-- A merge read that has ended ABORTED for good makes its band FAULTED (R105). -/
theorem Part.mergeReadFinal_aborted {s : Part} {i off n l : Nat} {pin : Option Pin} (hi : i < s.mrg.ctxs.length)
    (hst : (s.mrg.ctx i).st = .copy) (hb : (s.mrg.ctx i).band = some l) (hl : l < s.bands.lbt.length) :
    ((s.mergeReadFinal i off n pin .aborted []).mrg.ctx i).st = .release ∧
      ((s.mergeReadFinal i off n pin .aborted []).bands.lband l).st = .faulted := by
  obtain ⟨t, ht⟩ : ∃ t : Part, t = (s.unpinOpt pin).onCtx i (·.readEnded off) := ⟨_, rfl⟩
  have hsame : (s.unpinOpt pin).mrg = s.mrg ∧ (s.unpinOpt pin).bands.lbt = s.bands.lbt := by
    cases pin with
    | none => exact ⟨rfl, rfl⟩
    | some pin => cases pin <;> exact ⟨rfl, rfl⟩
  have hi' : i < (s.unpinOpt pin).mrg.ctxs.length := hsame.1 ▸ hi
  have hctx : t.mrg.ctx i = (s.mrg.ctx i).readEnded off := by
    rw [ht, Part.onCtx_ctx_self hi', hsame.1]
  have hit : i < t.mrg.ctxs.length := by
    rw [ht]
    simpa [Part.onCtx] using hi'
  have hfinal : s.mergeReadFinal i off n pin .aborted [] = t.faultMerge i .aborted := by
    have hcopy : ¬ (t.mrg.ctx i).st ≠ .copy := by
      rw [hctx]
      exact not_not_intro hst
    rw [ht] at hcopy ⊢
    exact (if_neg hcopy).trans (if_neg nofun)
  obtain ⟨rp, rs, again, w, heq, _⟩ := Part.faultMerge_eq .aborted hit (by rw [hctx]; exact hb)
  have hlt : l < t.bands.lbt.length := by
    rw [ht]
    exact hsame.2 ▸ hl
  have hfaulted : ∀ k : Bands, k.lbt = t.bands.lbt.modify l (fun b => { b with st := .faulted, resume := none }) →
      (k.lband l).st = .faulted := fun k hk => by rw [Bands.lband_modify (b := t.bands) hk hlt]
  rw [hfinal, heq]
  exact ⟨congrArg MergeCtx.st (Part.onCtx_ctx_self (s := t)
    (f := fun c => { c.ended i (t.mergeOffers i) with clean := false }) hit), hfaulted _ rfl⟩

/-- The anchor writer idles, and its directive has FAILED (R124, R176). -/
theorem Part.withdrawAnchor_eq {s : Part} {w : AnchorWrite} (h : s.log.anchor.flight = some w) :
    s.withdrawAnchor = { s with
      log.anchor := { s.log.anchor with flight := none }
      win := if w.dir.isSome = true ∧ s.pendingSettings = w.dir then s.win.finish .failed [] else s.win } := by
  simp only [Part.withdrawAnchor, h]
  cases hd : w.dir with
  | none => rfl
  | some n =>
    by_cases hp : s.pendingSettings = some n
    · rw [if_pos ⟨rfl, hp⟩]
      exact if_pos hp
    · rw [if_neg fun h => hp h.2]
      exact if_neg hp

end Sys2Proof.Machine

namespace Sys2Proof
open Sys2Proof.Machine

/-- Settles O5, by what becomes of each kind of command that awaits recovery. -/
theorem driveLinkGoesDownAndUp : Obligations.DriveLinkGoesDownAndUp := by
  refine ⟨?down, ?offline, ?up⟩
  case down =>
    intro p q hreset hmode
    rw [exec_drivePortLinkReset, State.act_awake _ hreset]
    refine ⟨fun hup => ?_, fun hup => ?_⟩
    · have htimer : (if p.timed then some 0 else none) = if p.sys.mode = .halted then none else some 0 := by
        by_cases hh : p.sys.mode = .halted <;> simp [Part.timed, hh, hmode]
      have heq : p.linkReset = _ := if_pos ⟨hup, hmode⟩
      refine congrArg (fun x : Machine.Part => Host.Outcome.next (State.mk x q)) (heq.trans ?_)
      dsimp only
      rw [htimer]
      rfl
    · have heq : p.linkReset = p := if_neg fun h => by rw [hup] at h; exact nomatch h.1
      exact congrArg (fun x : Machine.Part => Host.Outcome.next (State.mk x q)) heq
  case offline =>
    intro p q hreset hdown hmode
    rw [exec_driveLinkUp, State.act_awake _ hreset]
    have heq : p.linkUp = _ := (if_neg (by rw [hdown]; exact Bool.false_ne_true)).trans (if_pos hmode)
    exact congrArg (fun x : Machine.Part => Host.Outcome.next (State.mk x q)) heq
  case up =>
    intro p q o hreset hdown hmode hbarrier hoffers up next again plain
    have hact : ∀ {t : Machine.Part}, p.linkUp = t → exec .driveLinkUp ⟨p, q⟩ = .next ⟨t, q⟩ := fun {t} h => by
      rw [exec_driveLinkUp, State.act_awake _ hreset]
      exact congrArg (fun x : Machine.Part => Host.Outcome.next (State.mk x q)) h
    have hquiet : ∀ {t : Machine.Part}, t.log.table = p.log.table → t.barrierParts = t := fun {t} h =>
      Part.barrierParts_none t (h ▸ hbarrier)
    refine ⟨fun x hawait ho hx horder hattempt => hact ?two, fun hawait => ?one⟩
    case two =>
      obtain ⟨hol, hob, hom⟩ := ho
      obtain ⟨hxl, hxb, hxm⟩ := hx
      have hsorted : p.port.awaiting.foldl (fun l o => placeOffer o l) [] = [x, o] := by
        rw [hawait]
        simp [placeOffer, horder]
      have hfirst : p.linked.recover x = { p.linked with port.offers := x.again :: p.port.offers } :=
        (Part.recover_plain (s := p.linked) hxl hxb hxm).trans (Part.rejoin_first (s := p.linked) hoffers _)
      have hrecovered : x.again.recovered = true := by simp [Offer.again, Offer.recovered]; omega
      have hsecond : ({ p.linked with port.offers := x.again :: p.port.offers } : Machine.Part).recover o =
          { p.linked with port.offers := x.again :: o.again :: p.port.offers } :=
        (Part.recover_plain hol hob (by exact hom)).trans
          (Part.rejoin_second (s := { p.linked with port.offers := x.again :: p.port.offers }) rfl hrecovered hoffers
            (Nat.le_of_lt horder))
      rw [Part.linkUp_eq hdown hmode, hsorted, List.foldl_cons, List.foldl_cons, List.foldl_nil, hfirst, hsecond]
      exact hquiet rfl
    case one =>
      have hone : ∀ {t : Machine.Part}, p.linked.recover o = t → t.log.table = p.log.table →
          exec .driveLinkUp ⟨p, q⟩ = .next ⟨t, q⟩ := fun {t} h htable => hact <| by
        rw [Part.linkUp_one hdown hmode hawait, h, hquiet htable]
      refine ⟨fun ⟨hl, hb, hm⟩ => ?plain, fun b s hl hb => ?band,
        fun hl hfirst => ⟨fun hnone => ?fresh, fun tag c hsound hat hwork hdir hdata => ?retracted⟩,
        fun tag c hl hagain hat htag honly hdet hfail =>
          ⟨fun g a n ph hwork hcmd hpin hsegs hcursor _ => ?read, fun hwork hparts => ?forwarded⟩,
        fun i off n l hl hagain hwork hctxs hst hband hlt => ?merge,
        fun hdeg hmod hb => ⟨fun b code seq hkind => ?record, fun w hwork hflight => ?anchor, fun b hwork => ?reset⟩⟩
      case plain => exact hone ((Part.recover_plain (s := p.linked) hl hb hm).trans (Part.rejoin_first (s := p.linked) hoffers _)) rfl
      case band => exact hone ((Part.recover_band hl hb).trans (Part.rejoin_first (by exact hoffers) _)) rfl
      case fresh =>
        refine hone ((Part.recover_limited hl).2 (by omega) |>.trans ?_) rfl
        rw [Part.retractData_none (s := p.linked) hnone]
        exact Part.rejoin_first (by exact hoffers) _
      case retracted =>
        refine hone ((Part.recover_limited hl).2 (by omega) |>.trans ?_) rfl
        rw [hwork, Part.retractData_some (s := p.linked) hsound hat hdir hdata]
        exact Part.rejoin_first (by exact hoffers) _
      case read =>
        refine hone ((Part.recover_limited hl).1 hagain |>.trans ?_) rfl
        simp only [Part.abortedFinal, hwork, hcmd, hpin]
        exact Part.fgReadFinal_one (s := p.linked) hat htag honly hdet hsegs hcursor hfail
      case forwarded =>
        refine hone ((Part.recover_limited hl).1 hagain |>.trans ?_) rfl
        simp only [Part.abortedFinal, hwork]
        have hset : c.setPart 0 (forwardedOutcome .aborted) =
            { c with parts := [.failed .mediumError], fail := some .mediumError } := by
          simp [Cmd.setPart, hparts, hfail, forwardedOutcome, firstFail]
        refine (Part.onCmd_only (s := p.linked) hat honly hdet (·.setPart 0 (forwardedOutcome .aborted))).trans ?_
        rw [hset]
        rfl
      case merge =>
        have heq : p.linkUp = (p.linked.mergeReadFinal i off n o.pin .aborted []).barrierParts := by
          rw [Part.linkUp_one hdown hmode hawait, (Part.recover_limited hl).1 hagain]
          simp only [Part.abortedFinal, hwork]
        obtain ⟨hrelease, hfaulted⟩ := Part.mergeReadFinal_aborted (s := p.linked) (off := off) (n := n) (pin := o.pin)
          (show (i : Nat) < p.mrg.ctxs.length by omega) hst hband hlt
        obtain ⟨hini, _⟩ := (p.linked.mergeReadFinal i off n o.pin .aborted []).barrierParts_ini
        refine ⟨_, hact heq, ?_⟩
        rw [hini]
        exact ⟨hrelease, hfaulted⟩
      case record =>
        have hrecover : p.linked.recover o = p.linked.barred seq b := by
          rw [Part.recover_withdrawn (s := p.linked) (DriveCmd.not_limited_of_modifies hmod) hb hdeg hmod]
          obtain ⟨hwork, rfl, _⟩ | ⟨hwork, rfl, _⟩ := hkind <;> simp only [Part.reportWithdrawn, hwork] <;> rfl
        have heq : p.linkUp = (p.linked.barred seq b).barrierParts := by
          rw [Part.linkUp_one hdown hmode hawait, hrecover]
        obtain ⟨hini, hsent, hhold⟩ := (p.linked.barred seq b).barrierParts_ini
        refine ⟨_, hact heq, hini, hsent, hhold, fun tag k c r hr hseq hst horigin hat hpart => ?_⟩
        have hlowest := fun f => Part.barred_lowest (s := p.linked) (b := b) hbarrier hr hseq f
        have hended := Part.barrierParts_ends (s := p.linked.barred seq b) (tag := tag) (cid := c.cid) (k := k) (code := code)
          (r := { r with barrier := some b }) (hlowest _) (fun x _ hx => ?_) (List.mem_map.mpr ⟨r, hr, by simp [hseq]⟩)
          ⟨Nat.le_of_eq hseq.symm, .inr ⟨hst, rfl⟩⟩ horigin ⟨c, hat, rfl, .inl hpart⟩
        · obtain ⟨c', hat', _, hc'⟩ := hended
          exact ⟨c', hat', hc'⟩
        · rw [hlowest]
          obtain ⟨_, rfl, rfl⟩ | ⟨_, rfl, rfl⟩ := hkind
          · rfl
          · simp [hx]
      case anchor =>
        refine hone ((Part.recover_withdrawn (s := p.linked) (DriveCmd.not_limited_of_modifies hmod) hb hdeg hmod).trans ?_) rfl
        simp only [Part.reportWithdrawn, hwork]
        exact Part.withdrawAnchor_eq hflight
      case reset =>
        refine hone ((Part.recover_withdrawn (s := p.linked) (DriveCmd.not_limited_of_modifies hmod) hb hdeg hmod).trans ?_) rfl
        simp only [Part.reportWithdrawn, hwork]
        rfl

end Sys2Proof
end

section

/-! ## The start test (R88 to R92, R110) and the deadlock check (R108)

With one context allowed and idle (`Part.OneFree`), one run of the start test serves one source or none; `Part.Starts` is a run that takes
a band, and `Part.startOnce_walked` goes on to the other sources where the list gives nothing. -/

namespace Sys2Proof.Machine

/-! ### What follows a run -/

/-- No full part waits for bands that nothing will free (R108). -/
def Part.Calm (s : Part) : Prop :=
  s.pace.level ≠ .full ∨ s.bands.resetPend ≠ [] ∨ s.bands.free ≠ [] ∨ s.ini.hold = []

theorem Part.deadlocked_iff (s : Part) :
    s.deadlocked = true ↔ ¬ s.Calm ∧ ∀ c ∈ s.mrg.ctxs, c.st = .idle ∨ c.st = .waitBand := by
  simp only [Part.deadlocked, Part.Calm, Bool.and_eq_true, beq_iff_eq, List.all_eq_true, Bool.or_eq_true, List.isEmpty_iff,
    Bool.not_eq_true', List.isEmpty_eq_false_iff]
  tauto

/-- The check of a part whose start test leaves it as `t`. -/
theorem Part.deadlockCheck_of {s t : Part} (hm : s.sys.mode = .active) (h : s.startTest = t)
    (hd : t.Calm ∨ ∃ c ∈ t.mrg.ctxs, c.st ≠ .idle ∧ c.st ≠ .waitBand) : s.deadlockCheck = t := by
  have hno : ¬ t.deadlocked = true := fun hdead => by
    obtain ⟨hcalm, hctxs⟩ := t.deadlocked_iff.mp hdead
    obtain hc | ⟨c, hc, hidle, hwait⟩ := hd
    · exact hcalm hc
    · exact (hctxs c hc).elim hidle hwait
  unfold Part.deadlockCheck
  rw [if_pos hm, h]
  exact if_neg hno

/-- With no context for a merge the start test does nothing but for the end of a drain. -/
theorem Part.startTest_none {s : Part} (hm : s.sys.mode = .active) (h : s.idleContext = none) : s.startTest = s.drainCheck := by
  have honce : s.startOnce = (s, false) := by
    unfold Part.startOnce
    rw [h]
  rw [Part.startTest, if_pos hm, Part.startRuns, honce]

/-- A run that starts nothing ends the start test. -/
theorem Part.startTest_false {s t : Part} (hm : s.sys.mode = .active) (h : s.startOnce = (t, false)) :
    s.startTest = t.drainCheck := by
  rw [Part.startTest, if_pos hm, Part.startRuns, h]

/-- A run that starts work in the last context ends it too. -/
theorem Part.startTest_true {s t : Part} (hm : s.sys.mode = .active) (h : s.startOnce = (t, true)) (ht : t.idleContext = none) :
    s.startTest = t.drainCheck := by
  have honce : t.startOnce = (t, false) := by
    unfold Part.startOnce
    rw [ht]
  rw [Part.startTest, if_pos hm, Part.startRuns, h]
  dsimp only
  rw [Part.startRuns, honce]

theorem Part.idleContext_none {s : Part} (h : (∀ c ∈ s.mrg.ctxs, c.st ≠ .idle) ∨
    s.cfg.policy.contexts ≤ (s.mrg.ctxs.filter (·.st != .idle)).length) : s.idleContext = none := by
  unfold Part.idleContext
  obtain hall | hbusy := h
  · have hfind : s.mrg.ctxs.findIdx? (·.st == .idle) = none :=
      List.findIdx?_eq_none_iff.mpr fun c hc => by simp [hall c hc]
    dsimp only
    rw [hfind]
    exact ite_self _
  · exact if_neg fun h => Nat.not_lt.mpr hbusy h.2

/-! ### One context -/

/-- Two contexts, of which the first is free and the setting allows one (R84). -/
structure Part.OneFree (s : Part) (c : MergeCtx) : Prop where
  mode : s.sys.mode = .active
  contexts : s.cfg.policy.contexts = 1
  ctxs : s.mrg.ctxs = [{}, c]
  idle : c.st = .idle
  scan : s.mrg.rescan = false

theorem Part.OneFree.idleContext {s : Part} {c : MergeCtx} (h : s.OneFree c) : s.idleContext = some 0 := by
  simp [Part.idleContext, h.mode, h.contexts, h.ctxs, h.idle, List.findIdx?_cons]

/-- Once the first context is busy there is none for a merge. -/
theorem Part.OneFree.idleContext_after {s t : Part} {c d : MergeCtx} (h : s.OneFree c) (hcfg : t.cfg = s.cfg)
    (hctxs : t.mrg.ctxs = [d, c]) (hd : d.st ≠ .idle) : t.idleContext = none :=
  Part.idleContext_none (.inr (by simp [hcfg, h.contexts, hctxs, hd, h.idle]))

/-- The context that takes a band (R92). -/
def Part.takingCtx (s : Part) (l : Nat) (o : MergeOrigin) (clean : Bool) : MergeCtx :=
  { st := .waitAppend, band := some l, origin := some o, resume := some (s.bands.lband l).st, old := (s.bands.lband l).phys
    clean := clean }

theorem Part.takingCtx_busy (s : Part) (l : Nat) (o : MergeOrigin) (clean : Bool) :
    (s.takingCtx l o clean).st ≠ .idle ∧ (s.takingCtx l o clean).st ≠ .waitBand :=
  ⟨fun h : CtxState.waitAppend = .idle => CtxState.noConfusion h, fun h : CtxState.waitAppend = .waitBand => CtxState.noConfusion h⟩

/-- The part after its first context, beside `c`, has taken band `l`, with the list and the drain that leaves (R88 to R92, R110). -/
def Part.taking (s : Part) (c : MergeCtx) (l : Nat) (o : MergeOrigin) (clean : Bool) (reqs : List MergeReq)
    (drain : Option Drain) : Part :=
  { s with
    bands.lbt := s.bands.lbt.modify l fun b => { b with st := .merging, resume := some b.st }
    mrg := { s.mrg with reqs := reqs, drain := drain, ctxs := [s.takingCtx l o clean, c] } }

theorem Part.OneFree.takeBand {s : Part} {c : MergeCtx} (h : s.OneFree c) (l : Nat) (o : MergeOrigin) (clean : Bool)
    (reqs : List MergeReq) (drain : Option Drain) :
    ({ s with mrg := { s.mrg with reqs := reqs, drain := drain } } : Part).takeBand 0 l o clean = s.taking c l o clean reqs drain := by
  simp [Part.takeBand, Part.taking, Part.takingCtx, Part.onL, Part.onCtx, h.ctxs]

/-- Without the flag of R87 nothing is scanned again. -/
theorem Part.rescan_off {s : Part} (h : s.mrg.rescan = false) : s.rescan = s := if_neg (by rw [h]; exact Bool.false_ne_true)

/-- A band that is not on the list is taken as it is. -/
theorem Part.OneFree.takeListed {s : Part} {c : MergeCtx} (h : s.OneFree c) (hreqs : s.mrg.reqs = []) (l : Nat) (o : MergeOrigin)
    (drain : Option Drain) :
    ({ s with mrg.drain := drain } : Part).takeListed 0 l o = s.taking c l o false [] drain := by
  have hreq : ({ s with mrg.drain := drain } : Part).mrg.req l = none := by simp [Merge.req, hreqs]
  unfold Part.takeListed
  rw [hreq, ← h.takeBand, ← hreqs]

/-- A taken band ends the event: its context is neither idle nor waiting for a band. -/
theorem Part.OneFree.check_taking {s : Part} {c : MergeCtx} (h : s.OneFree c) {l : Nat} {o : MergeOrigin} {clean : Bool}
    {reqs : List MergeReq} {drain : Option Drain} (honce : s.startOnce = (s.taking c l o clean reqs drain, true))
    (hdrain : drain = none ∨ o = .drain) : s.deadlockCheck = s.taking c l o clean reqs drain := by
  have hctxs : (s.taking c l o clean reqs drain).mrg.ctxs = [s.takingCtx l o clean, c] := rfl
  refine Part.deadlockCheck_of h.mode ((Part.startTest_true h.mode honce (h.idleContext_after rfl hctxs (s.takingCtx_busy l o clean).1)).trans ?_)
    (.inr ⟨_, by rw [hctxs]; exact List.mem_cons_self, s.takingCtx_busy l o clean⟩)
  obtain hnone | horigin := hdrain
  · exact Part.drainCheck_none hnone
  · exact Part.drainCheck_serving ⟨s.takingCtx l o clean, by rw [hctxs]; exact List.mem_cons_self, congrArg some horigin⟩

/-- A run that starts nothing leaves what it has changed, where no deadlock shows. -/
theorem Part.OneFree.check_false {s t u : Part} {c : MergeCtx} (h : s.OneFree c) (honce : s.startOnce = (t, false))
    (hu : t.drainCheck = u) (hcalm : u.Calm) : s.deadlockCheck = u :=
  Part.deadlockCheck_of h.mode ((Part.startTest_false h.mode honce).trans hu) (.inl hcalm)

/-! ### The list (R89) -/

theorem Part.walkList_none {s : Part} {i fuel k : Nat} (h : s.mrg.reqs[k]? = none) : s.walkList i fuel k = (s, false) := by
  cases fuel with
  | zero => rfl
  | succ n => rw [Part.walkList, h]

/-- Where the list takes no band, the other sources are asked in their order. -/
theorem Part.OneFree.startOnce_walked {s t : Part} {c : MergeCtx} (h : s.OneFree c)
    (hwalk : s.walkList 0 256 0 = (t, false)) : s.startOnce =
      match t.pressureSource 0 with
      | some u => (u, true)
      | none =>
        match t.tailSource 0 with
        | some u => (u, true)
        | none => t.drainSource 0 := by
  unfold Part.startOnce
  rw [h.idleContext]
  dsimp only
  rw [show 4 * Config.requestCapacity = 256 from rfl, hwalk] <;> rfl

/-- An empty list. -/
theorem Part.OneFree.startOnce_unlisted {s : Part} {c : MergeCtx} (h : s.OneFree c) (hreqs : s.mrg.reqs = []) : s.startOnce =
      match s.pressureSource 0 with
      | some u => (u, true)
      | none =>
        match s.tailSource 0 with
        | some u => (u, true)
        | none => s.drainSource 0 :=
  (h.startOnce_walked (Part.walkList_none (by rw [hreqs]; rfl))).trans (by rfl)

theorem Part.pressureSource_off {s : Part} (h : s.idx.pressure = false) (i : Nat) : s.pressureSource i = none :=
  if_neg (by rw [h]; exact Bool.false_ne_true)

theorem Part.tailSource_normal {s : Part} (h : s.pace.level = .normal) (i : Nat) : s.tailSource i = none := if_pos h

theorem Part.drainSource_none {s : Part} (h : s.mrg.drain = none) (i : Nat) : s.drainSource i = (s, false) := by
  unfold Part.drainSource
  rw [h]

/-- The band of a SUSPECT state whose refresh is outstanding (R35). -/
theorem Part.refreshing_iff (s : Part) (l : Nat) : s.refreshing l = true ↔
    (s.bands.lband l).st = .suspect ∧ ∃ n, (s.bands.lband l).phys = some n ∧ (s.bands.pband n).refresh = true := by
  simp only [Part.refreshing, Bool.and_eq_true, beq_iff_eq, Option.any_eq_true]

/-- The head of the list leaves it. -/
theorem filter_head {e : MergeReq} {rest : List MergeReq} (h : ∀ x ∈ rest, x.band ≠ e.band) :
    (e :: rest).filter (·.band != e.band) = rest := by
  rw [List.filter_cons_of_neg (by simp)]
  exact List.filter_eq_self.mpr fun x hx => by simp [h x hx]

/-- The head of the list has its band taken (R89). -/
theorem Part.OneFree.walk_taken {s : Part} {c : MergeCtx} (h : s.OneFree c) {e : MergeReq} {rest : List MergeReq}
    (hreqs : s.mrg.reqs = e :: rest) (hrest : ∀ x ∈ rest, x.band ≠ e.band)
    (hfree : ¬ ((s.bands.lband e.band).st = .merging ∨ s.refreshing e.band = true))
    (hwork : ¬ (s.extentCount e.band = 0 ∧ (s.bands.lband e.band).st ≠ .suspect)) :
    s.startOnce = (s.taking c e.band (if e.urgent = true ∧ e.clean = false then .urgent else .directive) e.clean rest
      s.mrg.drain, true) := by
  have hdrop : s.dropReq e.band = { s with mrg := { s.mrg with reqs := rest, drain := s.mrg.drain } } := by
    rw [Part.dropReq, hreqs, filter_head hrest]
  have hwalk : s.walkList 0 256 0 = (s.taking c e.band (if e.urgent = true ∧ e.clean = false then .urgent else .directive)
      e.clean rest s.mrg.drain, true) := by
    rw [Part.walkList, hreqs]
    dsimp only [List.getElem?_cons_zero]
    rw [if_neg hfree, if_neg (by rw [hdrop]; exact hwork), hdrop, h.takeBand, Part.rescan_off (by exact h.scan)]
  unfold Part.startOnce
  rw [h.idleContext]
  dsimp only
  rw [show 4 * Config.requestCapacity = 256 from rfl, hwalk]

/-- The only entry of the list leaves it where its band has no work (R89). -/
theorem Part.OneFree.walk_dropped {s : Part} {c : MergeCtx} (h : s.OneFree c) {e : MergeReq} (hreqs : s.mrg.reqs = [e])
    (hfree : ¬ ((s.bands.lband e.band).st = .merging ∨ s.refreshing e.band = true))
    (hwork : s.extentCount e.band = 0 ∧ (s.bands.lband e.band).st ≠ .suspect) :
    s.walkList 0 256 0 = (let t : Part := { s with mrg.reqs := []}
      if e.clean then t.finishClean e.band .done else t, false) := by
  have hdrop : s.dropReq e.band = { s with mrg.reqs := [] } := by
    rw [Part.dropReq, hreqs, filter_head (by simp)]
  obtain ⟨t, ht⟩ : ∃ t : Part, t = if e.clean then ({ s with mrg.reqs := [] } : Part).finishClean e.band .done
      else { s with mrg.reqs := [] } := ⟨_, rfl⟩
  have hmrg : t.mrg = { s.mrg with reqs := [] } := by
    rw [ht]
    unfold Part.finishClean
    split
    · split <;> rfl
    · rfl
  rw [Part.walkList, hreqs]
  dsimp only [List.getElem?_cons_zero]
  rw [if_neg hfree, if_pos (by rw [hdrop]; exact hwork), hdrop]
  dsimp only
  rw [← ht, Part.rescan_off (by rw [hmrg]; exact h.scan), Part.walkList_none (by rw [hmrg]; rfl)]

/-! ### Index pressure (R91) -/

/-- Band `l` comes before `m` as the candidate of R77. -/
def Index.ranks (i : Index) (d l m : Nat) : Prop :=
  i.count d m < i.count d l ∨ i.count d m = i.count d l ∧ (i.staged d m < i.staged d l ∨ i.staged d m = i.staged d l ∧ l < m)

/-- Band `l` may be the candidate of R77. -/
def Part.eligible (s : Part) (l : Nat) : Prop :=
  ¬ ((s.bands.lband l).st = .merging ∨ (s.bands.lband l).st = .faulted ∨ s.idx.count s.sys.layout.dataBlocks l = 0)

/-- The candidate is the eligible band that comes before every other. -/
theorem Part.candidate_eq {s : Part} {l : Nat} (hl : l < s.bands.lbt.length) (hel : s.eligible l)
    (hbest : ∀ m, m < s.bands.lbt.length → m ≠ l → s.eligible m → s.idx.ranks s.sys.layout.dataBlocks l m) :
    s.candidate = some l := by
  obtain ⟨d, hd⟩ : ∃ d, d = s.sys.layout.dataBlocks := ⟨_, rfl⟩
  obtain ⟨pick, hpick⟩ : ∃ pick : Option Nat → Nat → Option Nat, pick = fun best m =>
    let st := (s.bands.lband m).st
    if st = .merging ∨ st = .faulted ∨ s.idx.count d m = 0 then best
    else match best with
      | none => some m
      | some b => if betterCandidate s.idx d m b then some m else best := ⟨_, rfl⟩
  have hskip : ∀ best m, ¬ s.eligible m → pick best m = best := fun best m hm => by
    rw [hpick]
    exact if_pos (hd ▸ not_not.mp hm)
  have hgo : ∀ best m, s.eligible m → pick best m = match best with
      | none => some m
      | some b => if betterCandidate s.idx d m b then some m else best := fun best m hm => by
    rw [hpick]
    exact (if_neg (hd ▸ hm)).trans (by rfl)
  have hwalk : ∀ n, n ≤ s.bands.lbt.length → ∀ best, (List.range n).foldl pick none = best →
      (l < n → best = some l) ∧ (n ≤ l → ∀ b, best = some b → b < n ∧ s.eligible b) := fun n => by
    induction n with
    | zero => exact fun _ best hb => ⟨nofun, fun _ b h => by rw [← hb] at h; cases h⟩
    | succ n ih =>
      intro hn best hfold
      rw [List.range_succ, List.foldl_append, List.foldl_cons, List.foldl_nil] at hfold
      obtain ⟨old, hold⟩ : ∃ old, (List.range n).foldl pick none = old := ⟨_, rfl⟩
      obtain ⟨hin, hout⟩ := ih (by omega) old hold
      rw [hold] at hfold
      by_cases hel' : s.eligible n
      · rw [hgo old n hel'] at hfold
        refine ⟨fun hln => ?_, fun hnl b hb => ?_⟩
        · obtain hlt | rfl := Nat.lt_or_eq_of_le (Nat.le_of_lt_succ hln)
          · rw [hin hlt] at hfold
            have hrank := hd ▸ hbest n (by omega) (by omega) hel'
            have hnot : ¬ betterCandidate s.idx d n l = true := by
              unfold Index.ranks at hrank
              simp only [betterCandidate, decide_eq_true_eq]
              omega
            rw [← hfold]
            exact if_neg hnot
          · cases old with
            | none => exact hfold.symm
            | some b =>
              obtain ⟨hb, helb⟩ := hout (Nat.le_refl _) b rfl
              have hrank := hd ▸ hbest b (by omega) (by omega) helb
              have hbetter : betterCandidate s.idx d l b = true := by
                unfold Index.ranks at hrank
                simp only [betterCandidate, decide_eq_true_eq]
                omega
              rw [← hfold]
              exact if_pos hbetter
        · cases old with
          | none =>
            rw [← hfold] at hb
            cases hb
            exact ⟨Nat.lt_succ_self _, hel'⟩
          | some x =>
            obtain ⟨hx, helx⟩ := hout (by omega) x rfl
            rw [← hfold] at hb
            dsimp only at hb
            split at hb
            · cases hb
              exact ⟨Nat.lt_succ_self _, hel'⟩
            · cases hb
              exact ⟨by omega, helx⟩
      · rw [hskip old n hel'] at hfold
        refine ⟨fun hln => ?_, fun hnl b hb => ?_⟩
        · have hne : l ≠ n := fun h => hel' (h ▸ hel)
          exact hfold ▸ hin (by omega)
        · obtain ⟨hx, helx⟩ := hout (by omega) b (hfold.trans hb)
          exact ⟨by omega, helx⟩
  have hfold : s.candidate = (List.range s.bands.lbt.length).foldl pick none := by rw [hpick, hd]; rfl
  exact (hwalk _ (Nat.le_refl _) _ hfold.symm).1 hl

/-! ### The tail trigger (R90) -/

/-- A record that the tail trigger passes over. -/
def Part.PassedOver (s : Part) (r : Rec) : Prop :=
  r.st = .settled ∧ 0 < r.live ∧ (r.kind = .commit ∨ r.kind = .discard ∧ r.full = true ∨
    ∃ l, r.band = some l ∧ ((s.bands.lband l).st = .merging ∨ s.refreshing l = true))

theorem Part.tailWalk_passed {s : Part} (i : Nat) {passed : List Rec} (h : ∀ r ∈ passed, s.PassedOver r) (rs : List Rec) (first : Bool) :
    s.tailWalk i first (passed ++ rs) = s.tailWalk i (first && passed.isEmpty) rs := by
  induction passed generalizing first with
  | nil => simp
  | cons r passed ih =>
    obtain ⟨hst, hlive, hkind⟩ := h r (by simp)
    have hnext := ih (fun x hx => h x (by simp [hx])) false
    rw [List.cons_append, Part.tailWalk, if_neg (not_not_intro hst), if_neg (by omega)]
    simp only [List.isEmpty_cons, Bool.and_false, Bool.false_and] at hnext ⊢
    by_cases hover : r.kind = .commit ∨ r.kind = .discard ∧ r.full = true
    · rw [if_pos hover, hnext]
    · obtain ⟨l, hl, hband⟩ := (or_assoc.mpr hkind).resolve_left hover
      rw [if_neg hover, hl]
      exact (if_pos hband).trans hnext

/-- What the tail trigger does about a live settled record of a band. -/
theorem Part.tailWalk_record {s : Part} {i l : Nat} {first : Bool} {r : Rec} {rs : List Rec} (hst : r.st = .settled) (hlive : 0 < r.live)
    (hkind : ¬ (r.kind = .commit ∨ r.kind = .discard ∧ r.full = true)) (hband : r.band = some l)
    (hfree : ¬ ((s.bands.lband l).st = .merging ∨ s.refreshing l = true)) :
    s.tailWalk i first (r :: rs) =
      if (s.bands.lband l).st = .faulted then
        if first = true ∧ s.mayCarry r l = true then some (s.beginCarry i r l) else none
      else some (s.takeListed i l .tail) := by
  rw [Part.tailWalk, if_neg (not_not_intro hst), if_neg (by omega), if_neg hkind, hband]
  exact if_neg hfree

/-- The tail trigger begins at the reclaim point. -/
theorem Part.tailSource_eq {s : Part} (i : Nat) (hlevel : s.pace.level ≠ .normal) {old passed later : List Rec} {r : Rec}
    (htable : s.log.table = old ++ passed ++ r :: later) (hold : ∀ x ∈ old, x.st = .reclaimed) (hlen : passed.length < 64)
    (hpassed : ∀ x ∈ passed, s.PassedOver x) (hr : r.st ≠ .reclaimed) :
    ∃ rs, s.tailSource i = s.tailWalk i passed.isEmpty (r :: rs) := by
  have hneeded : s.log.needed = passed ++ r :: later := by
    rw [Log.needed, htable, List.append_assoc, List.dropWhile_append_of_pos fun x hx => by simp [hold x hx]]
    cases passed with
    | nil => simp [hr]
    | cons x passed =>
      have hx := (hpassed x (by simp)).1
      simp [hx]
  have htake : s.log.needed.take 64 = passed ++ r :: later.take (63 - passed.length) := by
    rw [hneeded, List.take_append, List.take_of_length_le (by omega), show 64 - passed.length = (63 - passed.length) + 1 by omega,
      List.take_succ_cons]
  refine ⟨later.take (63 - passed.length), ?_⟩
  unfold Part.tailSource
  rw [if_neg hlevel, show Config.tailWalk = 64 from rfl, htake, Part.tailWalk_passed i hpassed, Bool.true_and]

/-! ### The drain (R110) -/

/-- A drain that has counted `n` more FAULTED bands. -/
def Drain.fails (x : Drain) (n : Nat) : Drain := { x with failed := x.failed + n }

/-- A band that the drain passes over. -/
def Part.drainPasses (s : Part) (l : Nat) : Prop :=
  s.extentCount l = 0 ∨ (s.bands.lband l).st = .merging ∨ (s.bands.lband l).st = .faulted

/-- A FAULTED band that the drain counts. -/
def Part.drainFails (s : Part) (l : Nat) : Bool := decide (0 < s.extentCount l ∧ (s.bands.lband l).st = .faulted)

theorem Part.drainWalk_passed {s : Part} (i : Nat) {ms : List Nat} (h : ∀ m ∈ ms, s.drainPasses m) (ls : List Nat) (x : Drain) :
    ({ s with mrg.drain := some x } : Part).drainWalk i (ms ++ ls) =
      ({ s with mrg.drain := some (x.fails (ms.filter s.drainFails).length) } : Part).drainWalk i ls := by
  induction ms generalizing x with
  | nil => rfl
  | cons m ms ih =>
    have hnext := ih (fun y hy => h y (by simp [hy]))
    have hm := h m (by simp)
    rw [List.cons_append, Part.drainWalk]
    by_cases hskip : s.extentCount m = 0 ∨ (s.bands.lband m).st = .merging
    · have hno : ¬ s.drainFails m = true := by
        simp only [Part.drainFails, decide_eq_true_eq]
        rintro ⟨hcount, hfault⟩
        obtain h0 | hmerging := hskip
        · omega
        · rw [hmerging] at hfault
          cases hfault
      rw [List.filter_cons_of_neg hno]
      exact (if_pos hskip).trans (hnext x)
    · have hfault : (s.bands.lband m).st = .faulted := by
        unfold Part.drainPasses at hm
        tauto
      have hyes : s.drainFails m = true := by
        simp only [Part.drainFails, decide_eq_true_eq]
        exact ⟨Nat.pos_of_ne_zero fun h0 => hskip (.inl h0), hfault⟩
      rw [List.filter_cons_of_pos hyes]
      refine (if_neg hskip).trans ((if_pos hfault).trans ((hnext (x.fails 1)).trans ?_))
      simp only [Drain.fails, List.length_cons, Nat.add_assoc, Nat.add_comm 1]

/-- The bands from the cursor up to `l`, counted. -/
theorem filter_range_from (k l : Nat) (f : Nat → Bool) :
    ((List.range l).filter fun m => decide (k ≤ m) && f m) = ((List.range l).drop k).filter f := by
  conv_lhs => rw [← List.take_append_drop k (List.range l)]
  rw [List.filter_append, List.filter_eq_nil_iff.mpr fun m hm => ?low, List.nil_append]
  · refine List.filter_congr fun m hm => ?_
    obtain ⟨j, hj, rfl⟩ := List.mem_iff_getElem.mp hm
    simp
  case low =>
    obtain ⟨j, hj, rfl⟩ := List.mem_iff_getElem.mp hm
    simp only [List.length_take, List.length_range] at hj
    simp only [List.getElem_take, List.getElem_range, Bool.and_eq_true, decide_eq_true_eq]
    omega

/-- The walk from the cursor reaches a band behind those it passes. -/
theorem range_drop_split {k l n : Nat} (hkl : k ≤ l) (hln : l < n) :
    ∃ ls, (List.range n).drop k = (List.range l).drop k ++ l :: ls := by
  refine ⟨(List.range n).drop (l + 1), ?_⟩
  have hsplit : List.range n = List.range l ++ l :: (List.range n).drop (l + 1) := by
    conv_lhs => rw [← List.take_append_drop l (List.range n), List.drop_eq_getElem_cons (by simpa using hln)]
    rw [List.take_range, Nat.min_eq_left (Nat.le_of_lt hln), List.getElem_range]
  conv_lhs => rw [hsplit]
  rw [List.drop_append_of_le_length (by simpa using hkl)]

end Sys2Proof.Machine

end

section

/-! ## MERGE_START (R88 to R92, R108, R110) -/

namespace Sys2Proof.Machine

/-- A carry-forward pass begins with its first 8 reads (R62). -/
theorem Part.OneFree.beginCarry {s : Part} {c : MergeCtx} (h : s.OneFree c) {r : Rec} {l : Nat} {list data : List Extent}
    (hlist : s.idx.ofRecord s.sys.layout.dataBlocks r = list) (hdata : list.filter (·.kind == .data) = data) (hne : data ≠ []) :
    s.beginCarry 0 r l = { s with
      log.table := s.log.table.map fun x => if x.seq = r.seq then { x with readers := x.readers + min 8 data.length } else x
      port.offers := s.port.offers ++ (List.range (min 8 data.length)).map fun j =>
        { cls := .e, work := .carryRead 0 j
          cmd := .read (8 + (data.map (·.lp)).getD j 0) ((data.map (·.len)).getD j 0), pin := some (.record r.seq) }
      mrg.ctxs := [{ st := .copy, band := some l, origin := some .tail
                     carry := some { seq := r.seq, list := list, issued := min 8 data.length
                                     flight := List.range (min 8 data.length) } }, c] } := by
  obtain ⟨z, hz⟩ : ∃ z : CarryPass, z = { seq := r.seq, list := list } := ⟨_, rfl⟩
  obtain ⟨d, hd⟩ : ∃ d : MergeCtx, d = { st := .copy, band := some l, origin := some .tail, carry := some z } := ⟨_, rfl⟩
  obtain ⟨t, ht⟩ : ∃ t : Part, t = { s with mrg.ctxs := [d, c] } := ⟨_, rfl⟩
  have hbegun : s.onCtx 0 (fun _ => d) = t := by
    rw [ht]
    simp [Part.onCtx, h.ctxs]
  have hctx : t.mrg.ctx 0 = d := by
    rw [ht]
    rfl
  have hpass : z.dataList = data := by
    rw [hz]
    exact hdata
  have hlen : (data.take 8).length = min 8 data.length := List.length_take
  have hi : 0 < t.mrg.ctxs.length := by
    rw [ht]
    exact Nat.succ_pos _
  have hcarry : (t.mrg.ctx 0).carry = some z := by rw [hctx, hd]
  have hreads : t.issueCarryReads 0 = t.carryReads 0 z (data.take 8) := by
    rw [Part.issueCarryReads_eq hi hcarry, hpass, hz]
    rfl
  have hflight : (z.issues (data.take 8).length).flight ≠ [] := by
    have hpos := List.length_pos_iff.mpr hne
    intro hnil
    have := congrArg List.length hnil
    simp only [CarryPass.issues, hz, List.nil_append, List.length_range', hlen, List.length_nil] at this
    omega
  have hbegin : s.beginCarry 0 r l = (t.issueCarryReads 0).checkCarryIfRead 0 := by
    rw [← hbegun, hd, hz, ← hlist]
    rfl
  have hoffers : (data.take 8).mapIdx (fun n e => z.readOffer 0 (z.issued + n) e) = (List.range (min 8 data.length)).map fun j =>
      { cls := .e, work := .carryRead 0 j
        cmd := .read (8 + (data.map (·.lp)).getD j 0) ((data.map (·.len)).getD j 0), pin := some (.record r.seq) } := by
    refine List.ext_getElem (by simp) fun j hj _ => ?_
    have hj' : j < data.length := by
      simp only [List.length_mapIdx, hlen] at hj
      omega
    simp [CarryPass.readOffer, hz, hj']
  rw [hbegin, hreads, Part.checkCarryIfRead_flying (by rw [Part.carryReads_ctx z _ hi]) hflight, Part.carryReads, hctx, hoffers,
    hlen, ht, hd, hz]
  simp [CarryPass.issues, Rec.pinned, List.range_eq_range']

end Sys2Proof.Machine

namespace Sys2Proof
open Sys2Proof.Machine

/-- Settles O39, by what each of the four sources gives where those before it give nothing. -/
theorem mergesStartOrTheDeadlockShows : Obligations.MergesStartOrTheDeadlockShows := by
  intro p q hreset d count staged st refreshing calm start taken
  have hact : ∀ {t : Machine.Part}, p.deadlockCheck = t → start = .next ⟨t, q⟩ := fun {t} h => by
    show exec .mergeStart _ = _
    rw [exec_mergeStart, State.act_awake _ hreset]
    exact congrArg (fun x : Machine.Part => Host.Outcome.next (State.mk x q)) h
  have hrefresh : ∀ l, p.refreshing l = true ↔ refreshing l := fun l => p.refreshing_iff l
  refine ⟨fun hmode => hact (if_neg hmode), fun c hmode hcontexts hctxs hidle hscan => ?free, fun hmode hdrain hbusy => ?busy⟩
  case busy =>
    have htest : p.startTest = p := (Part.startTest_none hmode (Part.idleContext_none hbusy)).trans (Part.drainCheck_none hdrain)
    refine ⟨fun hd => hact (Part.deadlockCheck_of hmode htest hd), fun hcalm hwait => ?_⟩
    have hdead : p.deadlockCheck = p.enterDegraded := by
      unfold Part.deadlockCheck
      rw [if_pos hmode, htest]
      exact if_pos (p.deadlocked_iff.mpr ⟨hcalm, hwait⟩)
    exact ⟨_, hact hdead, Part.enterDegraded_sys _ hmode⟩
  case free =>
    have hfree : p.OneFree c := ⟨hmode, hcontexts, hctxs, hidle, hscan⟩
    have hnormal : p.pace.level = .normal → p.Calm := fun h => .inl (by rw [h]; nofun)
    refine ⟨fun e rest hreqs hrest hdrain _ hmerging hfaulted hcalmband =>
        ⟨fun hwork => ?listed, fun hcount hsuspect hlast hpressure hlevel => ?dropped⟩,
      fun l hreqs hpressure hdrain hl hcount hmerging hfaulted hbest => ?pressure,
      fun old passed later r hreqs hpressure hdrain hlevel htable hold hlen hpassed => ?tail,
      fun x hreqs hpressure hlevel hdrain horigin => ?drain⟩
    case listed =>
      have honce := hfree.walk_taken hreqs hrest (not_or.mpr ⟨hmerging, mt (hrefresh _).mp hcalmband⟩)
        fun ⟨h0, hns⟩ => hwork.elim (fun hpos => Nat.ne_of_gt hpos h0) hns
      rw [hdrain] at honce
      exact hact (hfree.check_taking honce (.inl rfl))
    case dropped =>
      have hwalk := hfree.walk_dropped (by rw [hreqs, hlast]) (not_or.mpr ⟨hmerging, mt (hrefresh _).mp hcalmband⟩) ⟨hcount, hsuspect⟩
      have hdrop : ∀ t : Machine.Part, p.walkList 0 256 0 = (t, false) → t.idx = p.idx → t.pace = p.pace → t.mrg.drain = none →
          p.deadlockCheck = t := fun t hw hidx hpace hnone => by
        refine hfree.check_false ((hfree.startOnce_walked hw).trans ?_) (Part.drainCheck_none hnone) (.inl ?_)
        · rw [Part.pressureSource_off (by rw [hidx]; exact hpressure), Part.tailSource_normal (by rw [hpace]; exact hlevel)]
          exact Part.drainSource_none hnone 0
        · rw [hpace, hlevel]
          nofun
      refine ⟨fun hclean => hact (hdrop _ (hwalk.trans ?_) rfl rfl hdrain), fun num hclean hdir => hact (hdrop _ (hwalk.trans ?_) rfl rfl hdrain)⟩
      · rw [hclean]
        rfl
      · have hpending : ({ p with mrg.reqs := [] } : Machine.Part).pendingIs [cleanCode] = true :=
          Part.pendingIs_of (x := { num := num, code := 7 }) hdir (by simp [cleanCode])
        rw [hclean]
        exact congrArg (fun t : Machine.Part => (t, false)) (if_pos hpending)
    case pressure =>
      have hstaged : ∀ m, p.idx.staged p.sys.layout.dataBlocks m = staged m := fun m => by
        simp only [Index.staged, Index.ofBand, List.filter_filter, Bool.and_comm, staged, d]
      have hcand : p.candidate = some l := Part.candidate_eq hl
        (fun h => h.elim hmerging (fun h => h.elim hfaulted (Nat.ne_of_gt hcount)))
        fun m hm hne hel => by
          obtain h0 | hmm | hmf | hfew | htie := hbest m hm hne
          · exact absurd (.inr (.inr h0)) hel
          · exact absurd (.inl hmm) hel
          · exact absurd (.inr (.inl hmf)) hel
          · exact .inl hfew
          · refine .inr ⟨htie.1, ?_⟩
            rw [hstaged, hstaged]
            exact htie.2
      have hsource : p.pressureSource 0 = if p.refreshing l then none else some (p.takeListed 0 l .index) := by
        unfold Part.pressureSource
        rw [if_pos hpressure, hcand]
      refine ⟨fun hcalmband => hact (hfree.check_taking ?_ (.inl rfl)), fun hrefreshing hlevel =>
        hact (hfree.check_false ?_ (Part.drainCheck_none hdrain) (hnormal hlevel))⟩
      · have hlisted := hfree.takeListed hreqs l .index none
        rw [← hdrain] at hlisted
        rw [hfree.startOnce_unlisted hreqs, hsource, if_neg (mt (hrefresh l).mp hcalmband)]
        exact congrArg (fun t : Machine.Part => (t, true)) (hdrain ▸ hlisted)
      · rw [hfree.startOnce_unlisted hreqs, hsource, if_pos ((hrefresh l).mpr hrefreshing), Part.tailSource_normal hlevel]
        exact Part.drainSource_none hdrain 0
    case tail =>
      have hover : ∀ x ∈ passed, p.PassedOver x := fun x hx => by
        obtain ⟨hst, hlive, hkind⟩ := hpassed x hx
        refine ⟨hst, hlive, hkind.imp_right (Or.imp_right ?_)⟩
        rintro ⟨m, hm, hband⟩
        exact ⟨m, hm, hband.imp_right (hrefresh m).mpr⟩
      have hwalk : r.st ≠ .reclaimed → ∃ rs, p.tailSource 0 = p.tailWalk 0 passed.isEmpty (r :: rs) :=
        Part.tailSource_eq 0 hlevel htable hold hlen hover
      have hnothing : p.tailSource 0 = none → calm → start = .next ⟨p, q⟩ := fun hnone hcalm =>
        hact (hfree.check_false (t := p) (by
          rw [hfree.startOnce_unlisted hreqs, Part.pressureSource_off hpressure, hnone]
          exact Part.drainSource_none hdrain 0) (Part.drainCheck_none hdrain) hcalm)
      refine ⟨fun hne hstop hcalm => ?stops, fun l hst hlive hcommit hdiscard hband => ?record⟩
      case stops =>
        obtain ⟨rs, hrs⟩ := hwalk hne
        refine hnothing (hrs.trans ?_) hcalm
        rw [Part.tailWalk]
        by_cases hs : r.st = .settled
        · rw [if_neg (not_not_intro hs), if_pos (hstop.resolve_left (not_not_intro hs))]
        · rw [if_pos hs]
      case record =>
        obtain ⟨rs, hrs⟩ := hwalk (by rw [hst]; nofun)
        have hrecord := fun hcalmband => hrs.trans (Part.tailWalk_record (i := 0) (first := passed.isEmpty) (rs := rs) hst hlive
          (not_or.mpr ⟨hcommit, hdiscard⟩) hband hcalmband)
        have hquiet : st l = .faulted → ¬ ((p.bands.lband l).st = .merging ∨ p.refreshing l = true) := fun hf h => by
          have hf : (p.bands.lband l).st = .faulted := hf
          obtain hm | hr := h
          · rw [hf] at hm
            cases hm
          · have hs : (p.bands.lband l).st = .suspect := ((hrefresh l).mp hr).1
            rw [hf] at hs
            cases hs
        have hsome : ∀ t, p.tailSource 0 = some t → p.startOnce = (t, true) := fun t ht => by
          rw [hfree.startOnce_unlisted hreqs, Part.pressureSource_off hpressure, ht]
        refine ⟨fun hmerging hfaulted hcalmband => hact (hfree.check_taking (hsome _ ?_) (.inl rfl)),
          fun hfault hsome hcalm => hnothing ?_ hcalm, fun hfault hempty hcarry hunsettled hheld => ?pass⟩
        · have hlisted := hfree.takeListed hreqs l .tail none
          rw [← hdrain] at hlisted
          rw [hrecord (not_or.mpr ⟨hmerging, mt (hrefresh l).mp hcalmband⟩), if_neg hfaulted]
          exact congrArg some (hdrain ▸ hlisted)
        · rw [hrecord (hquiet hfault), if_pos hfault]
          exact if_neg fun h => hsome (List.isEmpty_iff.mp h.1)
        case pass =>
          intro list data n hne
          refine hact ?_
          have hmay : p.mayCarry r l = true := by
            have hst' : (p.bands.lband l).st = .faulted := hfault
            have hholds : p.holds l = false := by simpa [Part.holds] using hheld
            simp [Part.mayCarry, hst', hst, hlive, hunsettled, hholds, hctxs, hcarry]
          have hlist : p.idx.ofRecord p.sys.layout.dataBlocks r = list := by
            simp only [Index.ofRecord, hband, Index.supply, List.filter_filter]
            refine List.filter_congr fun e _ => ?_
            rw [Bool.eq_iff_iff]
            simp only [Extent.meets, Bool.and_eq_true, beq_iff_eq, decide_eq_true_eq]
            exact ⟨fun ⟨hseq, hbelow, habove⟩ => ⟨hbelow, habove, hseq⟩, fun ⟨hbelow, habove, hseq⟩ => ⟨hseq, hbelow, habove⟩⟩
          have hbegin := hfree.beginCarry (l := l) hlist rfl hne
          have honce := hsome _ ((hrecord (hquiet hfault)).trans ((if_pos hfault).trans
            (if_pos ⟨List.isEmpty_iff.mpr hempty, hmay⟩)))
          rw [hbegin] at honce
          exact Part.deadlockCheck_of hmode ((Part.startTest_true hmode honce (hfree.idleContext_after rfl rfl nofun)).trans
            (Part.drainCheck_none hdrain)) (.inr ⟨_, List.mem_cons_self, nofun, nofun⟩)
    case drain =>
      intro failed passes
      have hpass : ∀ m, passes m → p.drainPasses m := fun m h => h
      have hfails : ∀ l, (x.fails (((List.range l).drop x.cursor).filter p.drainFails).length).failed = failed l := fun l => by
        rw [← filter_range_from]
        refine congrArg (x.failed + List.length ·) (List.filter_congr fun m _ => ?_)
        simp only [Part.drainFails, Bool.decide_and]
        rfl
      have hwalked : ∀ l, (∀ m, x.cursor ≤ m → m < l → passes m) → ∀ ls,
          p.drainWalk 0 ((List.range l).drop x.cursor ++ ls) =
            ({ p with mrg.drain := some { x with failed := failed l } } : Machine.Part).drainWalk 0 ls := fun l hm ls => by
        have hall : ∀ m ∈ (List.range l).drop x.cursor, p.drainPasses m := fun m hmem => by
          obtain ⟨j, hj, rfl⟩ := List.mem_iff_getElem.mp hmem
          simp only [List.length_drop, List.length_range] at hj
          simp only [List.getElem_drop, List.getElem_range]
          exact hpass _ (hm _ (by omega) (by omega))
        have hwalk := Part.drainWalk_passed 0 hall ls x
        rw [← hdrain] at hwalk
        rw [show ({ p with mrg.drain := p.mrg.drain } : Machine.Part) = p from rfl] at hwalk
        rw [hwalk, ← hfails l]
        rfl
      have honce : ∀ t b, p.drainWalk 0 ((List.range p.sys.layout.logBands).drop x.cursor) = (t, b) → p.startOnce = (t, b) :=
        fun t b ht => by
          rw [hfree.startOnce_unlisted hreqs, Part.pressureSource_off hpressure, Part.tailSource_normal hlevel]
          dsimp only
          rw [Part.drainSource, hdrain]
          exact ht
      refine ⟨fun l hcursor hl hm hnot => ?_, fun hm num hdir => ?_⟩
      · obtain ⟨ls, hls⟩ := range_drop_split hcursor hl
        have hskip : ¬ (p.extentCount l = 0 ∨ (p.bands.lband l).st = .merging) := fun h => hnot (h.imp_right .inl)
        have hfault : ¬ (p.bands.lband l).st = .faulted := fun h => hnot (.inr (.inr h))
        have hstep : ∀ y, ({ p with mrg.drain := some { x with failed := failed l } } : Machine.Part).drainWalk 0 (l :: ls) = y →
            p.drainWalk 0 ((List.range p.sys.layout.logBands).drop x.cursor) = y := fun y hy => by
          rw [hls, hwalked l hm, hy]
        rw [Part.drainWalk] at hstep
        replace hstep := fun y hy => hstep y ((if_neg hskip).trans ((if_neg hfault).trans hy))
        refine ⟨fun hcalmband => ?_, fun hrefreshing => ?_⟩
        · have hlisted := hfree.takeListed hreqs l .drain (some { x with cursor := l + 1, failed := failed l })
          refine hact (hfree.check_taking (honce _ _ (hstep _ ((if_neg (mt (hrefresh l).mp hcalmband)).trans ?_))) (.inr rfl))
          exact congrArg (fun t : Machine.Part => (t, true)) hlisted
        · refine hact (hfree.check_false (honce _ _ (hstep _ (if_pos ((hrefresh l).mpr hrefreshing)))) ?_ (hnormal hlevel))
          simp only [Part.drainCheck, Option.map_some]
          exact if_neg fun h => Nat.not_le.mpr hl h.1
      · intro n
        have hstep : p.drainWalk 0 ((List.range p.sys.layout.logBands).drop x.cursor) =
            ({ p with mrg.drain := some { x with cursor := p.sys.layout.logBands, failed := n } }, false) := by
          have hend := hwalked p.sys.layout.logBands hm []
          rw [List.append_nil] at hend
          rw [hend, Part.drainWalk]
          rfl
        refine hact (hfree.check_false (honce _ _ hstep) ?_ (hnormal hlevel))
        have hnone : p.mrg.ctxs.all (fun c => c.origin != some .drain) = true := by
          simp [hctxs, horigin]
        have hpending : ({ p with mrg.drain := none } : Machine.Part).pendingIs [drainCode] = true :=
          Part.pendingIs_of (x := { num := num, code := 8 }) hdir (by simp [drainCode])
        simp only [Part.drainCheck, hnone, le_refl, and_self, if_true, hpending]
        rfl

end Sys2Proof
end

section

/-! ## Claim resolution: the bands and the log (R83, R188, R189)

`Part.SetUp s t n` says what setting up the first `n` logical bands of `s` gives, and `Log.assign` is the part of the log that the
assignment of a loser writes. -/

namespace Sys2Proof.Machine

/-! ### Winners and losers -/

theorem resolveClaim_winner_mem {tailSeq nextSeq df : Nat} {note : Option CommitNote} {cs : List Candidate} {w : Candidate}
    (h : (resolveClaim tailSeq nextSeq df note cs).winner = some w) : w ∈ cs := by
  unfold resolveClaim at h
  dsimp only at h
  split at h
  · exact (List.mem_filter.mp (List.mem_of_find?_eq_some h)).1
  · exact (List.mem_filter.mp (List.mem_filter.mp (ruleThree_best h).1).1).1

theorem Part.claim_winner {s : Part} {l : Nat} {w : Candidate} (h : (s.claim l).winner = some w) :
    w ∈ s.mnt.candidates ∧ w.band = l := by
  simpa using resolveClaim_winner_mem h

theorem Part.mem_claim_losers {s : Part} {l : Nat} {y : Candidate} :
    y ∈ (s.claim l).losers ↔ y ∈ s.mnt.candidates ∧ y.band = l ∧ (s.claim l).winner ≠ some y := by
  have hlosers : (s.claim l).losers =
      (s.mnt.candidates.filter (·.band == l)).filter fun c => (s.claim l).winner != some c := rfl
  simp only [hlosers, List.mem_filter, beq_iff_eq, bne_iff_ne, and_assoc]

/-- What has been gathered decides the claims. -/
theorem Part.claim_congr {s t : Part} (hmnt : t.mnt = s.mnt) (hlog : t.log = s.log) (l : Nat) : t.claim l = s.claim l := by
  simp only [Part.claim, hmnt, hlog]

/-! ### A logical band is set up -/

/-- The entry of a band that maps a new winner. -/
def PBand.won (b : PBand) (l : Nat) : PBand := { b with st := .mapped, owner := some l }

/-- The entry of a band whose claim is lost. -/
def PBand.lost (b : PBand) : PBand := { b with st := .resetPending }

/-- The pool after a claim on band `l`. -/
def Claim.pool (c : Claim) (l : Nat) (pool : List PBand) : List PBand :=
  c.losers.foldl (fun ps x => ps.modify x.p PBand.lost) (c.winner.elim pool fun x => pool.modify x.p (PBand.won · l))

theorem foldl_modify_length {f : PBand → PBand} (cs : List Candidate) (pool : List PBand) :
    (cs.foldl (fun ps x => ps.modify x.p f) pool).length = pool.length := by
  induction cs generalizing pool with
  | nil => rfl
  | cons c cs ih => rw [List.foldl_cons, ih, List.length_modify]

theorem Claim.pool_length (c : Claim) (l : Nat) (pool : List PBand) : (c.pool l pool).length = pool.length := by
  rw [Claim.pool, foldl_modify_length]
  cases c.winner with
  | none => rfl
  | some x => exact List.length_modify ..

/-- Setting entries that keep the write pointer keeps it (R189). -/
theorem getD_modify_wp {f : PBand → PBand} (hf : ∀ b, (f b).wp = b.wp) (ps : List PBand) (i n : Nat) :
    ((ps.modify i f).getD n {}).wp = (ps.getD n {}).wp := by
  by_cases hn : n < ps.length
  · rw [List.getD_eq_getElem _ _ (by simpa using hn), List.getD_eq_getElem _ _ hn, List.getElem_modify]
    split
    · exact hf _
    · rfl
  · rw [List.getD_eq_default _ _ (by simpa using hn), List.getD_eq_default _ _ (by simpa using hn)]

theorem Claim.pool_wp (c : Claim) (l : Nat) (pool : List PBand) (n : Nat) :
    ((c.pool l pool).getD n {}).wp = (pool.getD n {}).wp := by
  have hlost : ∀ (cs : List Candidate) (ps : List PBand), ((cs.foldl (fun ps x => ps.modify x.p PBand.lost) ps).getD n {}).wp =
      (ps.getD n {}).wp := fun cs ps => by
    induction cs generalizing ps with
    | nil => rfl
    | cons y cs ih => rw [List.foldl_cons, ih, getD_modify_wp (f := PBand.lost) fun _ => rfl]
  rw [Claim.pool, hlost]
  cases c.winner with
  | none => rfl
  | some x => exact getD_modify_wp (f := (PBand.won · l)) (fun _ => rfl) ..

/-- The losers' bands wait for their resets. -/
theorem getD_foldl_lost {cs : List Candidate} {ps : List PBand} {n : Nat} (hn : n < ps.length) :
    (cs.foldl (fun ps x => ps.modify x.p PBand.lost) ps).getD n {} =
      if ∃ x ∈ cs, x.p = n then (ps.getD n {}).lost else ps.getD n {} := by
  induction cs generalizing ps with
  | nil => simp
  | cons y cs ih =>
    rw [List.foldl_cons, ih (by simpa using hn)]
    have hmod : (ps.modify y.p PBand.lost).getD n {} = if y.p = n then (ps.getD n {}).lost else ps.getD n {} := by
      simp [List.getD_eq_getElem?_getD, hn, List.getElem_modify]
    rw [hmod]
    by_cases hy : y.p = n
    · rw [if_pos hy, if_pos (c := ∃ x ∈ y :: cs, x.p = n) ⟨y, List.mem_cons_self, hy⟩]
      split <;> rfl
    · rw [if_neg hy]
      refine if_congr ?_ rfl rfl
      simp [hy]

/-- What setting up one logical band writes (R188, R189). -/
theorem Part.setUpBand_eq (s : Part) (l : Nat) : s.setUpBand l = { s with
    bands := { s.bands with
      lbt := s.bands.lbt.modify l fun _ => (s.claim l).entry s.sys.layout.dataBlocks
        ((s.claim l).winner.elim 0 fun x => (s.bands.pband x.p).wp)
      pool := (s.claim l).pool l s.bands.pool }
    win := if (s.claim l).faulted then s.win.raise .bandFaulted (some .drive) (some l) none none none else s.win } := by
  have hfold : ∀ (cs : List Candidate) (t : Part), cs.foldl (fun t x => t.onP x.p PBand.lost) t =
      { t with bands.pool := cs.foldl (fun ps x => ps.modify x.p PBand.lost) t.bands.pool } := fun cs => by
    induction cs with
    | nil => exact fun _ => rfl
    | cons y cs ih =>
      intro t
      rw [List.foldl_cons, ih]
      rfl
  have hlost : (fun (s : Part) (x : Candidate) => s.onP x.p fun q => { q with st := .resetPending }) =
      fun t x => t.onP x.p PBand.lost := rfl
  unfold Part.setUpBand Claim.pool
  generalize s.claim l = c
  obtain ⟨winner, faulted, floor, losers⟩ := c
  cases winner <;> dsimp only <;> rw [hlost, hfold] <;> cases faulted <;> rfl

/-! ### The logical bands are set up -/

/-- The entry of logical band `l` by its claim. -/
def Part.judged (s : Part) (l : Nat) : LBand :=
  (s.claim l).entry s.sys.layout.dataBlocks ((s.claim l).winner.elim 0 fun x => (s.bands.pband x.p).wp)

/-- The entry of a candidate's band by the claim on its logical band. -/
def Part.judgedBand (s : Part) (y : Candidate) : PBand :=
  if (s.claim y.band).winner = some y then (s.bands.pband y.p).won y.band else (s.bands.pband y.p).lost

/-- BAND_FAULTED for each FAULTED band of a list (R189). -/
def Part.faultsTold (s : Part) (ls : List Nat) : Window :=
  (ls.filter fun l => (s.claim l).faulted).foldl (fun w l => w.raise .bandFaulted (some .drive) (some l) none none none) s.win

/-- The candidates lie on physical bands of their own. -/
def Part.Apart (s : Part) : Prop :=
  (s.mnt.candidates.map (·.p)).Nodup ∧ ∀ c ∈ s.mnt.candidates, c.p < s.bands.pool.length

theorem Part.Apart.eq {s : Part} (h : s.Apart) {x y : Candidate} (hx : x ∈ s.mnt.candidates) (hy : y ∈ s.mnt.candidates)
    (hp : x.p = y.p) : x = y := List.inj_on_of_nodup_map h.1 hx hy hp

/-- The part `t` is `s` with its first `n` logical bands set up. -/
structure Part.SetUp (s t : Part) (n : Nat) : Prop where
  rest : t = { s with bands := { s.bands with lbt := t.bands.lbt, pool := t.bands.pool }, win := t.win }
  lbt : t.bands.lbt.length = s.bands.lbt.length
  pool : t.bands.pool.length = s.bands.pool.length
  entry : ∀ l, l < s.bands.lbt.length → t.bands.lband l = if l < n then s.judged l else s.bands.lband l
  wp : ∀ i, (t.bands.pband i).wp = (s.bands.pband i).wp
  win : t.win = s.faultsTold (List.range n)
  band : s.Apart → ∀ y ∈ s.mnt.candidates, t.bands.pband y.p = if y.band < n then s.judgedBand y else s.bands.pband y.p

/-- A claim touches the bands of its own candidates alone, each once. -/
theorem Part.claim_pool {s : Part} (h : s.Apart) {y : Candidate} (hy : y ∈ s.mnt.candidates) (l : Nat) {pool : List PBand}
    (hpool : pool.length = s.bands.pool.length) : ((s.claim l).pool l pool).getD y.p {} =
      if y.band = l then
        if (s.claim l).winner = some y then (pool.getD y.p {}).won l else (pool.getD y.p {}).lost
      else pool.getD y.p {} := by
  have hyp : y.p < pool.length := by
    rw [hpool]
    exact h.2 y hy
  have hlost : (∃ x ∈ (s.claim l).losers, x.p = y.p) ↔ y.band = l ∧ (s.claim l).winner ≠ some y := by
    constructor
    · rintro ⟨x, hx, hxp⟩
      obtain ⟨hxc, hxl, hxw⟩ := Part.mem_claim_losers.mp hx
      obtain rfl := h.eq hxc hy hxp
      exact ⟨hxl, hxw⟩
    · exact fun hl => ⟨y, Part.mem_claim_losers.mpr ⟨hy, hl⟩, rfl⟩
  have hwon : ((s.claim l).winner.elim pool fun x => pool.modify x.p (PBand.won · l)).getD y.p {} =
      if (s.claim l).winner = some y then (pool.getD y.p {}).won l else pool.getD y.p {} := by
    cases hw : (s.claim l).winner with
    | none => exact (if_neg nofun).symm
    | some x =>
      have hxy : x.p = y.p ↔ some x = some y :=
        ⟨fun hp => congrArg some (h.eq (Part.claim_winner hw).1 hy hp), fun he => congrArg Candidate.p (Option.some.inj he)⟩
      simp only [Option.elim_some, List.getD_eq_getElem?_getD, List.getElem?_modify, List.getElem?_eq_getElem hyp, hxy,
        Option.getD_some]
      split <;> rfl
  have hlen : y.p < ((s.claim l).winner.elim pool fun x => pool.modify x.p (PBand.won · l)).length := by
    cases (s.claim l).winner with
    | none => exact hyp
    | some x => simpa using hyp
  rw [Claim.pool, getD_foldl_lost hlen, hwon]
  by_cases hl : y.band = l
  · rw [if_pos hl]
    by_cases hw : (s.claim l).winner = some y
    · rw [if_pos hw, if_pos hw, if_neg fun h => (hlost.mp h).2 hw]
    · rw [if_neg hw, if_neg hw, if_pos (hlost.mpr ⟨hl, hw⟩)]
  · rw [if_neg hl, if_neg fun h => hl (hlost.mp h).1, if_neg fun hw => hl (Part.claim_winner hw).2]

/-- The first `n` logical bands are set up one after another. -/
theorem Part.setUp_range (s : Part) {n : Nat} (hn : n ≤ s.bands.lbt.length) :
    s.SetUp ((List.range n).foldl Part.setUpBand s) n := by
  induction n with
  | zero =>
    exact { rest := rfl, lbt := rfl, pool := rfl, entry := fun _ _ => rfl, wp := fun _ => rfl, win := rfl, band := fun _ _ _ => rfl }
  | succ n ih =>
    have h := ih (by omega)
    obtain ⟨t, ht⟩ : ∃ t, (List.range n).foldl Part.setUpBand s = t := ⟨_, rfl⟩
    rw [ht] at h
    have hclaim : t.claim n = s.claim n := Part.claim_congr (by rw [h.rest]) (by rw [h.rest]) n
    have hsys : t.sys = s.sys := by rw [h.rest]
    have hentry : (t.claim n).entry t.sys.layout.dataBlocks ((t.claim n).winner.elim 0 fun x => (t.bands.pband x.p).wp) =
        s.judged n := by
      simp only [Part.judged, hclaim, hsys, h.wp]
    rw [List.range_succ, List.foldl_append, ht, List.foldl_cons, List.foldl_nil, Part.setUpBand_eq, hentry, hclaim]
    refine { rest := ?rest, lbt := ?lbt, pool := ?pool, entry := fun l hl => ?entry, wp := fun i => ?wp, win := ?win,
             band := fun hap y hy => ?band }
    case rest =>
      rw [h.rest]
    case lbt => exact (List.length_modify ..).trans h.lbt
    case pool => exact (Claim.pool_length ..).trans h.pool
    case entry =>
      by_cases hln : l = n
      · have hself : ∀ k : Bands, k.lbt = t.bands.lbt.modify n (fun _ => s.judged n) → k.lband n = s.judged n :=
          fun k hk => Bands.lband_modify (b := t.bands) hk (by rw [h.lbt]; omega)
        rw [hln, if_pos (Nat.lt_succ_self n)]
        exact hself _ rfl
      · have hsame : ∀ k : Bands, k.lbt = t.bands.lbt.modify n (fun _ => s.judged n) → k.lband l = t.bands.lband l :=
          fun k hk => by simp [Bands.lband, hk, List.getD_eq_getElem?_getD, Ne.symm hln]
        refine (hsame _ rfl).trans ((h.entry l hl).trans (if_congr ?_ rfl rfl))
        omega
    case wp => exact (Claim.pool_wp ..).trans (h.wp i)
    case win =>
      unfold Part.faultsTold
      rw [List.range_succ, List.filter_append, List.foldl_append, h.win]
      by_cases hf : (s.claim n).faulted = true
      · rw [List.filter_cons_of_pos (p := fun l => (s.claim l).faulted) hf]
        exact if_pos hf
      · rw [List.filter_cons_of_neg (p := fun l => (s.claim l).faulted) hf]
        exact if_neg hf
    case band =>
      have hold := h.band hap y hy
      refine (Part.claim_pool hap hy n h.pool).trans ?_
      rw [show t.bands.pool.getD y.p {} = t.bands.pband y.p from rfl, hold]
      unfold Part.judgedBand
      by_cases hyn : y.band = n
      · rw [if_pos hyn, if_neg (show ¬ y.band < n by omega), if_pos (show y.band < n + 1 by omega), hyn]
      · rw [if_neg hyn]
        exact if_congr (by omega) rfl rfl

/-! ### The losers are assigned (R58, R189) -/

/-- What the assignment of a loser writes of the log. -/
def Log.assign (g : Log) (c : Candidate) : Log :=
  (g.awaiter c).elim (if c.mark then { g with holds := g.holds ++ [(c.p, c.base)] } else g) fun r =>
    { g with table := g.table.map fun x => if x.seq = r.seq then { x with awaited := x.awaited ++ [c.p] } else x }

theorem Part.assignLoser_eq (s : Part) (c : Candidate) : s.assignLoser c = { s with log := s.log.assign c } := by
  unfold Part.assignLoser Log.assign
  cases s.log.awaiter c with
  | none => exact (apply_ite (fun g => ({ s with log := g } : Part)) _ _ _).symm
  | some r => rfl

theorem Part.assignLosers_eq (s : Part) (cs : List Candidate) :
    cs.foldl Part.assignLoser s = { s with log := cs.foldl Log.assign s.log } := by
  induction cs generalizing s with
  | nil => rfl
  | cons c cs ih => rw [List.foldl_cons, ih, Part.assignLoser_eq, List.foldl_cons]

/-- The log `k` is `g` but for the awaited bands of its records and the target holds. -/
def Log.Awaits (g k : Log) : Prop :=
  ∃ f : Rec → List Nat, k = { g with table := g.table.map fun r => { r with awaited := f r }, holds := k.holds }

theorem Log.Awaits.refl (g : Log) : g.Awaits g := ⟨Rec.awaited, by simp⟩

theorem Log.awaits_assign (g : Log) (c : Candidate) : g.Awaits (g.assign c) := by
  unfold Log.assign
  cases g.awaiter c with
  | none =>
    refine ⟨Rec.awaited, ?_⟩
    simp only [Option.elim_none, List.map_id']
    split <;> rfl
  | some r =>
    refine ⟨fun x => if x.seq = r.seq then x.awaited ++ [c.p] else x.awaited, ?_⟩
    refine congrArg (fun t : List Rec => ({ g with table := t } : Log)) (List.map_congr_left fun x _ => ?_)
    by_cases hx : x.seq = r.seq <;> simp only [hx, if_true, if_false]

theorem Log.awaits_assigns (g : Log) (cs : List Candidate) : g.Awaits (cs.foldl Log.assign g) := by
  induction cs generalizing g with
  | nil => exact .refl g
  | cons c cs ih =>
    obtain ⟨f, hf⟩ := g.awaits_assign c
    obtain ⟨f', hf'⟩ := ih (g.assign c)
    refine ⟨fun r => f' { r with awaited := f r }, ?_⟩
    rw [List.foldl_cons, hf', hf]
    simp only [List.map_map]
    rfl

/-! ### Claim resolution -/

/-- The extents at or below the floors of their bands (R83). -/
def Part.stale (s : Part) (d : Nat) (e : Extent) : Bool := decide (e.seq ≤ (s.bands.lband (e.start / d)).floor)

/-- The losers of every claim. -/
def Part.allLosers (s : Part) : List Candidate := (List.range s.bands.lbt.length).flatMap fun l => (s.claim l).losers

/-- The log after the extents below the floors of `t` have left the index. -/
def Part.pruned (s t : Part) : Log := { s.log with
  table := s.log.table.map fun r => r.lose (lengthsOf s.idx.extents (t.stale s.sys.layout.dataBlocks) r.seq) }

/-- What claim resolution writes. -/
theorem Part.resolveClaims_eq (s : Part) : ∃ (t : Part) (g : Log), s.SetUp t s.bands.lbt.length ∧
    g = (((List.range s.bands.pool.length).filterMap fun n => s.allLosers.find? (·.p == n)).foldl Log.assign (s.pruned t)) ∧
    s.resolveClaims = { t with
      idx.extents := s.idx.extents.filter fun e => !t.stale s.sys.layout.dataBlocks e
      log := { g with table := g.table.map Rec.awaitedLive, reclaim := s.log.tail, occ := s.mnt.blocks }
      bands.resetPend := (List.range s.bands.pool.length).filter fun n => (t.bands.pband n).st == .resetPending } := by
  obtain ⟨t, ht⟩ : ∃ t, (List.range s.bands.lbt.length).foldl Part.setUpBand s = t := ⟨_, rfl⟩
  have h : s.SetUp t s.bands.lbt.length := ht ▸ s.setUp_range (Nat.le_refl _)
  obtain ⟨v, hv⟩ : ∃ v : Part, v = { t with
      idx.extents := s.idx.extents.filter fun e => !t.stale s.sys.layout.dataBlocks e
      log := s.pruned t } := ⟨_, rfl⟩
  have hremoved : t.removeExtents (t.stale s.sys.layout.dataBlocks) = v := by
    rw [hv, Part.removeExtents_eq, Part.pruned, show t.idx = s.idx by rw [h.rest], show t.log = s.log by rw [h.rest]]
  have hlosers : v.losers ((List.range s.bands.lbt.length).map s.claim) =
      (List.range s.bands.pool.length).filterMap fun n => s.allLosers.find? (·.p == n) := by
    unfold Part.losers Part.allLosers
    rw [show v.bands = t.bands by rw [hv], h.pool, List.flatMap_map]
  obtain ⟨f, hf⟩ := (s.pruned t).awaits_assigns
    ((List.range s.bands.pool.length).filterMap fun n => s.allLosers.find? (·.p == n))
  refine ⟨t, _, h, rfl, ?_⟩
  have hresolve : s.resolveClaims =
      (let u := (((t.removeExtents (t.stale s.sys.layout.dataBlocks)).losers ((List.range s.bands.lbt.length).map s.claim)).foldl
        Part.assignLoser (t.removeExtents (t.stale s.sys.layout.dataBlocks)))
      { u with
        log.table := u.log.table.map Rec.awaitedLive, log.reclaim := u.log.tail, log.occ := u.mnt.blocks
        bands.resetPend := (List.range u.bands.pool.length).filter fun n => (u.bands.pband n).st == .resetPending }) := by
    rw [← ht]
    rfl
  rw [hresolve, hremoved, hlosers, Part.assignLosers_eq, hv]
  dsimp only
  rw [show t.mnt = s.mnt by rw [h.rest], h.pool, hf]
  rfl

end Sys2Proof.Machine

end

section

/-! ## The end of mount (R15, R77, R179, R190) -/

namespace Sys2Proof.Machine

/-! ### The bands at their extent limit -/

/-- Every entry of the request list is urgent. -/
def Part.AllUrgent (s : Part) : Prop := ∀ e ∈ s.mrg.reqs, e.urgent = true

theorem joinUrgent_urgent {rs : List MergeReq} (h : ∀ e ∈ rs, e.urgent = true) {x : MergeReq} (hx : x.urgent = true) :
    ∀ e ∈ joinUrgent rs x, e.urgent = true := fun e he => by
  obtain hbefore | rfl | hbehind := by simpa [joinUrgent] using he
  · exact h e (List.takeWhile_subset _ hbefore)
  · exact hx
  · exact h e (List.dropWhile_subset _ hbehind)

/-- An urgent offer displaces no urgent entry, so no CLEAN is answered (R87). -/
theorem Part.AllUrgent.offerUrgent {s : Part} (h : s.AllUrgent) (l : Nat) :
    (s.offerUrgent l).AllUrgent ∧ (s.offerUrgent l).win = s.win := by
  unfold Part.offerUrgent
  split
  case h_1 e he =>
    rw [if_pos (h e (List.mem_of_find?_eq_some he))]
    exact ⟨h, rfl⟩
  case h_2 =>
    dsimp only
    split
    · exact ⟨joinUrgent_urgent h rfl, rfl⟩
    · split
      case h_1 x hx =>
        rw [if_pos (h x (List.mem_of_getLast? hx))]
        exact ⟨h, rfl⟩
      case h_2 => exact ⟨h, rfl⟩

theorem Part.AllUrgent.offerLimits {s : Part} (h : s.AllUrgent) : s.offerLimits.win = s.win := by
  unfold Part.offerLimits
  split
  · refine (List.foldlRecOn (motive := fun t : Part => t.AllUrgent ∧ t.win = s.win) _ _ ⟨h, rfl⟩ ?_).2
    rintro t ⟨hurgent, hwin⟩ l _
    split
    · exact ⟨hurgent, hwin⟩
    · unfold Part.offerLimit
      split
      · exact ⟨(hurgent.offerUrgent l).1, (hurgent.offerUrgent l).2.trans hwin⟩
      · exact ⟨hurgent, hwin⟩
  · rfl

theorem Part.asks_offerLimits (s : Part) : s.Asks s.offerLimits := by
  unfold Part.offerLimits
  split
  · refine List.foldlRecOn (motive := fun t : Part => s.Asks t) _ _ (.refl s) fun t ht l _ => ht.trans ?_
    split
    · exact .refl t
    · exact t.asks_offerLimit l
  · exact .refl s

/-! ### What the end of mount writes -/

/-- The mode that a mount ends in. -/
def Mount.mode (m : Mount) : Mode := if m.degraded then .degraded else .active

/-- The level at an occupancy, from NORMAL (R15, R190). -/
def Part.mountLevel (s : Part) (occ : Nat) : Level :=
  if s.sys.layout.logLen * s.cfg.policy.hardQ / 256 ≤ occ then .full
  else if s.sys.layout.logLen * s.cfg.policy.highQ / 256 ≤ occ then .pressure
  else if s.sys.layout.logLen * s.cfg.policy.lowQ / 256 ≤ occ then .reclaim
  else .normal

/-- The window as the end of mount leaves it, but for the answer of a RESTART (R172, R190). -/
def Part.mountTold (s : Part) (w : Window) (mode mapped records occ : Nat) (full : Bool) : Window :=
  let w := (w.raise .modeChange (some .mode) none none none (some mode)).raise .mountDone (some .mode) none none
    (some mapped) (some records)
  let w := if s.mountLevel occ = .pressure ∨ s.mountLevel occ = .full then
      w.raise .levelChange (some .log) none none (some occ) (some (if s.mountLevel occ = .full then 3 else 2))
    else w
  if s.idx.pressure = false ∧ full = true then { w with pending := w.pending ||| 0x20#8 } else w

/-- The part as mount leaves it, before bands at their extent limit are offered. -/
def Part.mountEnded (s : Part) : Part := { s with
  sys := { s.sys with mode := s.mnt.mode, halt := .none }
  mnt := {}
  pace := { level := s.mountLevel s.log.occ, credit := if s.mountLevel s.log.occ = .pressure then s.cfg.policy.burst else 0, rem := 0 }
  idx.pressure := decide (61440 ≤ s.idx.extents.length + s.idx.reserved)
  win := s.mountTold s.win (if s.mnt.degraded then 3 else 2) s.bands.mappedCount s.mnt.records s.log.occ
    (decide (61440 ≤ s.idx.extents.length + s.idx.reserved)) }

/-- The level is evaluated from NORMAL. -/
theorem Part.nextLevel_mount {s : Part} (h : s.pace = {}) : s.nextLevel = s.mountLevel s.log.occ := by
  rw [Part.nextLevel, nextLevel_eq, h]
  simp only [reduceCtorEq, false_or, false_and, or_false]
  rfl

theorem Part.endMount_eq (s : Part) : s.endMount = s.mountEnded.offerLimits.finishRestart := by
  obtain ⟨t, ht⟩ : ∃ t : Part, t = { s with
      sys := { s.sys with mode := s.mnt.mode, halt := .none }, mnt := {}, pace := {}
      win := (s.win.raise .modeChange (some .mode) none none none (some (if s.mnt.degraded then 3 else 2))).raise .mountDone
        (some .mode) none none (some s.bands.mappedCount) (some s.mnt.records) } := ⟨_, rfl⟩
  have hentered : (({ s.enter (if s.mnt.degraded then .degraded else .active) .none with mnt := {}, pace := {} } : Part).raise
      .mountDone (some .mode) none none (some s.bands.mappedCount) (some s.mnt.records)) = t := by
    rw [ht, Mount.mode]
    cases s.mnt.degraded <;> rfl
  have hlog : t.holdsLog = true := by
    rw [ht]
    unfold Part.holdsLog Part.mounted Mount.mode
    cases s.mnt.degraded <;> rfl
  have hlevel : t.nextLevel = s.mountLevel s.log.occ := by
    rw [Part.nextLevel_mount (by rw [ht]), ht]
    rfl
  have hpace : t.pace.move t.cfg.policy.burst t.nextLevel =
      { level := s.mountLevel s.log.occ, credit := if s.mountLevel s.log.occ = .pressure then s.cfg.policy.burst else 0, rem := 0 } := by
    rw [hlevel, show t.pace = {} by rw [ht], show t.cfg = s.cfg by rw [ht]]
    unfold Pace.move
    cases s.mountLevel s.log.occ <;> rfl
  have heval : t.evalLevel = { t with
      pace := { level := s.mountLevel s.log.occ, credit := if s.mountLevel s.log.occ = .pressure then s.cfg.policy.burst else 0, rem := 0 }
      win := if s.mountLevel s.log.occ = .pressure ∨ s.mountLevel s.log.occ = .full then
          t.win.raise .levelChange (some .log) none none (some s.log.occ) (some (if s.mountLevel s.log.occ = .full then 3 else 2))
        else t.win } := by
    rw [Part.evalLevel, if_pos hlog, hpace, hlevel, show t.pace = {} by rw [ht], show t.log = s.log by rw [ht]]
    cases s.mountLevel s.log.occ <;> rfl
  have hchain : s.endMount = (t.evalLevel.evalPressure).offerLimits.finishRestart := by
    rw [← hentered]
    rfl
  have hpressure : t.evalLevel.evalPressure = s.mountEnded := by
    rw [heval, Part.evalPressure_eq, ht]
    unfold Part.mountEnded Part.mountTold
    have hfull : (61440 ≤ s.idx.extents.length + s.idx.reserved ∧ s.idx.pressure = false) =
        (s.idx.pressure = false ∧ decide (61440 ≤ s.idx.extents.length + s.idx.reserved) = true) := by
      rw [and_comm, decide_eq_true_iff]
    simp only [hfull]
    rfl
  rw [hchain, hpressure]

end Sys2Proof.Machine

end

section

/-! ## CLAIM_RESOLUTION (R188 to R190) -/

namespace Sys2Proof.Machine

/-- A RESTART that started the mount is answered (R179, R190). -/
theorem Part.finishRestart_eq (s : Part) : s.finishRestart = { s with
    win := if s.pendingIs [restartCode] then
        s.win.finish (if s.sys.mode = .active then .done else .failed) [BitVec.ofNat 8 (modeNum s.sys.mode)] else s.win } := by
  unfold Part.finishRestart
  split <;> rfl

/-- The window of a part whose mount has ended with nothing left to displace. -/
def Part.mountAnswered (s : Part) : Window :=
  if s.mountEnded.pendingIs [restartCode] then
    s.mountEnded.win.finish (if s.mnt.mode = .active then .done else .failed) [BitVec.ofNat 8 (modeNum s.mnt.mode)]
  else s.mountEnded.win

/-- The end of mount, but for the request list and what that answers. -/
theorem Part.endMount_ends (s : Part) : ∃ rs again w, s.endMount = { s.mountEnded with
      mrg := { s.mrg with reqs := rs, rescan := again }, win := w } ∧ (s.mrg.reqs = [] → w = s.mountAnswered) := by
  obtain ⟨rs, again, w, hasked⟩ := s.mountEnded.asks_offerLimits
  refine ⟨rs, again, s.mountEnded.offerLimits.finishRestart.win, ?_, fun hreqs => ?_⟩
  · rw [Part.endMount_eq, Part.finishRestart_eq, hasked]
    rfl
  · have hurgent : s.mountEnded.AllUrgent := fun e he => by
      rw [show s.mountEnded.mrg.reqs = [] from hreqs] at he
      cases he
    have hw : w = s.mountEnded.win := by
      have := hurgent.offerLimits
      rwa [hasked] at this
    rw [Part.finishRestart_eq, hasked, hw]
    rfl

/-- A mount is answered where a RESTART started it. -/
theorem Part.mountAnswered_eq {s : Part} {w : Window} (hw : s.mountEnded.win = w) :
    ((∀ d, s.win.dirPending = some d → d.code ≠ 13) → s.mountAnswered = w) ∧
      ∀ num, s.win.dirPending = some { num := num, code := 13 } → s.mountAnswered =
        w.finish (if s.mnt.degraded then .failed else .done) [BitVec.ofNat 8 (if s.mnt.degraded then 3 else 2)] := by
  have hdir : s.mountEnded.win.dirPending = s.win.dirPending := by
    simp only [Part.mountEnded, Part.mountTold]
    split <;> split <;> simp only [Window.raise_dirPending]
  refine ⟨fun hno => ?_, fun num hnum => ?_⟩
  · have hpending : ¬ s.mountEnded.pendingIs [restartCode] = true := by
      unfold Part.pendingIs
      rw [hdir]
      cases hd : s.win.dirPending with
      | none => exact Bool.false_ne_true
      | some d => simpa [restartCode] using hno d hd
    rw [Part.mountAnswered, if_neg hpending, hw]
  · have hpending : s.mountEnded.pendingIs [restartCode] = true :=
      Part.pendingIs_of (hdir.trans hnum) (by simp [restartCode])
    rw [Part.mountAnswered, if_pos hpending, hw, Mount.mode]
    cases s.mnt.degraded <;> rfl

/-- The mapped bands are those whose claim is won. -/
theorem Part.SetUp.mappedCount {s t : Part} (h : s.SetUp t s.bands.lbt.length) :
    t.bands.mappedCount = (List.range s.bands.lbt.length).countP fun l => (s.claim l).winner.isSome := by
  have hlbt : t.bands.lbt = (List.range s.bands.lbt.length).map s.judged := by
    refine List.ext_getElem (by simp [h.lbt]) fun l hl _ => ?_
    have hl' : l < s.bands.lbt.length := h.lbt ▸ hl
    have hentry := h.entry l hl'
    rw [if_pos hl', Bands.lband, List.getD_eq_getElem _ _ hl] at hentry
    simpa using hentry
  have hphys : ∀ l, (s.judged l).phys.isSome = (s.claim l).winner.isSome := fun l => by
    unfold Part.judged Claim.entry
    cases (s.claim l).winner <;> rfl
  rw [Bands.mappedCount, ← List.countP_eq_length_filter, hlbt, List.countP_map]
  exact congrArg (List.countP · _) (funext hphys)

/-- A list of one loser, in ascending order of its band (R189). -/
theorem losers_one {y : Candidate} {n : Nat} :
    (List.range n).filterMap (fun k => [y].find? (·.p == k)) = if y.p < n then [y] else [] := by
  induction n with
  | zero => rfl
  | succ n ih =>
    rw [List.range_succ, List.filterMap_append, ih]
    by_cases hy : y.p = n
    · simp [hy]
    · have hlt : y.p < n + 1 ↔ y.p < n := by omega
      simp [hy, hlt]

/-! ### The log of a mount that has ended -/

/-- A record as the removal of stale extents leaves it. -/
theorem Part.pruned_table (s t : Part) : ∃ f : Rec → Rec, (∀ r, ∃ n, f r = r.lose n) ∧ (s.pruned t).table = s.log.table.map f :=
  ⟨fun r => r.lose (lengthsOf s.idx.extents (t.stale s.sys.layout.dataBlocks) r.seq), fun _ => ⟨_, rfl⟩, rfl⟩

/-- The COMMIT that names a loser as old band. -/
def Rec.names (r : Rec) (y : Candidate) : Bool := decide (r.kind = .commit ∧ r.band = some y.band ∧ r.oldBand = some y.p)

/-- A full DISCARD of a loser's logical band above its base. -/
def Rec.above (r : Rec) (y : Candidate) : Bool :=
  decide (r.kind = .discard ∧ r.full = true ∧ r.band = some y.band ∧ y.base < r.seq)

/-- The record that awaits a loser, by what the removal of stale extents leaves unchanged. -/
theorem Log.awaiter_map {g k : Log} {f : Rec → Rec} (hf : ∀ r, ∃ n, f r = r.lose n) (h : k.table = g.table.map f) (y : Candidate) :
    k.awaiter y = (g.table.filter (·.names y)).getLast?.elim
      ((g.table.find? (·.above y)).bind fun r => if r.awaited.length < 2 then some (f r) else none) fun r => some (f r) := by
  have hnames : ∀ r : Rec, (f r).kind = r.kind ∧ (f r).band = r.band ∧ (f r).oldBand = r.oldBand ∧ (f r).full = r.full ∧
      (f r).seq = r.seq ∧ (f r).awaited = r.awaited := fun r => by
    obtain ⟨n, hn⟩ := hf r
    rw [hn]
    exact ⟨rfl, rfl, rfl, rfl, rfl, rfl⟩
  have hcommit : k.commitAwaiting y = (g.table.filter (·.names y)).getLast?.map f := by
    unfold Log.commitAwaiting
    rw [h, List.filter_map, List.getLast?_map]
    refine congrArg (fun l : List Rec => l.getLast?.map f) (List.filter_congr fun r _ => ?_)
    obtain ⟨hkind, hband, hold, _⟩ := hnames r
    rw [Bool.eq_iff_iff]
    simp only [Function.comp_apply, hkind, hband, hold, Rec.names, Bool.and_eq_true, beq_iff_eq, decide_eq_true_eq, and_assoc]
  have hdiscard : k.discardAwaiting y = (g.table.find? (·.above y)).map f := by
    unfold Log.discardAwaiting
    rw [h, List.find?_map]
    refine congrArg (fun p : Rec → Bool => (g.table.find? p).map f) (funext fun r => ?_)
    obtain ⟨hkind, hband, _, hfull, hseq, _⟩ := hnames r
    rw [Bool.eq_iff_iff]
    simp only [Function.comp_apply, hkind, hband, hfull, hseq, Rec.above, Bool.and_eq_true, beq_iff_eq, decide_eq_true_eq, and_assoc]
  unfold Log.awaiter
  rw [hcommit, hdiscard]
  cases (g.table.filter (·.names y)).getLast? with
  | some r => rfl
  | none =>
    cases g.table.find? (·.above y) with
    | none => rfl
    | some r =>
      have hlen := (hnames r).2.2.2.2.2
      simp only [Option.map_none, Option.map_some, Option.filter, Option.bind_some, hlen, decide_eq_true_eq, Option.elim_none]

/-- A record that has lost `n` live blocks and awaits the bands `a`, as a mount leaves it. -/
def Rec.remounted (r : Rec) (n : Nat) (a : List Nat) : Rec := Rec.awaitedLive { r.lose n with awaited := a }

/-- Only COMMIT and full DISCARD records are live by the bands they await (R58, R189). -/
theorem Rec.remounted_eq (r : Rec) (n : Nat) (a : List Nat) :
    (r.remounted n a).seq = r.seq ∧ (r.remounted n a).awaited = a ∧
      ((r.remounted n a).kind = .commit ∨ (r.remounted n a).kind = .discard ∧ (r.remounted n a).full = true ↔
        r.kind = .commit ∨ r.kind = .discard ∧ r.full = true) ∧
      (r.remounted n a).live = if r.kind = .commit ∨ r.kind = .discard ∧ r.full = true then a.length else r.live - n := by
  unfold Rec.remounted Rec.awaitedLive
  by_cases h : r.kind = .commit ∨ r.kind = .discard ∧ r.full = true
  · rw [if_pos (by exact h), if_pos h]
    exact ⟨rfl, rfl, Iff.rfl, rfl⟩
  · rw [if_neg (by exact h), if_neg h]
    exact ⟨rfl, rfl, Iff.rfl, rfl⟩

/-- The log of a mount that has ended, after its losers are assigned (R189). -/
def Log.mounted (g : Log) (tail blocks : Nat) : Log := { g with table := g.table.map Rec.awaitedLive, reclaim := tail, occ := blocks }

theorem Rec.awaitedLive_same (r : Rec) : r.awaitedLive.seq = r.seq ∧ r.awaitedLive.awaited = r.awaited ∧
    r.awaitedLive.kind = r.kind ∧ r.awaitedLive.full = r.full := by
  unfold Rec.awaitedLive
  split <;> exact ⟨rfl, rfl, rfl, rfl⟩

/-- The record that awaits the loser has its band as the last awaited one. -/
theorem Log.mounted_awaits {g k : Log} {f : Rec → Rec} (hf : ∀ r, ∃ n, f r = r.lose n) (h : k.table = g.table.map f) {y : Candidate}
    {r : Rec} (hawait : k.awaiter y = some (f r)) (hfind : g.find r.seq = some r) (tail blocks : Nat) :
    ∃ x, ((k.assign y).mounted tail blocks).find r.seq = some x ∧ x.awaited = r.awaited ++ [y.p] ∧
      ((k.assign y).mounted tail blocks).holds = k.holds := by
  obtain ⟨n, hn⟩ := hf r
  have hfseq : ∀ r, (f r).seq = r.seq := fun r => by
    obtain ⟨n, hn⟩ := hf r
    rw [hn]
    rfl
  have hassign : k.assign y = { k with table := k.table.map fun x =>
      if x.seq = r.seq then { x with awaited := x.awaited ++ [y.p] } else x } := by
    rw [Log.assign, hawait, Option.elim_some, hfseq]
  have hkfind : k.find r.seq = some (f r) := by rw [Log.find_map h hfseq, hfind, Option.map_some]
  have hafind : (k.assign y).find r.seq = some { f r with awaited := (f r).awaited ++ [y.p] } := by
    rw [Log.find_map (by rw [hassign]) (fun x => by split <;> rfl), hkfind, Option.map_some, if_pos (hfseq r)]
  refine ⟨_, (Log.find_map rfl (fun x => x.awaitedLive_same.1) _).trans (congrArg (Option.map Rec.awaitedLive) hafind), ?_, ?_⟩
  · rw [(Rec.awaitedLive_same _).2.1, hn]
    rfl
  · rw [Log.mounted, hassign]

/-- Where no record awaits the loser, a marked one takes a target hold (R58). -/
theorem Log.mounted_holds {g k : Log} {f : Rec → Rec} (hf : ∀ r, ∃ n, f r = r.lose n) (h : k.table = g.table.map f) {y : Candidate}
    (hawait : k.awaiter y = none) (tail blocks : Nat) :
    ((k.assign y).mounted tail blocks).table.map (·.awaited) = g.table.map (·.awaited) ∧
      ((k.assign y).mounted tail blocks).holds = k.holds ++ if y.mark then [(y.p, y.base)] else [] := by
  have hassign : k.assign y = if y.mark then { k with holds := k.holds ++ [(y.p, y.base)] } else k := by
    rw [Log.assign, hawait, Option.elim_none]
  have htable : (k.assign y).table = k.table := by
    rw [hassign]
    split <;> rfl
  refine ⟨?_, ?_⟩
  · simp only [Log.mounted, htable, h, List.map_map]
    refine List.map_congr_left fun r _ => ?_
    obtain ⟨n, hn⟩ := hf r
    simp only [Function.comp_apply, (Rec.awaitedLive_same _).2.1, hn]
    rfl
  · show (k.assign y).holds = _
    rw [hassign]
    split
    · rfl
    · exact (List.append_nil _).symm

/-! ### Claim resolution as a whole -/

/-- The extents that a mount keeps (R83). -/
def Part.kept (s t : Part) : List Extent := s.idx.extents.filter fun e => !t.stale s.sys.layout.dataBlocks e

/-- The log that a mount leaves. -/
def Part.mountedLog (s t : Part) : Log :=
  ((((List.range s.bands.pool.length).filterMap fun n => s.allLosers.find? (·.p == n)).foldl Log.assign (s.pruned t))).mounted
    s.log.tail s.mnt.blocks

/-- What claim resolution writes; `t` is the part with its logical bands set up. -/
theorem Part.claimResolution_eq {s : Part} (hmode : s.sys.mode = .mounting) (hphase : s.mnt.phase = .resolve) :
    ∃ (t : Part) (rs : List MergeReq) (again : Bool) (w : Window), s.SetUp t s.bands.lbt.length ∧
      s.claimResolution = { s with
        sys := { s.sys with mode := s.mnt.mode, halt := .none }
        bands := { s.bands with
          lbt := t.bands.lbt, pool := t.bands.pool
          resetPend := (List.range s.bands.pool.length).filter fun n => (t.bands.pband n).st == .resetPending }
        log := s.mountedLog t
        idx := { s.idx with
          extents := s.kept t, pressure := decide (61440 ≤ (s.kept t).length + s.idx.reserved) }
        pace := { level := s.mountLevel s.mnt.blocks
                  credit := if s.mountLevel s.mnt.blocks = .pressure then s.cfg.policy.burst else 0, rem := 0 }
        mnt := {}, mrg := { s.mrg with reqs := rs, rescan := again }, win := w } ∧
      (s.mrg.reqs = [] →
        let told := s.mountTold (s.faultsTold (List.range s.bands.lbt.length)) (if s.mnt.degraded then 3 else 2)
          ((List.range s.bands.lbt.length).countP fun l => (s.claim l).winner.isSome) s.mnt.records s.mnt.blocks
          (decide (61440 ≤ (s.kept t).length + s.idx.reserved))
        ((∀ d, s.win.dirPending = some d → d.code ≠ 13) → w = told) ∧
          ∀ num, s.win.dirPending = some { num := num, code := 13 } →
            w = told.finish (if s.mnt.degraded then .failed else .done) [BitVec.ofNat 8 (if s.mnt.degraded then 3 else 2)]) := by
  obtain ⟨t, _, hset, rfl, hresolved⟩ := s.resolveClaims_eq
  obtain ⟨rs, again, w, hend, hw⟩ := s.resolveClaims.endMount_ends
  have hdir : s.resolveClaims.win.dirPending = s.win.dirPending := by
    have hfold : ∀ (ls : List Nat) (x : Window), (ls.foldl (fun x l => x.raise .bandFaulted (some .drive) (some l) none none none)
        x).dirPending = x.dirPending := fun ls x => foldl_frame Window.dirPending (fun _ _ => Window.raise_dirPending ..) ls x
    rw [hresolved]
    exact (congrArg Window.dirPending hset.win).trans (hfold _ _)
  have htold : s.resolveClaims.mountEnded.win =
      s.mountTold (s.faultsTold (List.range s.bands.lbt.length)) (if s.mnt.degraded then 3 else 2)
        ((List.range s.bands.lbt.length).countP fun l => (s.claim l).winner.isSome) s.mnt.records s.mnt.blocks
        (decide (61440 ≤ (s.kept t).length + s.idx.reserved)) := by
    rw [← hset.mappedCount, ← hset.win, hresolved, hset.rest]
    rfl
  refine ⟨t, rs, again, w, hset, ?_, fun hreqs => ?_⟩
  · have hrun : s.claimResolution = s.resolveClaims.endMount := if_pos ⟨hmode, hphase⟩
    rw [hrun, hend, hresolved, hset.rest]
    rfl
  · have hanswered := Part.mountAnswered_eq htold
    rw [hdir, ← hw (by rw [hresolved, hset.rest]; exact hreqs), show s.resolveClaims.mnt = s.mnt by rw [hresolved, hset.rest]]
      at hanswered
    exact hanswered

end Sys2Proof.Machine

namespace Sys2Proof
open Sys2Proof.Machine

/-- Settles O50, by what setting up the bands, the removal of stale extents, the assignment of the losers and the end of mount write. -/
theorem claimResolutionEndsTheMount : Obligations.ClaimResolutionEndsTheMount := by
  intro p q hreset
  have hact : ∀ {t : Machine.Part}, p.claimResolution = t → exec .claimResolution ⟨p, q⟩ = .next ⟨t, q⟩ := fun {t} h => by
    rw [exec_claimResolution, State.act_awake _ hreset]
    exact congrArg (fun x : Machine.Part => Host.Outcome.next (State.mk x q)) h
  refine ⟨fun hno => hact (if_neg fun ⟨hm, hp⟩ => hno.elim (fun h => h hm) fun h => h hp), fun hmode hphase => ?ends,
    fun hmode hphase hnodup hpool => ?claims⟩
  case ends =>
    obtain ⟨t, rs, again, w, hset, hresult, hw⟩ := Part.claimResolution_eq hmode hphase
    obtain ⟨f, hawaits⟩ := (p.pruned t).awaits_assigns
      ((List.range p.bands.pool.length).filterMap fun n => p.allLosers.find? (·.p == n))
    have hlog : p.mountedLog t = { p.log with
        table := (p.mountedLog t).table, holds := (p.mountedLog t).holds, reclaim := p.log.tail, occ := p.mnt.blocks } := by
      unfold Part.mountedLog Log.mounted
      rw [hawaits]
      rfl
    refine ⟨_, hact hresult, rfl, ?_⟩
    dsimp only
    rw [hlog]
    refine ⟨rfl, rfl, rfl, rfl, rfl, rfl, rfl, rfl, rfl, rfl, rfl, rfl, hset.lbt, ⟨rfl, rfl, hw⟩, fun hcands hnotes hfloors l hl => ?_⟩
    have hentry := hset.entry l hl
    have hclaim : p.claim l = {} := by
      unfold Part.claim
      rw [hcands, hnotes, hfloors]
      rfl
    rw [if_pos hl, Part.judged, hclaim] at hentry
    exact hentry
  case claims =>
    obtain ⟨t, rs, again, w, hset, hresult, _⟩ := Part.claimResolution_eq hmode hphase
    have hap : p.Apart := ⟨hnodup, hpool⟩
    have hband : ∀ x ∈ p.mnt.candidates, x.band < p.bands.lbt.length → t.bands.pband x.p = p.judgedBand x := fun x hx hl => by
      rw [hset.band hap x hx, if_pos hl]
    have hgone : ∀ e, (!t.stale p.sys.layout.dataBlocks e) =
        decide (¬ e.seq ≤ (t.bands.lband (e.start / (p.sys.layout.bandBlocks - 1))).floor) := fun e => by
      rw [decide_not]
      rfl
    obtain ⟨f, hawaits⟩ := (p.pruned t).awaits_assigns
      ((List.range p.bands.pool.length).filterMap fun n => p.allLosers.find? (·.p == n))
    have htable : ∃ a : Rec → List Nat, (p.mountedLog t).table = p.log.table.map fun r =>
        r.remounted (lengthsOf p.idx.extents (t.stale p.sys.layout.dataBlocks) r.seq) (a r) := by
      refine ⟨fun r => f (r.lose (lengthsOf p.idx.extents (t.stale p.sys.layout.dataBlocks) r.seq)), ?_⟩
      unfold Part.mountedLog Log.mounted
      rw [hawaits]
      simp only [Part.pruned, List.map_map]
      rfl
    obtain ⟨a, htable⟩ := htable
    refine ⟨_, hact hresult, fun l hl => ⟨?entry, fun x hx => ?winner, fun x hx => ?loser⟩,
      List.filter_congr fun e _ => hgone e,
      ?lives, ?awaited, fun y hy => ?one⟩
    case entry =>
      have hentry := hset.entry l hl
      rw [if_pos hl] at hentry
      refine hentry.trans ?_
      unfold Part.judged Claim.entry
      generalize p.claim l = c
      obtain ⟨winner, faulted, floor, losers⟩ := c
      cases winner <;> rfl
    case winner =>
      obtain ⟨hmem, rfl⟩ := Part.claim_winner hx
      exact (hband x hmem hl).trans (if_pos hx)
    case loser =>
      obtain ⟨hmem, rfl, hwin⟩ := Part.mem_claim_losers.mp hx
      have hlost : t.bands.pband x.p = (p.bands.pband x.p).lost := (hband x hmem hl).trans (if_neg hwin)
      exact ⟨List.mem_filter.mpr ⟨List.mem_range.mpr (hpool x hmem), by rw [hlost]; rfl⟩, hlost⟩
    case lives =>
      dsimp only
      rw [htable, List.filter_map, List.map_map]
      have hkeep : ∀ r ∈ p.log.table, (fun x : Rec => decide (¬ (x.kind = .commit ∨ x.kind = .discard ∧ x.full = true)))
          (r.remounted (lengthsOf p.idx.extents (t.stale p.sys.layout.dataBlocks) r.seq) (a r)) =
            decide (¬ (r.kind = .commit ∨ r.kind = .discard ∧ r.full = true)) := fun r _ =>
        decide_eq_decide.mpr (not_congr (r.remounted_eq (lengthsOf p.idx.extents (t.stale p.sys.layout.dataBlocks) r.seq) (a r)).2.2.1)
      refine (congrArg (List.map _) (List.filter_congr hkeep)).trans (List.map_congr_left fun r hr => ?_)
      obtain ⟨hseq, _, _, hlive⟩ := r.remounted_eq (lengthsOf p.idx.extents (t.stale p.sys.layout.dataBlocks) r.seq) (a r)
      rw [if_neg (of_decide_eq_true (List.mem_filter.mp hr).2)] at hlive
      simp only [Function.comp_apply, hseq, hlive]
      rw [lengthsOf_eq p.idx.extents (p := t.stale p.sys.layout.dataBlocks)
        (gone := fun e => e.seq ≤ (t.bands.lband (e.start / (p.sys.layout.bandBlocks - 1))).floor) (fun _ => rfl)]
      simp only [and_comm]
      rfl
    case awaited =>
      intro x hx
      rw [htable] at hx
      obtain ⟨r, _, rfl⟩ := List.mem_map.mp hx
      obtain ⟨_, hawaited, hsame, hlive⟩ := r.remounted_eq (lengthsOf p.idx.extents (t.stale p.sys.layout.dataBlocks) r.seq) (a r)
      exact fun h => by rw [hlive, hawaited, if_pos (hsame.mp h)]
    case one =>
      have hlosers : p.allLosers = [y] := hy
      have hmem : y ∈ p.mnt.candidates := by
        have hin : y ∈ p.allLosers := by rw [hlosers]; exact List.mem_cons_self
        obtain ⟨l, _, hl⟩ := List.mem_flatMap.mp hin
        exact (Part.mem_claim_losers.mp hl).1
      have hlog : p.mountedLog t = ((p.pruned t).assign y).mounted p.log.tail p.mnt.blocks := by
        unfold Part.mountedLog
        rw [hlosers, losers_one, if_pos (hpool y hmem)]
        rfl
      obtain ⟨g, hg, hpruned⟩ := p.pruned_table t
      have hawaiter := Log.awaiter_map hg hpruned y
      intro names above awaited
      have hawaited : ∀ r, (p.pruned t).awaiter y = some (g r) → p.log.find r.seq = some r → awaited r := fun r ha hr => by
        show ∃ x, (p.mountedLog t).find r.seq = some x ∧ x.awaited = r.awaited ++ [y.p] ∧ (p.mountedLog t).holds = p.log.holds
        rw [hlog]
        exact Log.mounted_awaits hg hpruned ha hr p.log.tail p.mnt.blocks
      refine ⟨fun r hnames hr => hawaited r ?_ hr, fun hnone => ⟨fun r hfind hr hfew => hawaited r ?_ hr, fun hmany => ?_⟩⟩
      · rw [hawaiter, show p.log.table.filter (·.names y) = [r] from hnames]
        rfl
      · rw [hawaiter, show p.log.table.filter (·.names y) = [] from hnone, show p.log.table.find? (·.above y) = some r from hfind]
        exact if_pos hfew
      · have hnobody : (p.pruned t).awaiter y = none := by
          rw [hawaiter, show p.log.table.filter (·.names y) = [] from hnone]
          cases hfind : p.log.table.find? (·.above y) with
          | none => rfl
          | some r => exact if_neg (Nat.not_lt.mpr (hmany r hfind))
        dsimp only
        rw [hlog]
        exact Log.mounted_holds hg hpruned hnobody p.log.tail p.mnt.blocks

end Sys2Proof
end
